-- ==== Sys2Proof/Word.lean ====
section
/-! DEFINITION. The words of the HX24: bytes, the 16-bit numbers of frames, the 32-bit clock values,
and the index types of its tables. -/

namespace Sys2Proof

/-- One byte of the control link (R187). -/
abbrev Byte := BitVec 8

/-- A two-byte item of a frame, high byte first (R188). -/
abbrev Half := BitVec 16

/-- A value of the theatre clock, a count of ticks of 0.25 ms (R41); also a SPRINT cycle count (R20). -/
abbrev ClockValue := BitVec 32

/-- A team, by its place in the team table: team number n (1-16, R1) is index n - 1. -/
abbrev TeamId := Fin 16

/-- A pad address 0-63 (R8). -/
abbrev PadAddr := Fin 64

/-- A seat within a team: seat number n (1-8, R8) is index n - 1. -/
abbrev Seat := Fin 8

/-- A cue slot: page p, slot s is index 16 p + s (R57), which is also its byte in a frame (R188). -/
abbrev SlotId := Fin 64

/-- A page of the cue store, 0-3 (R57). -/
abbrev Page := Fin 4

/-- A scoreboard panel, 0-3 (R172). -/
abbrev PanelId := Fin 4

/-- A route number, 0-31 (R172). -/
abbrev RouteId := Fin 32

/-- A glyph code 0-47 (R171). -/
abbrev Glyph := Fin 48

end Sys2Proof
end

