-- ==== Sys2Proof/Config.lean ====
section
/-! DEFINITION. What is fixed for the part: the capacities of R196, the spans the rules give in ticks,
and the values the manual does not give (opaque: no proof can see them). -/

namespace Sys2Proof.Config

/-- Ticks of the theatre clock in one second (R66: 4,000 ticks to the second). -/
def ticksPerSecond : Nat := 4000

/-- The countdown-flash marker is set when the answer time left falls to this many ticks, 5 s (R113). -/
def flashTicks : Nat := 20000

/-- An answer window of this many seconds or less sets the marker at the grant (R110). -/
def flashSeconds : Nat := 5

/-- The most claims a queue holds (R99). -/
def maxClaims : Nat := 8

/-- The most awards the pending award list holds (R141). -/
def maxPendingAwards : Nat := 16

/-- The most contexts the stack holds (R157). -/
def maxStack : Nat := 3

/-- ROUND_SUSPEND is refused when the stack holds this many contexts or more (R158). -/
def maxSuspended : Nat := 2

/-- The most pads of one team (R11). -/
def maxPadsPerTeam : Nat := 8

/-- The switch completes when this many switch cycles have passed (R30). -/
def maxSwitchCycles : Nat := 16

/-- A PRESENT pad becomes LOST when its miss count reaches this (R23). -/
def missesToLose : Nat := 3

/-- The most entries the reply queue holds (R192). -/
def maxReplies : Nat := 4

/-- Scores lie between minus this and plus this (R1, R143). -/
def maxScore : Int := 9999

/-- The counts of a team, the change count of a ballot entry, the overrun count and the completed count stay
at this once they reach it (R1, R129, R172, R193). -/
def maxCount : Nat := 255

/-- The smallest cell count of a panel (R174). -/
def minCells : Nat := 8

/-- The greatest cell count of a panel, and the number of cells of the board image of a panel (R174, R179). -/
def maxCells : Nat := 32

/-- The most result-data bytes one REPLY frame carries (R191). -/
def maxReplyData : Nat := 246

/-- The most payload bytes a frame carries (R187). -/
def maxPayload : Nat := 250

/-- The revision letter of the part, as the byte IDENTIFY carries (R196).
The manual does not give it: a free value (log 14). -/
opaque revision : Byte

/-- The frames in which the part sends a notice whose content does not fit one frame (R187 limits a payload
to 250 bytes, and R191 divides replies only).  The manual does not say: a free value (log 13). -/
opaque oversizeNotice : Byte → List Byte → List (List Byte)

end Sys2Proof.Config
end

