-- ==== Sys2Proof/Syntax.lean ====
section
/-! DEFINITION. The commands and events the HX24 takes: one constructor of `Instr` for each row of
spec/opcode_table.json, with the operands its rule names. Operands stand as the frames carry them
(raw bytes and halves), so that every value a rule refuses can be written down. -/

namespace Sys2Proof

/-- The two line speeds; also the speed flag of a poll and the speed echo of a reply (R20, R21). -/
inductive LineSpeed where
  | roam
  | sprint
deriving DecidableEq, Repr

/-- The level of an input pin. -/
inductive PinLevel where
  | low
  | high
deriving DecidableEq, Repr

/-- One value for each of the five keys of a pad: pressed or released, or in a set or not (R21, R45). -/
structure Keys where
  buzz : Bool
  a : Bool
  b : Bool
  c : Bool
  d : Bool
deriving DecidableEq, Repr

/-- The payload of a command frame: it fits the layout R188 gives the command's arguments, or it does not. -/
inductive Payload (α : Type) where
  | fits (args : α)
  | misfit
deriving DecidableEq, Repr

/-- The arguments of a command whose rule names none (its one payload byte is not read, R187). -/
inductive NoArgs where
  | none
deriving DecidableEq, Repr

/-- TEAM_SET (R3): a team number, an optional state, an optional tag (absent, or glyph codes). -/
structure TeamSetArgs where
  team : Byte
  state : Option Byte
  tag : Option (Option (List Byte))
deriving DecidableEq, Repr

/-- What PAD_ASSIGN gives a pad: a team and seat, or release (R12, R13). -/
inductive AssignTarget where
  | place (team seat : Byte)
  | release
deriving DecidableEq, Repr

/-- PAD_ASSIGN (R12, R13). -/
structure PadAssignArgs where
  pad : Byte
  target : AssignTarget
deriving DecidableEq, Repr

/-- The pads LAMP_SET names (R39). -/
inductive LampPads where
  | one (pad : Byte)
  | all
deriving DecidableEq, Repr

/-- The lamp state LAMP_SET gives, or clear (R39). -/
inductive LampChoice where
  | lamp (state : Byte)
  | clear
deriving DecidableEq, Repr

/-- LAMP_SET (R39). -/
structure LampSetArgs where
  pads : LampPads
  choice : LampChoice
deriving DecidableEq, Repr

/-- A cue record as CUE_LOAD carries it: the fields of R58, then each field of R59 as an optional item. -/
structure CueFields where
  kind : Byte
  question : Half
  correctPoints : Half
  wrongPoints : Half
  roundWindow : Half
  eligible : Option (List Byte)
  answerWindow : Option Byte
  rebound : Option Bool
  expiryVerdict : Option Byte
  streakBonus : Option Byte
  optionCount : Option Byte
  correctOption : Option Byte
  changePolicy : Option Byte
  speedPlaces : Option Byte
  speedPoints : Option Byte
deriving DecidableEq, Repr

/-- CUE_LOAD (R60). -/
structure CueLoadArgs where
  slot : Byte
  record : CueFields
deriving DecidableEq, Repr

/-- The target of CUE_ERASE: a slot, a page or ALL (R62). -/
inductive EraseTarget where
  | slot (slot : Byte)
  | page (page : Byte)
  | all
deriving DecidableEq, Repr

/-- The argument of QUERY_CUE: a slot or a page (R69, R70). -/
inductive CueQuery where
  | slot (slot : Byte)
  | page (page : Byte)
deriving DecidableEq, Repr

/-- JUDGE (R115). -/
structure JudgeArgs where
  team : Byte
  verdict : Byte
deriving DecidableEq, Repr

/-- The two forms of SCORE_ADJUST (R147). -/
inductive Adjustment where
  | delta (value : Half)
  | set (value : Half)
deriving DecidableEq, Repr

/-- SCORE_ADJUST (R147). -/
structure ScoreAdjustArgs where
  team : Byte
  change : Adjustment
deriving DecidableEq, Repr

/-- ROUTE_SET (R175): a route number and a full route entry. -/
structure RouteSetArgs where
  route : Byte
  source : Byte
  parameter : Option Byte
  panel : Byte
  firstCell : Byte
  width : Byte
  align : Byte
  fill : Byte
  look : Byte
  layer : Byte
  condition : Option Byte
  text : Option (List Byte)
deriving DecidableEq, Repr

/-- The argument of ROUTE_CLEAR: a route number or ALL (R176). -/
inductive RouteTarget where
  | one (route : Byte)
  | all
deriving DecidableEq, Repr

/-- The kinds NOTICE_ENABLE and NOTICE_CLEAR name: one kind code, or ALL (R195). -/
inductive NoticeTarget where
  | kind (code : Byte)
  | all
deriving DecidableEq, Repr

/-- NOTICE_ENABLE (R195). -/
structure NoticeEnableArgs where
  target : NoticeTarget
  on : Bool
deriving DecidableEq, Repr

/-- A command frame whose kind is a command kind (R190, kinds 01h to 2Dh in code order). -/
inductive Command where
  | teamSet (p : Payload TeamSetArgs)
  | padAssign (p : Payload PadAssignArgs)
  | layoutSet (p : Payload Byte)
  | padForget (p : Payload Byte)
  | queryTeam (p : Payload Byte)
  | queryPad (p : Payload Byte)
  | deskSpeed (p : Payload Byte)
  | lampSet (p : Payload LampSetArgs)
  | queryDesk (p : Payload NoArgs)
  | captureSet (p : Payload Byte)
  | queryClock (p : Payload NoArgs)
  | cueLoad (p : Payload CueLoadArgs)
  | cueErase (p : Payload EraseTarget)
  | cuePoint (p : Payload Byte)
  | queryCue (p : Payload CueQuery)
  | roundArm (p : Payload (Option Byte))
  | roundOpen (p : Payload NoArgs)
  | callTime (p : Payload NoArgs)
  | roundAbort (p : Payload NoArgs)
  | roundClear (p : Payload NoArgs)
  | queryRound (p : Payload NoArgs)
  | judge (p : Payload JudgeArgs)
  | claimDrop (p : Payload Byte)
  | queryQueue (p : Payload NoArgs)
  | reveal (p : Payload (Option Byte))
  | queryBallot (p : Payload NoArgs)
  | scoreAdjust (p : Payload ScoreAdjustArgs)
  | scoreLock (p : Payload Byte)
  | scoreUnlock (p : Payload NoArgs)
  | queryAwards (p : Payload NoArgs)
  | roundSuspend (p : Payload NoArgs)
  | roundResume (p : Payload NoArgs)
  | silenceArm (p : Payload Byte)
  | queryStack (p : Payload NoArgs)
  | boardScan (p : Payload NoArgs)
  | boardPublish (p : Payload NoArgs)
  | boardSet (p : Payload Bool)
  | routeSet (p : Payload RouteSetArgs)
  | routeClear (p : Payload RouteTarget)
  | queryBoard (p : Payload (Option Byte))
  | identify (p : Payload NoArgs)
  | keepalive (p : Payload NoArgs)
  | restart (p : Payload NoArgs)
  | noticeEnable (p : Payload NoticeEnableArgs)
  | noticeClear (p : Payload NoticeTarget)
deriving DecidableEq, Repr

/-- A complete frame whose check was good: a command, or a kind that is no command kind (R190). -/
inductive Frame where
  | command (c : Command)
  | badKind (kind : Byte)
deriving DecidableEq, Repr

/-- A reply that arrives on the desk line in the slot of a poll (R21), and whether its check is good. -/
structure PadReply where
  address : Byte
  keys : Keys
  echo : LineSpeed
  batteryLow : Bool
  age : Option Byte
  checkGood : Bool
deriving DecidableEq, Repr

/-- A panel's acknowledgement of an update (R173), and whether its check is good. -/
structure PanelAnswer where
  panel : Byte
  checkGood : Bool
deriving DecidableEq, Repr

/-- A panel's answer to an identify (R173), and whether its check is good. -/
structure IdentifyReply where
  panel : Byte
  cells : Byte
  checkGood : Bool
deriving DecidableEq, Repr

/-- The commands and events of the HX24, one constructor for each row of the opcode table, in its order. -/
inductive Instr where
  | powerOnReset (strap : PinLevel)
  | lineReset (strap : PinLevel)
  | teamSet (p : Payload TeamSetArgs)
  | padAssign (p : Payload PadAssignArgs)
  | layoutSet (p : Payload Byte)
  | padForget (p : Payload Byte)
  | queryTeam (p : Payload Byte)
  | queryPad (p : Payload Byte)
  | deskSpeed (p : Payload Byte)
  | lampSet (p : Payload LampSetArgs)
  | queryDesk (p : Payload NoArgs)
  | captureSet (p : Payload Byte)
  | queryClock (p : Payload NoArgs)
  | cueLoad (p : Payload CueLoadArgs)
  | cueErase (p : Payload EraseTarget)
  | cuePoint (p : Payload Byte)
  | queryCue (p : Payload CueQuery)
  | roundArm (p : Payload (Option Byte))
  | roundOpen (p : Payload NoArgs)
  | callTime (p : Payload NoArgs)
  | roundAbort (p : Payload NoArgs)
  | roundClear (p : Payload NoArgs)
  | queryRound (p : Payload NoArgs)
  | judge (p : Payload JudgeArgs)
  | claimDrop (p : Payload Byte)
  | queryQueue (p : Payload NoArgs)
  | reveal (p : Payload (Option Byte))
  | queryBallot (p : Payload NoArgs)
  | scoreAdjust (p : Payload ScoreAdjustArgs)
  | scoreLock (p : Payload Byte)
  | scoreUnlock (p : Payload NoArgs)
  | queryAwards (p : Payload NoArgs)
  | roundSuspend (p : Payload NoArgs)
  | roundResume (p : Payload NoArgs)
  | silenceArm (p : Payload Byte)
  | queryStack (p : Payload NoArgs)
  | boardScan (p : Payload NoArgs)
  | boardPublish (p : Payload NoArgs)
  | boardSet (p : Payload Bool)
  | routeSet (p : Payload RouteSetArgs)
  | routeClear (p : Payload RouteTarget)
  | queryBoard (p : Payload (Option Byte))
  | identify (p : Payload NoArgs)
  | keepalive (p : Payload NoArgs)
  | restart (p : Payload NoArgs)
  | restartEffect
  | noticeEnable (p : Payload NoticeEnableArgs)
  | noticeClear (p : Payload NoticeTarget)
  | badKindFrame (kind : Byte)
  | checkReject
  | lengthReject
  | truncatedReject
  | replySent
  | noticeBegin
  | noticeEnd
  | roamCycleStart
  | sprintCycleStart
  | pollReplyTaken (r : PadReply)
  | pollMiss
  | switchCycleEnd
  | sprintCycleEnd
  | roundDeadlineExpiry
  | answerDeadlineExpiry
  | flashInstant
  | lapse
  | silenceDeadline
  | panelAck (a : PanelAnswer)
  | panelAckTimeout
  | identifyAnswer (a : IdentifyReply)
  | identifyTimeout
  | countdownSecond
  | byteReceived (byte : Byte) (stopBit : Bool)
deriving DecidableEq, Repr

end Sys2Proof
end

