-- ==== Sys2Proof/WellFormed.lean ====
section
/-! DEFINITION. Which terms of `Instr` stand for something that can reach the HX24: a command whose
arguments a frame can carry (R187, R188), a frame kind that is no command kind (R190), a pad's reply of
the form R21 gives. -/

namespace Sys2Proof

/-- A command kind is one of 01h to 2Dh (R190). -/
def isCommandKind (kind : Byte) : Bool := decide (1 ≤ kind.toNat ∧ kind.toNat ≤ 45)

/-- The bytes of an optional one-byte item (R188). -/
def optionSize {α : Type} (o : Option α) : Nat := if o.isSome then 2 else 1

/-- The bytes of an optional list of one-byte items (R188). -/
def optionListSize (o : Option (List Byte)) : Nat :=
  match o with
  | none => 1
  | some l => 2 + l.length

/-- TEAM_SET's payload fits a frame. -/
def TeamSetArgs.fitsFrame (a : TeamSetArgs) : Bool :=
  match a.tag with
  | none => true
  | some t => decide (2 + optionSize a.state + optionListSize t ≤ Config.maxPayload)

/-- CUE_LOAD's payload fits a frame. -/
def CueLoadArgs.fitsFrame (a : CueLoadArgs) : Bool :=
  let r := a.record
  decide (10 + optionListSize r.eligible + optionSize r.answerWindow + optionSize r.rebound
    + optionSize r.expiryVerdict + optionSize r.streakBonus + optionSize r.optionCount
    + optionSize r.correctOption + optionSize r.changePolicy + optionSize r.speedPlaces
    + optionSize r.speedPoints ≤ Config.maxPayload)

/-- A source of R177 carries a parameter: TEAM_SCORE, TEAM_TAG, RANK_TEAM, RANK_SCORE, QUEUE_TEAM, TALLY,
by their positions in the table of R177. -/
def sourceTakesParameter (source : Byte) : Bool :=
  decide (source.toNat ≤ 3 ∨ source.toNat = 6 ∨ source.toNat = 10)

/-- The layer OVERLAY, by its position in R175, is followed by its condition (R188). -/
def layerTakesCondition (layer : Byte) : Bool := decide (layer.toNat = 1)

/-- ROUTE_SET's arguments can stand in a frame: a parameter and a condition exactly where the names that
carry them call for one (R188), and the whole no longer than a payload. -/
def RouteSetArgs.fitsFrame (a : RouteSetArgs) : Bool :=
  (a.parameter.isSome == sourceTakesParameter a.source)
    && (a.condition.isSome == layerTakesCondition a.layer)
    && decide (7 + optionSize a.parameter + optionSize a.condition + optionListSize a.text ≤ Config.maxPayload)

/-- The payload, where it fits its layout, can stand in a frame. -/
def Payload.fitsFrame {α : Type} (check : α → Bool) : Payload α → Bool
  | .fits a => check a
  | .misfit => true

/-- A reply a pad can give: its address is a pad address, and its age field is present exactly when its
speed echo is SPRINT (R21). -/
def PadReply.wellFormed (r : PadReply) : Bool :=
  decide (r.address.toNat < 64) && (r.age.isSome == decide (r.echo = .sprint))

/-- The term stands for a command or event that can reach the part. -/
def Instr.wellFormed : Instr → Bool
  | .teamSet p => p.fitsFrame TeamSetArgs.fitsFrame
  | .cueLoad p => p.fitsFrame CueLoadArgs.fitsFrame
  | .routeSet p => p.fitsFrame RouteSetArgs.fitsFrame
  | .badKindFrame kind => !isCommandKind kind
  | .pollReplyTaken r => r.wellFormed
  | .powerOnReset _ | .lineReset _ | .padAssign _ | .layoutSet _ | .padForget _ | .queryTeam _
  | .queryPad _ | .deskSpeed _ | .lampSet _ | .queryDesk _ | .captureSet _ | .queryClock _
  | .cueErase _ | .cuePoint _ | .queryCue _ | .roundArm _ | .roundOpen _ | .callTime _
  | .roundAbort _ | .roundClear _ | .queryRound _ | .judge _ | .claimDrop _ | .queryQueue _
  | .reveal _ | .queryBallot _ | .scoreAdjust _ | .scoreLock _ | .scoreUnlock _ | .queryAwards _
  | .roundSuspend _ | .roundResume _ | .silenceArm _ | .queryStack _ | .boardScan _
  | .boardPublish _ | .boardSet _ | .routeClear _ | .queryBoard _ | .identify _ | .keepalive _
  | .restart _ | .restartEffect | .noticeEnable _ | .noticeClear _ | .checkReject | .lengthReject
  | .truncatedReject | .replySent | .noticeBegin | .noticeEnd | .roamCycleStart
  | .sprintCycleStart | .pollMiss | .switchCycleEnd | .sprintCycleEnd | .roundDeadlineExpiry
  | .answerDeadlineExpiry | .flashInstant | .lapse | .silenceDeadline | .panelAck _
  | .panelAckTimeout | .identifyAnswer _ | .identifyTimeout | .countdownSecond
  | .byteReceived _ _ => true

end Sys2Proof
end

