-- ==== Sys2Proof/Decode.lean ====
section
/-! DEFINITION. Decoding.  The rows of the opcode table give no bits, so no table word spells a command.
What the HX24 does decode is the frame of the control link: its check (R187), its kind (R190) and the
layout of its payload (R188).  The encoder of a command's payload stands after the decoder. -/

namespace Sys2Proof

/-- The command a table word spells: none, since no row of spec/opcode_table.json gives bits. -/
def decodeTableWord (_nbits _w : Nat) : Option Instr := none

/-! ### The check word (R187) -/

/-- One bit of the CRC with polynomial x^16 + x^12 + x^5 + 1, most significant bit first (R187). -/
def crcBit (c : BitVec 16) : BitVec 16 :=
  if c.msb then (c <<< 1) ^^^ 0x1021#16 else c <<< 1

/-- One byte taken into the CRC (R187). -/
def crcByte (c : BitVec 16) (b : Byte) : BitVec 16 :=
  crcBit (crcBit (crcBit (crcBit (crcBit (crcBit (crcBit (crcBit (c ^^^ (b ++ 0#8)))))))))

/-- The CRC of the length, kind and payload bytes: initial value FFFFh, no final inversion (R187). -/
def crc16 (bytes : List Byte) : BitVec 16 := bytes.foldl crcByte 0xFFFF#16

/-- The high byte of a half. -/
def highByte (h : Half) : Byte := h.extractLsb' 8 8

/-- The low byte of a half. -/
def lowByte (h : Half) : Byte := h.extractLsb' 0 8

/-- The start marker of a frame (R187). -/
def startMarker : Byte := 0xA5#8

/-- A whole frame: start marker, length, kind, payload and check, high byte first (R187). -/
def frameBytes (kind : Byte) (payload : List Byte) : List Byte :=
  let body := BitVec.ofNat 8 payload.length :: kind :: payload
  startMarker :: body ++ [highByte (crc16 body), lowByte (crc16 body)]

/-! ### Reading items (R188) -/

/-- Reads one item from the front of a payload. -/
abbrev Reader (α : Type) := List Byte → Option (α × List Byte)

namespace Reader

/-- One byte. -/
def byte : Reader Byte
  | [] => none
  | b :: rest => some (b, rest)

/-- Two bytes, high byte first. -/
def half : Reader Half
  | h :: l :: rest => some (h ++ l, rest)
  | _ => none

/-- A flag: 01h or 00h, and nothing else. -/
def flag : Reader Bool
  | [] => none
  | b :: rest => if b = 0#8 then some (false, rest) else if b = 1#8 then some (true, rest) else none

/-- Two readings in a row. -/
def andThen {α β : Type} (r : Reader α) (f : α → Reader β) : Reader β := fun bytes =>
  match r bytes with
  | none => none
  | some (a, rest) => f a rest

/-- A reading that takes nothing. -/
def done {α : Type} (a : α) : Reader α := fun bytes => some (a, bytes)

/-- An optional item: a presence byte, then the item when present. -/
def optional {α : Type} (r : Reader α) : Reader (Option α) :=
  andThen flag fun present => if present then andThen r fun a => done (some a) else done none

/-- The given number of bytes. -/
def bytes (n : Nat) : Reader (List Byte) := fun l =>
  if n ≤ l.length then some (l.take n, l.drop n) else none

/-- A list of one-byte items: a count byte, then the items. -/
def byteList : Reader (List Byte) := andThen byte fun n => bytes n.toNat

/-- An item that a name carries only in some cases. -/
def onlyIf {α : Type} (present : Bool) (r : Reader α) : Reader (Option α) :=
  if present then andThen r fun a => done (some a) else done none

/-- The whole payload, which fits its layout when nothing is missing and nothing is left over (R188). -/
def whole {α : Type} (r : Reader α) (payload : List Byte) : Payload α :=
  match r payload with
  | some (a, []) => .fits a
  | _ => .misfit

/-- The payload of a command that names no argument: one byte, not read (R187). -/
def noArgs : Reader NoArgs := andThen byte fun _ => done .none

def teamSet : Reader TeamSetArgs :=
  andThen byte fun team => andThen (optional byte) fun state =>
  andThen (optional (optional byteList)) fun tag => done ⟨team, state, tag⟩

def assignTarget : Reader AssignTarget :=
  andThen byte fun form =>
  if form = 0#8 then andThen byte fun team => andThen byte fun seat => done (.place team seat)
  else if form = 1#8 then done .release
  else fun _ => none

def padAssign : Reader PadAssignArgs :=
  andThen byte fun pad => andThen assignTarget fun target => done ⟨pad, target⟩

def lampPads : Reader LampPads :=
  andThen byte fun form =>
  if form = 0#8 then andThen byte fun pad => done (.one pad)
  else if form = 1#8 then done .all
  else fun _ => none

def lampChoice : Reader LampChoice :=
  andThen byte fun form =>
  if form = 0#8 then andThen byte fun state => done (.lamp state)
  else if form = 1#8 then done .clear
  else fun _ => none

def lampSet : Reader LampSetArgs :=
  andThen lampPads fun pads => andThen lampChoice fun choice => done ⟨pads, choice⟩

def cueFields : Reader CueFields :=
  andThen byte fun kind => andThen half fun question => andThen half fun correctPoints =>
  andThen half fun wrongPoints => andThen half fun roundWindow =>
  andThen (optional byteList) fun eligible => andThen (optional byte) fun answerWindow =>
  andThen (optional flag) fun rebound => andThen (optional byte) fun expiryVerdict =>
  andThen (optional byte) fun streakBonus => andThen (optional byte) fun optionCount =>
  andThen (optional byte) fun correctOption => andThen (optional byte) fun changePolicy =>
  andThen (optional byte) fun speedPlaces => andThen (optional byte) fun speedPoints =>
  done { kind, question, correctPoints, wrongPoints, roundWindow, eligible, answerWindow, rebound,
         expiryVerdict, streakBonus, optionCount, correctOption, changePolicy, speedPlaces, speedPoints }

def cueLoad : Reader CueLoadArgs :=
  andThen byte fun slot => andThen cueFields fun record => done ⟨slot, record⟩

def eraseTarget : Reader EraseTarget :=
  andThen byte fun form =>
  if form = 0#8 then andThen byte fun slot => done (.slot slot)
  else if form = 1#8 then andThen byte fun page => done (.page page)
  else if form = 2#8 then done .all
  else fun _ => none

def cueQuery : Reader CueQuery :=
  andThen byte fun form =>
  if form = 0#8 then andThen byte fun slot => done (.slot slot)
  else if form = 1#8 then andThen byte fun page => done (.page page)
  else fun _ => none

def judge : Reader JudgeArgs :=
  andThen byte fun team => andThen byte fun verdict => done ⟨team, verdict⟩

def adjustment : Reader Adjustment :=
  andThen byte fun form =>
  if form = 0#8 then andThen half fun v => done (.delta v)
  else if form = 1#8 then andThen half fun v => done (.set v)
  else fun _ => none

def scoreAdjust : Reader ScoreAdjustArgs :=
  andThen byte fun team => andThen adjustment fun change => done ⟨team, change⟩

def routeSet : Reader RouteSetArgs :=
  andThen byte fun route => andThen byte fun source =>
  andThen (onlyIf (sourceTakesParameter source) byte) fun parameter =>
  andThen byte fun panel => andThen byte fun firstCell => andThen byte fun width =>
  andThen byte fun align => andThen byte fun fill => andThen byte fun look =>
  andThen byte fun layer => andThen (onlyIf (layerTakesCondition layer) byte) fun condition =>
  andThen (optional byteList) fun text =>
  done { route, source, parameter, panel, firstCell, width, align, fill, look, layer, condition, text }

def routeTarget : Reader RouteTarget :=
  andThen byte fun form =>
  if form = 0#8 then andThen byte fun route => done (.one route)
  else if form = 1#8 then done .all
  else fun _ => none

def noticeTarget : Reader NoticeTarget :=
  andThen byte fun form =>
  if form = 0#8 then andThen byte fun code => done (.kind code)
  else if form = 1#8 then done .all
  else fun _ => none

def noticeEnable : Reader NoticeEnableArgs :=
  andThen noticeTarget fun target => andThen flag fun on => done ⟨target, on⟩

end Reader

/-- The frame a kind byte and a payload make (R188, R190). -/
def decodeFrame (kind : Byte) (payload : List Byte) : Frame :=
  match kind.toNat with
  | 0x01 => .command (.teamSet (Reader.whole Reader.teamSet payload))
  | 0x02 => .command (.padAssign (Reader.whole Reader.padAssign payload))
  | 0x03 => .command (.layoutSet (Reader.whole Reader.byte payload))
  | 0x04 => .command (.padForget (Reader.whole Reader.byte payload))
  | 0x05 => .command (.queryTeam (Reader.whole Reader.byte payload))
  | 0x06 => .command (.queryPad (Reader.whole Reader.byte payload))
  | 0x07 => .command (.deskSpeed (Reader.whole Reader.byte payload))
  | 0x08 => .command (.lampSet (Reader.whole Reader.lampSet payload))
  | 0x09 => .command (.queryDesk (Reader.whole Reader.noArgs payload))
  | 0x0A => .command (.captureSet (Reader.whole Reader.byte payload))
  | 0x0B => .command (.queryClock (Reader.whole Reader.noArgs payload))
  | 0x0C => .command (.cueLoad (Reader.whole Reader.cueLoad payload))
  | 0x0D => .command (.cueErase (Reader.whole Reader.eraseTarget payload))
  | 0x0E => .command (.cuePoint (Reader.whole Reader.byte payload))
  | 0x0F => .command (.queryCue (Reader.whole Reader.cueQuery payload))
  | 0x10 => .command (.roundArm (Reader.whole (Reader.optional Reader.byte) payload))
  | 0x11 => .command (.roundOpen (Reader.whole Reader.noArgs payload))
  | 0x12 => .command (.callTime (Reader.whole Reader.noArgs payload))
  | 0x13 => .command (.roundAbort (Reader.whole Reader.noArgs payload))
  | 0x14 => .command (.roundClear (Reader.whole Reader.noArgs payload))
  | 0x15 => .command (.queryRound (Reader.whole Reader.noArgs payload))
  | 0x16 => .command (.judge (Reader.whole Reader.judge payload))
  | 0x17 => .command (.claimDrop (Reader.whole Reader.byte payload))
  | 0x18 => .command (.queryQueue (Reader.whole Reader.noArgs payload))
  | 0x19 => .command (.reveal (Reader.whole (Reader.optional Reader.byte) payload))
  | 0x1A => .command (.queryBallot (Reader.whole Reader.noArgs payload))
  | 0x1B => .command (.scoreAdjust (Reader.whole Reader.scoreAdjust payload))
  | 0x1C => .command (.scoreLock (Reader.whole Reader.byte payload))
  | 0x1D => .command (.scoreUnlock (Reader.whole Reader.noArgs payload))
  | 0x1E => .command (.queryAwards (Reader.whole Reader.noArgs payload))
  | 0x1F => .command (.roundSuspend (Reader.whole Reader.noArgs payload))
  | 0x20 => .command (.roundResume (Reader.whole Reader.noArgs payload))
  | 0x21 => .command (.silenceArm (Reader.whole Reader.byte payload))
  | 0x22 => .command (.queryStack (Reader.whole Reader.noArgs payload))
  | 0x23 => .command (.boardScan (Reader.whole Reader.noArgs payload))
  | 0x24 => .command (.boardPublish (Reader.whole Reader.noArgs payload))
  | 0x25 => .command (.boardSet (Reader.whole Reader.flag payload))
  | 0x26 => .command (.routeSet (Reader.whole Reader.routeSet payload))
  | 0x27 => .command (.routeClear (Reader.whole Reader.routeTarget payload))
  | 0x28 => .command (.queryBoard (Reader.whole (Reader.optional Reader.byte) payload))
  | 0x29 => .command (.identify (Reader.whole Reader.noArgs payload))
  | 0x2A => .command (.keepalive (Reader.whole Reader.noArgs payload))
  | 0x2B => .command (.restart (Reader.whole Reader.noArgs payload))
  | 0x2C => .command (.noticeEnable (Reader.whole Reader.noticeEnable payload))
  | 0x2D => .command (.noticeClear (Reader.whole Reader.noticeTarget payload))
  | _ => .badKind kind

/-! ### The encoder (R188, R190) -/

/-- The kind code of a command (R190). -/
def Command.code : Command → Byte
  | .teamSet _ => 0x01#8
  | .padAssign _ => 0x02#8
  | .layoutSet _ => 0x03#8
  | .padForget _ => 0x04#8
  | .queryTeam _ => 0x05#8
  | .queryPad _ => 0x06#8
  | .deskSpeed _ => 0x07#8
  | .lampSet _ => 0x08#8
  | .queryDesk _ => 0x09#8
  | .captureSet _ => 0x0A#8
  | .queryClock _ => 0x0B#8
  | .cueLoad _ => 0x0C#8
  | .cueErase _ => 0x0D#8
  | .cuePoint _ => 0x0E#8
  | .queryCue _ => 0x0F#8
  | .roundArm _ => 0x10#8
  | .roundOpen _ => 0x11#8
  | .callTime _ => 0x12#8
  | .roundAbort _ => 0x13#8
  | .roundClear _ => 0x14#8
  | .queryRound _ => 0x15#8
  | .judge _ => 0x16#8
  | .claimDrop _ => 0x17#8
  | .queryQueue _ => 0x18#8
  | .reveal _ => 0x19#8
  | .queryBallot _ => 0x1A#8
  | .scoreAdjust _ => 0x1B#8
  | .scoreLock _ => 0x1C#8
  | .scoreUnlock _ => 0x1D#8
  | .queryAwards _ => 0x1E#8
  | .roundSuspend _ => 0x1F#8
  | .roundResume _ => 0x20#8
  | .silenceArm _ => 0x21#8
  | .queryStack _ => 0x22#8
  | .boardScan _ => 0x23#8
  | .boardPublish _ => 0x24#8
  | .boardSet _ => 0x25#8
  | .routeSet _ => 0x26#8
  | .routeClear _ => 0x27#8
  | .queryBoard _ => 0x28#8
  | .identify _ => 0x29#8
  | .keepalive _ => 0x2A#8
  | .restart _ => 0x2B#8
  | .noticeEnable _ => 0x2C#8
  | .noticeClear _ => 0x2D#8

/-- Writing items (R188). -/
def writeHalf (h : Half) : List Byte := [highByte h, lowByte h]
def writeFlag (b : Bool) : List Byte := [if b then 1#8 else 0#8]
def writeOptional {α : Type} (w : α → List Byte) : Option α → List Byte
  | none => [0#8]
  | some a => 1#8 :: w a
def writeByte (b : Byte) : List Byte := [b]
def writeBytes (l : List Byte) : List Byte := BitVec.ofNat 8 l.length :: l
def writeNone : NoArgs → List Byte
  | .none => [0#8]

def TeamSetArgs.write (a : TeamSetArgs) : List Byte :=
  a.team :: writeOptional writeByte a.state ++ writeOptional (writeOptional writeBytes) a.tag

def PadAssignArgs.write (a : PadAssignArgs) : List Byte :=
  a.pad :: (match a.target with | .place team seat => [0#8, team, seat] | .release => [1#8])

def LampSetArgs.write (a : LampSetArgs) : List Byte :=
  (match a.pads with | .one pad => [0#8, pad] | .all => [1#8])
    ++ (match a.choice with | .lamp state => [0#8, state] | .clear => [1#8])

def CueLoadArgs.write (a : CueLoadArgs) : List Byte :=
  let r := a.record
  a.slot :: r.kind :: writeHalf r.question ++ writeHalf r.correctPoints ++ writeHalf r.wrongPoints
    ++ writeHalf r.roundWindow ++ writeOptional writeBytes r.eligible
    ++ writeOptional writeByte r.answerWindow ++ writeOptional writeFlag r.rebound
    ++ writeOptional writeByte r.expiryVerdict ++ writeOptional writeByte r.streakBonus
    ++ writeOptional writeByte r.optionCount ++ writeOptional writeByte r.correctOption
    ++ writeOptional writeByte r.changePolicy ++ writeOptional writeByte r.speedPlaces
    ++ writeOptional writeByte r.speedPoints

def EraseTarget.write : EraseTarget → List Byte
  | .slot n => [0#8, n]
  | .page n => [1#8, n]
  | .all => [2#8]

def CueQuery.write : CueQuery → List Byte
  | .slot n => [0#8, n]
  | .page n => [1#8, n]

def JudgeArgs.write (a : JudgeArgs) : List Byte := [a.team, a.verdict]

def ScoreAdjustArgs.write (a : ScoreAdjustArgs) : List Byte :=
  a.team :: (match a.change with | .delta v => 0#8 :: writeHalf v | .set v => 1#8 :: writeHalf v)

def RouteSetArgs.write (a : RouteSetArgs) : List Byte :=
  a.route :: a.source :: a.parameter.toList
    ++ [a.panel, a.firstCell, a.width, a.align, a.fill, a.look, a.layer]
    ++ a.condition.toList ++ writeOptional writeBytes a.text

def RouteTarget.write : RouteTarget → List Byte
  | .one route => [0#8, route]
  | .all => [1#8]

def NoticeTarget.write : NoticeTarget → List Byte
  | .kind code => [0#8, code]
  | .all => [1#8]

def NoticeEnableArgs.write (a : NoticeEnableArgs) : List Byte := a.target.write ++ writeFlag a.on

/-- The bytes of a payload that fits; none for one that does not. -/
def Payload.write {α : Type} (w : α → List Byte) : Payload α → Option (List Byte)
  | .fits a => some (w a)
  | .misfit => none

/-- The command frame a constructor stands for; none for an event. -/
def Instr.frameCommand : Instr → Option Command
  | .teamSet p => some (.teamSet p)
  | .padAssign p => some (.padAssign p)
  | .layoutSet p => some (.layoutSet p)
  | .padForget p => some (.padForget p)
  | .queryTeam p => some (.queryTeam p)
  | .queryPad p => some (.queryPad p)
  | .deskSpeed p => some (.deskSpeed p)
  | .lampSet p => some (.lampSet p)
  | .queryDesk p => some (.queryDesk p)
  | .captureSet p => some (.captureSet p)
  | .queryClock p => some (.queryClock p)
  | .cueLoad p => some (.cueLoad p)
  | .cueErase p => some (.cueErase p)
  | .cuePoint p => some (.cuePoint p)
  | .queryCue p => some (.queryCue p)
  | .roundArm p => some (.roundArm p)
  | .roundOpen p => some (.roundOpen p)
  | .callTime p => some (.callTime p)
  | .roundAbort p => some (.roundAbort p)
  | .roundClear p => some (.roundClear p)
  | .queryRound p => some (.queryRound p)
  | .judge p => some (.judge p)
  | .claimDrop p => some (.claimDrop p)
  | .queryQueue p => some (.queryQueue p)
  | .reveal p => some (.reveal p)
  | .queryBallot p => some (.queryBallot p)
  | .scoreAdjust p => some (.scoreAdjust p)
  | .scoreLock p => some (.scoreLock p)
  | .scoreUnlock p => some (.scoreUnlock p)
  | .queryAwards p => some (.queryAwards p)
  | .roundSuspend p => some (.roundSuspend p)
  | .roundResume p => some (.roundResume p)
  | .silenceArm p => some (.silenceArm p)
  | .queryStack p => some (.queryStack p)
  | .boardScan p => some (.boardScan p)
  | .boardPublish p => some (.boardPublish p)
  | .boardSet p => some (.boardSet p)
  | .routeSet p => some (.routeSet p)
  | .routeClear p => some (.routeClear p)
  | .queryBoard p => some (.queryBoard p)
  | .identify p => some (.identify p)
  | .keepalive p => some (.keepalive p)
  | .restart p => some (.restart p)
  | .noticeEnable p => some (.noticeEnable p)
  | .noticeClear p => some (.noticeClear p)
  | .powerOnReset _ | .lineReset _ | .restartEffect | .badKindFrame _ | .checkReject
  | .lengthReject | .truncatedReject | .replySent | .noticeBegin | .noticeEnd | .roamCycleStart
  | .sprintCycleStart | .pollReplyTaken _ | .pollMiss | .switchCycleEnd | .sprintCycleEnd
  | .roundDeadlineExpiry | .answerDeadlineExpiry | .flashInstant | .lapse | .silenceDeadline
  | .panelAck _ | .panelAckTimeout | .identifyAnswer _ | .identifyTimeout | .countdownSecond
  | .byteReceived _ _ => none
/-- The payload of a command whose arguments fit their layout (R188). -/
def Command.payload : Command → Option (List Byte)
  | .teamSet p => p.write TeamSetArgs.write
  | .padAssign p => p.write PadAssignArgs.write
  | .layoutSet p | .padForget p | .queryTeam p | .queryPad p | .deskSpeed p | .captureSet p
  | .cuePoint p | .claimDrop p | .scoreLock p | .silenceArm p => p.write writeByte
  | .lampSet p => p.write LampSetArgs.write
  | .cueLoad p => p.write CueLoadArgs.write
  | .cueErase p => p.write EraseTarget.write
  | .queryCue p => p.write CueQuery.write
  | .roundArm p | .reveal p | .queryBoard p => p.write (writeOptional writeByte)
  | .judge p => p.write JudgeArgs.write
  | .scoreAdjust p => p.write ScoreAdjustArgs.write
  | .boardSet p => p.write writeFlag
  | .routeSet p => p.write RouteSetArgs.write
  | .routeClear p => p.write RouteTarget.write
  | .noticeEnable p => p.write NoticeEnableArgs.write
  | .noticeClear p => p.write NoticeTarget.write
  | .queryDesk p | .queryClock p | .roundOpen p | .callTime p | .roundAbort p | .roundClear p
  | .queryRound p | .queryQueue p | .queryBallot p | .scoreUnlock p | .queryAwards p
  | .roundSuspend p | .roundResume p | .queryStack p | .boardScan p | .boardPublish p
  | .identify p | .keepalive p | .restart p => p.write writeNone

end Sys2Proof
end

