-- ==== Sys2Proof/Machine/State.lean ====
section
/-! DEFINITION. The state of the HX24, block by block as 00_scope.md lists them, as plain data, and the
state after a power-on reset. -/

namespace Sys2Proof.Machine

/-! ### Desk roster (chapter 1) -/

/-- The state of a team (R1, R2). -/
inductive TeamState where
  | unused
  | present
  | benched
deriving DecidableEq, Repr

/-- The cause of an award (R142). -/
inductive AwardCause where
  | correct
  | wrong
  | streak
  | speed
  | revealRight
  | revealWrong
  | manual
deriving DecidableEq, Repr

/-- The last award of a team: its points and cause (R1, R143). -/
structure LastAward where
  points : Int
  cause : AwardCause
deriving DecidableEq, Repr

/-- One record of the team table (R1).  Its number is its index. -/
structure TeamRecord where
  state : TeamState
  tag : Option (List Glyph)
  score : Int
  correct : Nat
  wrong : Nat
  streak : Nat
  last : Option LastAward
deriving DecidableEq, Repr

/-- The layout mode (R9). -/
inductive Layout where
  | grid16
  | grid8
  | split
  | free
deriving DecidableEq, Repr

/-- A team and a seat: what a pad is assigned to (R11). -/
structure Place where
  team : TeamId
  seat : Seat
deriving DecidableEq, Repr

/-- The assignment source of a pad; the override team and seat are present exactly with OVERRIDE (R8, R11). -/
inductive Assignment where
  | byDefault
  | override (place : Place)
  | released
deriving DecidableEq, Repr

/-- The presence of a pad (R8, R20). -/
inductive PadPresence where
  | absent
  | present
  | lost
deriving DecidableEq, Repr

/-- The lamp state of a pad (R21, R37). -/
inductive Lamp where
  | off
  | on
  | slow
  | fast
deriving DecidableEq, Repr

/-- A key change seen but not yet confirmed (R45). -/
structure Candidate where
  changed : Keys
  firstSight : ClockValue
  age : Byte
  agreeing : Nat
deriving DecidableEq, Repr

/-- One record of the pad roster (R8).  Its address is its index. -/
structure PadRecord where
  presence : PadPresence
  assignment : Assignment
  misses : Nat
  lagging : Bool
  batteryLow : Bool
  lampOverride : Option Lamp
  keys : Keys
  candidate : Option Candidate
deriving DecidableEq, Repr

/-- The desk roster: team table, pad roster, layout mode. -/
structure Roster where
  teams : Vector TeamRecord 16
  pads : Vector PadRecord 64
  layout : Layout
deriving DecidableEq, Repr

/-! ### Desk line controller (chapter 2) -/

/-- The speed setting (R20, R35). -/
inductive SpeedSetting where
  | auto
  | sprint
deriving DecidableEq, Repr

/-- The switch record: switch cycles completed and the pads that have echoed SPRINT (R20, R28). -/
structure SwitchRecord where
  completed : Nat
  echoed : List PadAddr
deriving DecidableEq, Repr

/-- The kind of a poll cycle (R24, R26, R28). -/
inductive CycleKind where
  | roam
  | switching
  | sprint
deriving DecidableEq, Repr

/-- A poll on the desk line (R21). -/
structure Poll where
  address : PadAddr
  flag : LineSpeed
  lamp : Lamp
deriving DecidableEq, Repr

/-- How far the cycle has come: not begun, awaiting the answer to the poll of a PRESENT pad with the
addresses still to poll, awaiting the answer to the discovery probe, all its transactions ended, or abandoned by
RESTART with the slot of a poll still open (R40; log 30, DESIGN CHOICE). -/
inductive CycleStage where
  | atStart
  | polling (poll : Poll) (rest : List PadAddr)
  | probing (poll : Poll)
  | finished
  | draining (poll : Poll)
deriving DecidableEq, Repr

/-- The desk line controller (R20). -/
structure DeskLine where
  speed : LineSpeed
  setting : SpeedSetting
  switch : Option SwitchRecord
  cycleKind : CycleKind
  stage : CycleStage
  pointer : PadAddr
  sprintCount : ClockValue
  changed : List PadAddr
deriving DecidableEq, Repr

/-! ### Cue store (chapter 4) -/

/-- The expiry verdict of a cue (R59). -/
inductive ExpiryVerdict where
  | wrong
  | void
deriving DecidableEq, Repr

/-- An answer option (R59; the options are A to D). -/
inductive Letter where
  | a
  | b
  | c
  | d
deriving DecidableEq, Repr

/-- The change policy of a poll (R59, R128, R129). -/
inductive ChangePolicy where
  | firstStands
  | lastStands
deriving DecidableEq, Repr

/-- The kind of a question (R58). -/
inductive CueKind where
  | buzz
  | poll
  | tiebreak
deriving DecidableEq, Repr

/-- The floor fields BUZZ and TIEBREAK cues share (R59). -/
structure FloorFields where
  answerWindow : Nat
  rebound : Bool
  expiry : ExpiryVerdict
deriving DecidableEq, Repr

/-- The fields of a POLL cue (R59). -/
structure PollFields where
  options : Nat
  correct : Option Letter
  policy : ChangePolicy
  places : Nat
  placePoints : Nat
deriving DecidableEq, Repr

/-- The kind part of a cue record (R59). -/
inductive KindPart where
  | buzz (f : FloorFields) (streakBonus : Nat)
  | tiebreak (f : FloorFields)
  | poll (p : PollFields)
deriving DecidableEq, Repr

/-- A cue record: the common part of R58 and its kind part.  The eligible list keeps its loaded order. -/
structure Cue where
  question : Nat
  correctPoints : Int
  wrongPoints : Int
  roundWindow : Nat
  eligible : Option (List TeamId)
  part : KindPart
deriving DecidableEq, Repr

/-- A slot of the cue store: EMPTY, LOADED or PLAYED (R57). -/
inductive CueSlot where
  | empty
  | loaded (cue : Cue)
  | played (cue : Cue)
deriving DecidableEq, Repr

/-- The cue store (R57). -/
structure CueStore where
  slots : Vector CueSlot 64
  pointer : SlotId
  wrapped : List Page
deriving DecidableEq, Repr

/-! ### Round engine and context stack (chapters 5, 6, 7, 9) -/

/-- The state of a context (R74); `opened` is OPEN. -/
inductive Phase where
  | armed
  | opening
  | opened
  | settling
  | floor
  | closing
  | closed
  | revealed
deriving DecidableEq, Repr

/-- The outcome of a context (R75). -/
inductive RoundOutcome where
  | won (team : TeamId)
  | allOut
  | timeUp
  | aborted
  | revealed
deriving DecidableEq, Repr

/-- The cause of a context's outcome (R75). -/
inductive EndCause where
  | judged
  | expired
  | called
  | aborted
deriving DecidableEq, Repr

/-- The outcome and cause of a context (R73, R75). -/
structure Ending where
  outcome : RoundOutcome
  cause : EndCause
deriving DecidableEq, Repr

/-- A claim (R99). -/
structure Claim where
  team : TeamId
  pad : PadAddr
  capture : ClockValue
  joinCycle : ClockValue
  contested : Bool
deriving DecidableEq, Repr

/-- The standing choice of a ballot entry with its two capture times, which are present together (R125). -/
structure Vote where
  choice : Letter
  capture : ClockValue
  firstCapture : ClockValue
deriving DecidableEq, Repr

/-- A ballot entry (R125). -/
structure BallotEntry where
  team : TeamId
  vote : Option Vote
  changes : Nat
  skipped : Bool
deriving DecidableEq, Repr

/-- The tallies: a count for each option of the cue copy, and the count with no choice (R125, R134). -/
structure Tallies where
  counts : List Nat
  noChoice : Nat
deriving DecidableEq, Repr

/-- The ballot table of a POLL context (R125). -/
structure Ballot where
  entries : List BallotEntry
  closeCause : Option EndCause
  startCount : Option ClockValue
  revealed : Option Letter
  tallies : Option Tallies
  places : List TeamId
deriving DecidableEq, Repr

/-- A round context (R73). -/
structure Context where
  cue : Cue
  source : SlotId
  phase : Phase
  held : Bool
  eligible : List TeamId
  lockout : List TeamId
  queue : List Claim
  overflow : List TeamId
  ballot : Option Ballot
  roundRemaining : Option Nat
  roundDeadline : Option ClockValue
  openInstant : Option ClockValue
  answerDeadline : Option ClockValue
  answerRemainder : Option Nat
  flashInstant : Option ClockValue
  holder : Option TeamId
  closeInstant : Option ClockValue
  ending : Option Ending
  flashing : Bool
deriving DecidableEq, Repr

/-- The round engine (R72): no active context is the state IDLE. -/
structure Engine where
  active : Option Context
  tiePointer : TeamId
deriving DecidableEq, Repr

/-- How a context came onto the stack (R157). -/
inductive Origin where
  | suspend
  | tiebreak
deriving DecidableEq, Repr

/-- An entry of the context stack (R157). -/
structure SavedContext where
  context : Context
  origin : Origin
deriving DecidableEq, Repr

/-! ### Score unit (chapter 8) -/

/-- An award (R142). -/
structure Award where
  team : TeamId
  points : Int
  cause : AwardCause
  question : Option Nat
  bonus : Option Nat
deriving DecidableEq, Repr

/-- The award lock; the lapse time and the snapshot are present while it is HELD (R141). -/
inductive AwardLock where
  | free
  | held (lapse : ClockValue) (snapshot : Vector Int 16)
deriving DecidableEq, Repr

/-- A member of the SCORE changed set with its saturated mark (R141, R154). -/
structure ScoreMark where
  team : TeamId
  saturated : Bool
deriving DecidableEq, Repr

/-- What ended the lock last (R141). -/
inductive LockEnd where
  | lapsed
  | full
deriving DecidableEq, Repr

/-- The score unit's own state (R141); the pending award list is in the order of hand-over. -/
structure ScoreUnit where
  lock : AwardLock
  pendingAwards : List Award
  changed : List ScoreMark
  lastEnd : Option LockEnd
deriving DecidableEq, Repr

/-! ### Silence monitor (chapter 9) -/

/-- The silence monitor (R164): its condition with the period in seconds, the last valid frame time, and in
WATCHING the silence deadline. -/
inductive SilenceMonitor where
  | disarmed
  | watching (period : Nat) (lastFrame deadline : ClockValue)
  | holding (period : Nat) (lastFrame : ClockValue)
deriving DecidableEq, Repr

/-! ### Board unit (chapter 10) -/

/-- The appearance of a cell: STEADY, BLINK or DIM (R171; the manual's word for it is a word of Lean). -/
inductive Look where
  | steady
  | blink
  | dim
deriving DecidableEq, Repr

/-- One cell: a glyph and its appearance (R171). -/
structure Cell where
  glyph : Glyph
  look : Look
deriving DecidableEq, Repr

/-- The presence of a panel (R172). -/
inductive PanelPresence where
  | absent
  | present
  | fault
deriving DecidableEq, Repr

/-- A panel record (R172); a shown image that is absent is UNKNOWN. -/
structure PanelRecord where
  presence : PanelPresence
  cells : Option Nat
  shown : Option (List Cell)
deriving DecidableEq, Repr

/-- A source of a route (R175, R177). -/
inductive Source where
  | teamScore (team : TeamId)
  | teamTag (team : TeamId)
  | rankTeam (rank : Fin 16)
  | rankScore (rank : Fin 16)
  | floorTeam
  | floorTag
  | queueTeam (position : Fin 3)
  | question
  | roundTime
  | answerTime
  | tally (option : Letter)
  | text (glyphs : List Glyph)
deriving DecidableEq, Repr

/-- The align of a field (R175). -/
inductive Align where
  | left
  | right
deriving DecidableEq, Repr

/-- The fill of a field (R175). -/
inductive Fill where
  | blank
  | zero
deriving DecidableEq, Repr

/-- The condition of an overlay (R175, R179). -/
inductive Condition where
  | held
  | floor
  | closed
  | locked
deriving DecidableEq, Repr

/-- The layer of a route (R175). -/
inductive Layer where
  | base
  | overlay (condition : Condition)
deriving DecidableEq, Repr

/-- A route (R175); the static text stands in its source. -/
structure Route where
  source : Source
  panel : PanelId
  first : Nat
  width : Nat
  align : Align
  fill : Fill
  look : Look
  layer : Layer
deriving DecidableEq, Repr

/-- A run of an update: a first cell and the cells from it on (R173). -/
structure Run where
  first : Nat
  cells : List Cell
deriving DecidableEq, Repr

/-- What a publish did at one panel (R183). -/
inductive PanelResult where
  | skipped
  | nothing
  | sent (cells : Nat)
  | fault (cells : Nat)
deriving DecidableEq, Repr

/-- What a scan found at one panel (R183). -/
structure ScanResult where
  presence : PanelPresence
  cells : Option Nat
deriving DecidableEq, Repr

/-- The record of the last completed operation (R183). -/
inductive BoardResult where
  | publish (panels : List PanelResult) (total : Nat)
  | scan (panels : List ScanResult)
deriving DecidableEq, Repr

/-- The line operation (R172) with the exchange whose answer is awaited: a publish with the image it
rendered, the panel and runs of the update on the line and the results of the panels before it; a scan with
the panel of the identify on the line. -/
inductive LineOperation where
  | idle
  | publish (image : List (List Cell)) (panel : PanelId) (runs : List Run) (results : List PanelResult)
  | scan (panel : PanelId)
deriving DecidableEq, Repr

/-- The board unit (R172).  `request` is the model's own mark of a publish requested by the event in hand:
R181 makes the requests of one event one request, taken at its end (log 18, DESIGN CHOICE). -/
structure Board where
  panels : Vector PanelRecord 4
  routes : Vector (Option Route) 32
  auto : Bool
  operation : LineOperation
  again : Bool
  lastResult : Option BoardResult
  completed : Nat
  request : Bool
deriving DecidableEq, Repr

/-! ### Notice unit and link port (chapter 11) -/

/-- The notice kinds, in priority order (R193). -/
inductive NoticeKind where
  | hold
  | floor
  | round
  | queue
  | score
  | lock
  | pad
  | board
  | cue
  | link
deriving DecidableEq, Repr

/-- One flag for each notice kind (R193). -/
structure NoticeFlags where
  hold : Bool
  floor : Bool
  round : Bool
  queue : Bool
  score : Bool
  lock : Bool
  pad : Bool
  board : Bool
  cue : Bool
  link : Bool
deriving DecidableEq, Repr

/-- The notice unit (R193): flags, the LINK reason set (STARTED, OVERRUN), the overrun count. -/
structure NoticeUnit where
  waiting : NoticeFlags
  enabled : NoticeFlags
  started : Bool
  overrun : Bool
  overruns : Nat
deriving DecidableEq, Repr

/-- One item of result data or notice content, in the encodings of R188. -/
inductive Item where
  /-- a slot: one byte -/
  | slot (s : SlotId)
  /-- a clock value or SPRINT cycle count: four bytes, unsigned -/
  | clock (c : ClockValue)
  /-- a whole number within 0-255: one byte -/
  | u8 (n : Nat)
  /-- a whole number within -32,768 to +32,767: two bytes -/
  | i16 (z : Int)
  /-- any other whole number: four bytes, two's complement -/
  | i32 (z : Int)
  /-- a flag: one byte, 01h or 00h -/
  | flag (b : Bool)
  /-- a name from a fixed list: one byte, its code or position -/
  | name (code : Nat)
  /-- a set drawn from a fixed list of names, or a state for each key: one byte, position n in bit n -/
  | mask (bits : Nat)
  /-- the presence byte of an optional item -/
  | presence (b : Bool)
  /-- the count byte of a list or a set of numbers -/
  | count (n : Nat)
  /-- a byte the manual gives as such -/
  | byte (b : Byte)
deriving DecidableEq, Repr

/-- The refusal reasons, 01h to 13h in this order (R191). -/
inductive Reason where
  | badKind
  | badValue
  | wrongState
  | emptyCue
  | noTeams
  | noTie
  | floorHeld
  | notQueued
  | stale
  | stackFull
  | stackEmpty
  | teamFull
  | seatTaken
  | lockHeld
  | notHeld
  | overlap
  | range
  | alreadyArmed
  | notTimed
deriving DecidableEq, Repr

/-- The result of a reply (R191). -/
inductive Result where
  | ok
  | queued
  | retry
  | refused (reason : Reason)
deriving DecidableEq, Repr

/-- What a command answers: its result and its result data (R191). -/
structure Answer where
  result : Result
  data : List Item
deriving DecidableEq, Repr

/-- A reply: the kind code of the command answered and the answer (R191). -/
structure Reply where
  kind : Byte
  answer : Answer
deriving DecidableEq, Repr

/-- The reason of a rejection (R189). -/
inductive RejectReason where
  | check
  | length
  | truncated
deriving DecidableEq, Repr

/-- An entry of the reply queue (R192). -/
inductive QueueEntry where
  | reply (r : Reply)
  | reject (r : RejectReason)
deriving DecidableEq, Repr

/-- The held item (R192): one complete frame or one rejection. -/
inductive HeldItem where
  | frame (f : Frame)
  | rejection (r : RejectReason)
deriving DecidableEq, Repr

/-- A notice with the content read when it was begun (R194). -/
structure Notice where
  kind : NoticeKind
  data : List Item
deriving DecidableEq, Repr

/-- The transmitter: idle, sending the entry at the front of the queue, or sending a notice (R192, R194). -/
inductive Transmitter where
  | idle
  | entry
  | notice (n : Notice)
deriving DecidableEq, Repr

/-- The receive assembler (R189): HUNTING, or IN_FRAME with the bytes after the start marker and whether a
byte of the frame came without its stop bit (R187). -/
inductive Assembler where
  | hunting
  | inFrame (bytes : List Byte) (damaged : Bool)
deriving DecidableEq, Repr

/-- The link rate: 115,200 or 460,800 baud (R187). -/
inductive LinkRate where
  | slow
  | fast
deriving DecidableEq, Repr

/-- The link port (R187, R189, R192, R197): `restarting` holds from the execution of RESTART until it takes
effect. -/
structure LinkPort where
  assembler : Assembler
  queue : List QueueEntry
  held : Option HeldItem
  transmitter : Transmitter
  restarting : Bool
  rate : LinkRate
deriving DecidableEq, Repr

/-- The cause of the last reset (R196). -/
inductive ResetCause where
  | power
  | line
  | restart
deriving DecidableEq, Repr

/-! ### The whole part -/

/-- The state of the HX24. -/
structure State where
  clock : ClockValue
  roster : Roster
  desk : DeskLine
  debounce : Nat
  cues : CueStore
  engine : Engine
  stack : List SavedContext
  scores : ScoreUnit
  silence : SilenceMonitor
  board : Board
  notices : NoticeUnit
  link : LinkPort
  cause : ResetCause
  strap : PinLevel
  pending : List Instr
deriving DecidableEq, Repr

/-- No rule of the manual stops the part: no step ends in a fault, so the type has no constructor (safe). -/
inductive Fault where
deriving DecidableEq, Repr

/-- Why a command has no meaning in the model. -/
inductive Refusal where
  /-- Raised only by an arm of exec whose command has no meaning yet; no arm does so (safe). -/
  | notModelled (mnemonic : String)
deriving DecidableEq, Repr

/-! ### Values after a power-on or line reset -/

/-- Every key released (R45). -/
def noKeys : Keys := ⟨false, false, false, false, false⟩

/-- A team record after reset (R19). -/
def TeamRecord.reset : TeamRecord :=
  { state := .unused, tag := none, score := 0, correct := 0, wrong := 0, streak := 0, last := none }

/-- A pad record after reset (R19, R20, R45). -/
def PadRecord.reset : PadRecord :=
  { presence := .absent, assignment := .byDefault, misses := 0, lagging := false, batteryLow := false,
    lampOverride := none, keys := noKeys, candidate := none }

/-- The desk roster after reset (R19). -/
def Roster.reset : Roster :=
  { teams := Vector.replicate 16 TeamRecord.reset
    pads := Vector.replicate 64 PadRecord.reset
    layout := .grid16 }

/-- The desk line controller after reset (R20). -/
def DeskLine.reset : DeskLine :=
  { speed := .roam, setting := .auto, switch := none, cycleKind := .roam, stage := .atStart,
    pointer := 0, sprintCount := 0#32, changed := [] }

/-- The cue store after reset (R57). -/
def CueStore.reset : CueStore :=
  { slots := Vector.replicate 64 .empty, pointer := 0, wrapped := [] }

/-- The round engine after reset (R72): IDLE, tie pointer 1. -/
def Engine.reset : Engine := { active := none, tiePointer := 0 }

/-- The score unit after reset (R141). -/
def ScoreUnit.reset : ScoreUnit :=
  { lock := .free, pendingAwards := [], changed := [], lastEnd := none }

/-- A panel record after reset (R172). -/
def PanelRecord.reset : PanelRecord := { presence := .absent, cells := none, shown := none }

/-- The board unit after reset (R172): the start-up scan has begun with panel 0 (R174). -/
def Board.reset : Board :=
  { panels := Vector.replicate 4 PanelRecord.reset
    routes := Vector.replicate 32 none
    auto := false, operation := .scan 0, again := false, lastResult := none, completed := 0,
    request := false }

/-- No flag set. -/
def NoticeFlags.none : NoticeFlags :=
  ⟨false, false, false, false, false, false, false, false, false, false⟩

/-- The enable flags after a power-on or line reset (R193). -/
def NoticeFlags.enabledAtReset : NoticeFlags :=
  { hold := true, floor := true, round := true, queue := false, score := true, lock := true,
    pad := false, board := true, cue := false, link := true }

/-- The notice unit after a power-on or line reset (R193): LINK pending with STARTED. -/
def NoticeUnit.reset : NoticeUnit :=
  { waiting := { NoticeFlags.none with link := true }
    enabled := NoticeFlags.enabledAtReset
    started := true, overrun := false, overruns := 0 }

/-- The link rate the RATE strap gives (R187). -/
def LinkRate.ofStrap : PinLevel → LinkRate
  | .low => .slow
  | .high => .fast

/-- The link port after a power-on or line reset with the strap at the given level (R198). -/
def LinkPort.reset (strap : PinLevel) : LinkPort :=
  { assembler := .hunting, queue := [], held := none, transmitter := .idle, restarting := false,
    rate := LinkRate.ofStrap strap }

/-- The part after a power-on or line reset (R198) with the strap at the given level. -/
def State.afterReset (strap : PinLevel) (cause : ResetCause) : State :=
  { clock := 0#32
    roster := Roster.reset
    desk := DeskLine.reset
    debounce := 2
    cues := CueStore.reset
    engine := Engine.reset
    stack := []
    scores := ScoreUnit.reset
    silence := .disarmed
    board := Board.reset
    notices := NoticeUnit.reset
    link := LinkPort.reset strap
    cause := cause
    strap := strap
    pending := [] }

/-- The machine right after a power-on reset, with the RATE strap low (log 8, DESIGN CHOICE). -/
def State.reset : State := State.afterReset .low .power

end Sys2Proof.Machine
end

