-- ==== Sys2Proof/Machine/Ops.lean ====
section
/-! DEFINITION. The operations every block shares: clock arithmetic (R42), tables and sets, the
notice flags, the request for a publish, the state of the round engine. -/

namespace Sys2Proof.Machine

/-! ### The theatre clock (R41, R42) -/

/-- The signed difference b - a modulo 2^32 of two clock values (R42). -/
def clockDiff (a b : ClockValue) : Int := (b - a).toInt

/-- a is earlier than b (R42). -/
def earlier (a b : ClockValue) : Bool := decide (0 < clockDiff a b)

/-- A deadline has passed when the signed difference from the reading to it is 0 or less (R42). -/
def reached (now deadline : ClockValue) : Bool := decide (clockDiff now deadline ≤ 0)

/-- The ticks left before a deadline, or 0 if it has passed (R86, R113). -/
def ticksLeft (now deadline : ClockValue) : Nat := (clockDiff now deadline).toNat

/-- The clock value so many ticks after another, modulo 2^32. -/
def ticksAfter (now : ClockValue) (ticks : Nat) : ClockValue := now + BitVec.ofNat 32 ticks

/-- Whole seconds in ticks, 4,000 ticks to the second (R66). -/
def secondsToTicks (seconds : Nat) : Nat := seconds * Config.ticksPerSecond

/-- One tick of the theatre clock, wrapping (R41). -/
def tick (s : State) : State := { s with clock := s.clock + 1#32 }

/-! ### Tables -/

/-- The record of a table at an index. -/
def look {α : Type} {n : Nat} (v : Vector α n) (i : Fin n) : α := v.get i

/-- The table with one record replaced. -/
def put {α : Type} {n : Nat} (v : Vector α n) (i : Fin n) (a : α) : Vector α n := v.set i.val a i.isLt

/-- The table with every record changed. -/
def mapTable {α β : Type} {n : Nat} (f : α → β) (v : Vector α n) : Vector β n :=
  ⟨⟨v.toList.map f⟩, by simp⟩

/-- The table whose record at each index is a function of the index. -/
def tabulate {α : Type} {n : Nat} (f : Fin n → α) : Vector α n :=
  ⟨⟨(List.finRange n).map f⟩, by simp⟩

/-! ### Sets, kept as lists in ascending order without repeats -/

/-- A member joins a set; one already in it is not added twice. -/
def insertAsc {n : Nat} (x : Fin n) : List (Fin n) → List (Fin n)
  | [] => [x]
  | y :: ys => if x < y then x :: y :: ys else if x = y then y :: ys else y :: insertAsc x ys

/-- A member leaves a set. -/
def removeFrom {n : Nat} (x : Fin n) (l : List (Fin n)) : List (Fin n) := l.filter (fun y => y != x)

/-- A count raised by one, staying at 255 (R1, R129, R172, R193). -/
def raiseCount (n : Nat) : Nat := if n < Config.maxCount then n + 1 else n

/-! ### Teams and pads -/

/-- The record of a team. -/
def State.team (s : State) (t : TeamId) : TeamRecord := look s.roster.teams t

/-- The record of a pad. -/
def State.pad (s : State) (a : PadAddr) : PadRecord := look s.roster.pads a

/-- The team is in the state PRESENT (R2). -/
def State.teamPresent (s : State) (t : TeamId) : Bool := decide ((s.team t).state = .present)

/-- The state with one team record replaced. -/
def State.setTeam (s : State) (t : TeamId) (r : TeamRecord) : State :=
  { s with roster := { s.roster with teams := put s.roster.teams t r } }

/-- The state with one pad record replaced. -/
def State.setPad (s : State) (a : PadAddr) (r : PadRecord) : State :=
  { s with roster := { s.roster with pads := put s.roster.pads a r } }

/-- The teams whose state is PRESENT, in ascending order. -/
def State.presentTeams (s : State) : List TeamId := (List.finRange 16).filter s.teamPresent

/-- The pads whose presence is the given one, in ascending address order. -/
def State.padsWith (s : State) (p : PadPresence) : List PadAddr :=
  (List.finRange 64).filter fun a => decide ((s.pad a).presence = p)

/-! ### The round engine's active context -/

/-- The state with the given active context; none is IDLE (R72). -/
def State.setActive (s : State) (c : Option Context) : State :=
  { s with engine := { s.engine with active := c } }

/-- A kind of question without a floor: POLL. -/
def Context.isPoll (c : Context) : Bool :=
  match c.cue.part with
  | .poll _ => true
  | .buzz _ _ => false
  | .tiebreak _ => false

/-- The floor fields of the cue copy; absent for a POLL question (R59). -/
def Context.floorFields (c : Context) : Option FloorFields :=
  match c.cue.part with
  | .buzz f _ => some f
  | .tiebreak f => some f
  | .poll _ => none

/-- The poll fields of the cue copy; absent for a BUZZ or TIEBREAK question (R59). -/
def Context.pollFields (c : Context) : Option PollFields :=
  match c.cue.part with
  | .poll p => some p
  | .buzz _ _ => none
  | .tiebreak _ => none

/-- The state of a context needs SPRINT (R27, R74). -/
def Phase.needsSprint : Phase → Bool
  | .armed | .opening | .opened | .settling | .floor | .closing => true
  | .closed | .revealed => false

/-- The active context needs SPRINT (R27). -/
def State.roundNeedsSprint (s : State) : Bool :=
  match s.engine.active with
  | some c => c.phase.needsSprint
  | none => false

/-- SPRINT is needed: by the active context or by the speed setting (R27). -/
def State.sprintNeeded (s : State) : Bool :=
  s.roundNeedsSprint || decide (s.desk.setting = .sprint)

/-- The need is judged: when SPRINT is needed on a ROAM line with no switch in progress, a switch is
requested (R28). -/
def judgeNeed (s : State) : State :=
  if s.sprintNeeded && decide (s.desk.speed = .roam) && s.desk.switch.isNone then
    { s with desk := { s.desk with switch := some { completed := 0, echoed := [] } } }
  else s

/-! ### The award lock -/

/-- The award lock is HELD (R141). -/
def State.lockHeld (s : State) : Bool :=
  match s.scores.lock with
  | .held _ _ => true
  | .free => false

/-- The silence monitor is HOLDING (R166). -/
def State.holding (s : State) : Bool :=
  match s.silence with
  | .holding _ _ => true
  | .disarmed => false
  | .watching _ _ _ => false

/-! ### Answers (R191) -/

/-- The command has acted. -/
def ok (data : List Item) : Answer := ⟨.ok, data⟩

/-- The command was checked and refused, with no result data. -/
def refuse (reason : Reason) : Answer := ⟨.refused reason, []⟩

/-- A command whose payload does not fit its layout is refused with BAD_VALUE before its own checks (R188,
R190); otherwise it acts on its arguments. -/
def withArgs {α : Type} (p : Payload α) (act : α → State → State × Answer) (s : State) :
    State × Answer :=
  match p with
  | .fits a => act a s
  | .misfit => (s, refuse .badValue)

/-! ### Publish requests (R181, R182) -/

/-- A publish is requested by the event in hand (R181). -/
def requestPublish (s : State) : State := { s with board := { s.board with request := true } }

/-- An automatic trigger: with auto-publish ON it requests a publish (R182). -/
def autoRequest (s : State) : State := if s.board.auto then requestPublish s else s

end Sys2Proof.Machine
end

