-- ==== Sys2Proof/Machine/Flags.lean ====
section
/-! DEFINITION. The notice flags (R193) and the events that set them: what R76 calls a round change,
R108 a queue change, and the sets that are kept with a flag. -/

namespace Sys2Proof.Machine

/-- The flag of a kind. -/
def NoticeFlags.get (f : NoticeFlags) : NoticeKind → Bool
  | .hold => f.hold
  | .floor => f.floor
  | .round => f.round
  | .queue => f.queue
  | .score => f.score
  | .lock => f.lock
  | .pad => f.pad
  | .board => f.board
  | .cue => f.cue
  | .link => f.link

/-- The flags with the flag of one kind changed. -/
def NoticeFlags.put (f : NoticeFlags) (k : NoticeKind) (b : Bool) : NoticeFlags :=
  match k with
  | .hold => { f with hold := b }
  | .floor => { f with floor := b }
  | .round => { f with round := b }
  | .queue => { f with queue := b }
  | .score => { f with score := b }
  | .lock => { f with lock := b }
  | .pad => { f with pad := b }
  | .board => { f with board := b }
  | .cue => { f with cue := b }
  | .link => { f with link := b }

/-- The ten kinds in priority order (R193). -/
def NoticeKind.all : List NoticeKind :=
  [.hold, .floor, .round, .queue, .score, .lock, .pad, .board, .cue, .link]

/-- The pending flag of a kind is set, whether or not the kind is enabled (R193). -/
def setPending (k : NoticeKind) (s : State) : State :=
  { s with notices := { s.notices with waiting := s.notices.waiting.put k true } }

/-- The enable flag of a kind takes a value (R195). -/
def setEnabled (k : NoticeKind) (b : Bool) (s : State) : State :=
  { s with notices := { s.notices with enabled := s.notices.enabled.put k b } }

/-- The set or count kept for a kind is emptied: the PAD changed set, the SCORE changed set, the wrapped
page set, the BOARD completed count, the LINK reasons and overrun count (R193, R194). -/
def emptyKept (k : NoticeKind) (s : State) : State :=
  match k with
  | .pad => { s with desk := { s.desk with changed := [] } }
  | .score => { s with scores := { s.scores with changed := [] } }
  | .cue => { s with cues := { s.cues with wrapped := [] } }
  | .board => { s with board := { s.board with completed := 0 } }
  | .link => { s with notices := { s.notices with started := false, overrun := false, overruns := 0 } }
  | .hold => s
  | .floor => s
  | .round => s
  | .queue => s
  | .lock => s

/-- The pending flag of a kind is cleared, with the set or count kept for it (R194, R195). -/
def discardPending (k : NoticeKind) (s : State) : State :=
  emptyKept k { s with notices := { s.notices with waiting := s.notices.waiting.put k false } }

/-- A discarded frame or rejection: LINK pending with reason OVERRUN, the overrun count raised (R192, R193). -/
def recordOverrun (s : State) : State :=
  setPending .link
    { s with notices := { s.notices with overrun := true, overruns := raiseCount s.notices.overruns } }

/-- LINK pending is set with STARTED (R193). -/
def recordStarted (s : State) : State :=
  setPending .link { s with notices := { s.notices with started := true } }

/-- A round change is signalled: ROUND pending, a publish request with auto-publish on, and the desk line
controller judges the need for SPRINT again (R76). -/
def signalRoundChange (s : State) : State := judgeNeed (autoRequest (setPending .round s))

/-- A queue change: QUEUE pending, and a publish request with auto-publish on (R108). -/
def signalQueueChange (s : State) : State := autoRequest (setPending .queue s)

/-- A pad joins the PAD changed set, and PAD pending is set (R34). -/
def joinPadChanged (a : PadAddr) (s : State) : State :=
  setPending .pad { s with desk := { s.desk with changed := insertAsc a s.desk.changed } }

/-- The flag of a kind is both enabled and pending (R194). -/
def NoticeUnit.eligible (n : NoticeUnit) (k : NoticeKind) : Bool := n.enabled.get k && n.waiting.get k

/-- The kind to be sent: of the kinds enabled and pending, the one of highest priority (R194). -/
def NoticeUnit.next (n : NoticeUnit) : Option NoticeKind := NoticeKind.all.find? n.eligible

end Sys2Proof.Machine
end

