-- ==== Sys2Proof/Machine/Operands.lean ====
section
/-! DEFINITION. Operands.  The values the raw bytes of a command stand for (none where the value is outside
the range its rule gives), the items of replies and notices, and the bytes of the frames the part sends
(R187, R188, R189, R191). -/

namespace Sys2Proof.Machine

/-! ### Numbers within a range -/

/-- A number below n, as an index. -/
def indexBelow (n : Nat) (v : Nat) : Option (Fin n) := if h : v < n then some ⟨v, h⟩ else none

/-- A number counted from 1, as an index. -/
def indexFromOne (n : Nat) (v : Nat) : Option (Fin n) := if v = 0 then none else indexBelow n (v - 1)

/-- A team number 1-16. -/
def teamOf (b : Byte) : Option TeamId := indexFromOne 16 b.toNat
/-- A pad address 0-63. -/
def padOf (b : Byte) : Option PadAddr := indexBelow 64 b.toNat
/-- A seat 1-8. -/
def seatOf (b : Byte) : Option Seat := indexFromOne 8 b.toNat
/-- A slot byte: the page times 16, plus the slot (R188). -/
def slotOf (b : Byte) : Option SlotId := indexBelow 64 b.toNat
/-- A page 0-3. -/
def pageOf (b : Byte) : Option Page := indexBelow 4 b.toNat
/-- A panel 0-3. -/
def panelOf (b : Byte) : Option PanelId := indexBelow 4 b.toNat
/-- A route number 0-31. -/
def routeOf (b : Byte) : Option RouteId := indexBelow 32 b.toNat
/-- A glyph code 0-47 (R171). -/
def glyphOf (b : Byte) : Option Glyph := indexBelow 48 b.toNat

/-- Every value of a list, or none if one is out of range. -/
def allOf {α β : Type} (f : α → Option β) : List α → Option (List β)
  | [] => some []
  | a :: as =>
    match f a, allOf f as with
    | some b, some bs => some (b :: bs)
    | _, _ => none

/-- A list of glyph codes of a length within the bounds. -/
def glyphsOf (low high : Nat) (l : List Byte) : Option (List Glyph) :=
  if low ≤ l.length ∧ l.length ≤ high then allOf glyphOf l else none

/-- A whole number of one byte within the bounds. -/
def within (low high : Nat) (b : Byte) : Option Nat :=
  if low ≤ b.toNat ∧ b.toNat ≤ high then some b.toNat else none

/-- A signed whole number of two bytes within the bounds. -/
def signedWithin (low high : Int) (h : Half) : Option Int :=
  if low ≤ h.toInt ∧ h.toInt ≤ high then some h.toInt else none

/-! ### Names from a fixed list, by their positions (R188) -/

def teamStateOf (b : Byte) : Option TeamState :=
  match b.toNat with | 0 => some .unused | 1 => some .present | 2 => some .benched | _ => none
def layoutOf (b : Byte) : Option Layout :=
  match b.toNat with | 0 => some .grid16 | 1 => some .grid8 | 2 => some .split | 3 => some .free | _ => none
def settingOf (b : Byte) : Option SpeedSetting :=
  match b.toNat with | 0 => some .auto | 1 => some .sprint | _ => none
def lampStateOf (b : Byte) : Option Lamp :=
  match b.toNat with | 0 => some .off | 1 => some .on | 2 => some .slow | 3 => some .fast | _ => none
def cueKindOf (b : Byte) : Option CueKind :=
  match b.toNat with | 0 => some .buzz | 1 => some .poll | 2 => some .tiebreak | _ => none
def expiryOf (b : Byte) : Option ExpiryVerdict :=
  match b.toNat with | 0 => some .wrong | 1 => some .void | _ => none
def letterOf (b : Byte) : Option Letter :=
  match b.toNat with | 0 => some .a | 1 => some .b | 2 => some .c | 3 => some .d | _ => none
def policyOf (b : Byte) : Option ChangePolicy :=
  match b.toNat with | 0 => some .firstStands | 1 => some .lastStands | _ => none
def alignOf (b : Byte) : Option Align :=
  match b.toNat with | 0 => some .left | 1 => some .right | _ => none
def fillOf (b : Byte) : Option Fill :=
  match b.toNat with | 0 => some .blank | 1 => some .zero | _ => none
def lookOf (b : Byte) : Option Look :=
  match b.toNat with | 0 => some .steady | 1 => some .blink | 2 => some .dim | _ => none
def conditionOf (b : Byte) : Option Condition :=
  match b.toNat with | 0 => some .held | 1 => some .floor | 2 => some .closed | 3 => some .locked | _ => none

/-- A verdict (R115). -/
inductive Verdict where
  | correct
  | wrong
  | void
deriving DecidableEq, Repr

def verdictOf (b : Byte) : Option Verdict :=
  match b.toNat with | 0 => some .correct | 1 => some .wrong | 2 => some .void | _ => none

/-- A notice kind, by its code 91h to 9Ah (R190). -/
def noticeKindOf (b : Byte) : Option NoticeKind :=
  match b.toNat with
  | 0x91 => some .hold
  | 0x92 => some .floor
  | 0x93 => some .round
  | 0x94 => some .queue
  | 0x95 => some .score
  | 0x96 => some .lock
  | 0x97 => some .pad
  | 0x98 => some .board
  | 0x99 => some .cue
  | 0x9A => some .link
  | _ => none

/-- The kinds NOTICE_ENABLE and NOTICE_CLEAR name (R195). -/
def noticeKindsOf : NoticeTarget → Option (List NoticeKind)
  | .kind code => (noticeKindOf code).map fun k => [k]
  | .all => some NoticeKind.all

/-! ### The codes of names (R188, R190, R191) -/

def TeamState.code : TeamState → Nat
  | .unused => 0
  | .present => 1
  | .benched => 2
def AwardCause.code : AwardCause → Nat
  | .correct => 0
  | .wrong => 1
  | .streak => 2
  | .speed => 3
  | .revealRight => 4
  | .revealWrong => 5
  | .manual => 6
def Layout.code : Layout → Nat
  | .grid16 => 0
  | .grid8 => 1
  | .split => 2
  | .free => 3
def PadPresence.code : PadPresence → Nat
  | .absent => 0
  | .present => 1
  | .lost => 2
def Assignment.code : Assignment → Nat
  | .byDefault => 0
  | .override _ => 1
  | .released => 2
def Lamp.code : Lamp → Nat
  | .off => 0
  | .on => 1
  | .slow => 2
  | .fast => 3
def speedCode : LineSpeed → Nat
  | .roam => 0
  | .sprint => 1
def SpeedSetting.code : SpeedSetting → Nat
  | .auto => 0
  | .sprint => 1
def ExpiryVerdict.code : ExpiryVerdict → Nat
  | .wrong => 0
  | .void => 1
def Letter.code : Letter → Nat
  | .a => 0
  | .b => 1
  | .c => 2
  | .d => 3
def ChangePolicy.code : ChangePolicy → Nat
  | .firstStands => 0
  | .lastStands => 1
def CueKind.code : CueKind → Nat
  | .buzz => 0
  | .poll => 1
  | .tiebreak => 2
def CueSlot.code : CueSlot → Nat
  | .empty => 0
  | .loaded _ => 1
  | .played _ => 2
/-- IDLE counts 0 and the states of R74 from 1 (R188). -/
def Phase.code : Phase → Nat
  | .armed => 1
  | .opening => 2
  | .opened => 3
  | .settling => 4
  | .floor => 5
  | .closing => 6
  | .closed => 7
  | .revealed => 8
def EndCause.code : EndCause → Nat
  | .judged => 0
  | .expired => 1
  | .called => 2
  | .aborted => 3
/-- The close cause counts EXPIRED 0 and CALLED 1, the list of R125. -/
def EndCause.closeCode : EndCause → Nat
  | .called => 1
  | .judged => 0
  | .expired => 0
  | .aborted => 0
def Verdict.code : Verdict → Nat
  | .correct => 0
  | .wrong => 1
  | .void => 2
def Origin.code : Origin → Nat
  | .suspend => 0
  | .tiebreak => 1
def LockEnd.code : LockEnd → Nat
  | .lapsed => 0
  | .full => 1
def PanelPresence.code : PanelPresence → Nat
  | .absent => 0
  | .present => 1
  | .fault => 2
def Look.code : Look → Nat
  | .steady => 0
  | .blink => 1
  | .dim => 2
def Align.code : Align → Nat
  | .left => 0
  | .right => 1
def Fill.code : Fill → Nat
  | .blank => 0
  | .zero => 1
def Condition.code : Condition → Nat
  | .held => 0
  | .floor => 1
  | .closed => 2
  | .locked => 3
def ResetCause.code : ResetCause → Nat
  | .power => 0
  | .line => 1
  | .restart => 2
def NoticeKind.code : NoticeKind → Byte
  | .hold => 0x91#8
  | .floor => 0x92#8
  | .round => 0x93#8
  | .queue => 0x94#8
  | .score => 0x95#8
  | .lock => 0x96#8
  | .pad => 0x97#8
  | .board => 0x98#8
  | .cue => 0x99#8
  | .link => 0x9A#8
def Reason.code : Reason → Nat
  | .badKind => 0x01
  | .badValue => 0x02
  | .wrongState => 0x03
  | .emptyCue => 0x04
  | .noTeams => 0x05
  | .noTie => 0x06
  | .floorHeld => 0x07
  | .notQueued => 0x08
  | .stale => 0x09
  | .stackFull => 0x0A
  | .stackEmpty => 0x0B
  | .teamFull => 0x0C
  | .seatTaken => 0x0D
  | .lockHeld => 0x0E
  | .notHeld => 0x0F
  | .overlap => 0x10
  | .range => 0x11
  | .alreadyArmed => 0x12
  | .notTimed => 0x13
def Result.code : Result → Nat
  | .ok => 0
  | .queued => 1
  | .retry => 2
  | .refused _ => 3
/-- The reason byte: 00h unless the command is refused (R191). -/
def Result.reasonCode : Result → Nat
  | .ok => 0
  | .queued => 0
  | .retry => 0
  | .refused r => r.code
def RejectReason.code : RejectReason → Byte
  | .check => 0x01#8
  | .length => 0x02#8
  | .truncated => 0x03#8

/-! ### Items of replies and notices (R188) -/

/-- An optional item. -/
def optItems {α : Type} (f : α → List Item) : Option α → List Item
  | none => [.presence false]
  | some a => .presence true :: f a

/-- A list, or a set of numbers. -/
def listItems {α : Type} (f : α → List Item) (l : List α) : List Item :=
  .count l.length :: l.flatMap f

def teamItem (t : TeamId) : List Item := [.u8 (t.val + 1)]
def teamsItems (l : List TeamId) : List Item := listItems teamItem l
def placeItems (p : Place) : List Item := [.u8 (p.team.val + 1), .u8 (p.seat.val + 1)]
def padsItems (l : List PadAddr) : List Item := listItems (fun a => [.u8 a.val]) l
def glyphsItems (l : List Glyph) : List Item := listItems (fun g => [.u8 g.val]) l
def pagesItems (l : List Page) : List Item := listItems (fun p => [.u8 p.val]) l
def clockItem (c : ClockValue) : List Item := [.clock c]
def ticksItem (n : Nat) : List Item := [.i32 n]

/-- The keys as bits: BUZZ, A, B, C, D from bit 0. -/
def keysMask (k : Keys) : Nat :=
  k.buzz.toNat + 2 * k.a.toNat + 4 * k.b.toNat + 8 * k.c.toNat + 16 * k.d.toNat

/-- The floor fields of a kind part. -/
def KindPart.floor : KindPart → Option FloorFields
  | .buzz f _ => some f
  | .tiebreak f => some f
  | .poll _ => none

/-- The poll fields of a kind part. -/
def KindPart.pollPart : KindPart → Option PollFields
  | .poll p => some p
  | .buzz _ _ => none
  | .tiebreak _ => none

/-- The streak-bonus points of a kind part: BUZZ alone has them (R59). -/
def KindPart.streakBonus : KindPart → Option Nat
  | .buzz _ n => some n
  | .tiebreak _ => none
  | .poll _ => none

/-- The kind of a record. -/
def KindPart.kind : KindPart → CueKind
  | .buzz _ _ => .buzz
  | .tiebreak _ => .tiebreak
  | .poll _ => .poll

/-- A cue record: the fields of R58, with the eligible list as an optional list, then each field of R59 as
an optional item (R188). -/
def cueItems (c : Cue) : List Item :=
  [.name c.part.kind.code, .i16 c.question, .i16 c.correctPoints, .i16 c.wrongPoints,
    .i16 c.roundWindow]
    ++ optItems teamsItems c.eligible
    ++ optItems (fun f => [.u8 f.answerWindow]) c.part.floor
    ++ optItems (fun f => [.flag f.rebound]) c.part.floor
    ++ optItems (fun f => [.name f.expiry.code]) c.part.floor
    ++ optItems (fun n => [.u8 n]) c.part.streakBonus
    ++ optItems (fun p => [.u8 p.options]) c.part.pollPart
    ++ optItems (fun o => [.name o.code]) (c.part.pollPart.bind PollFields.correct)
    ++ optItems (fun p => [.name p.policy.code]) c.part.pollPart
    ++ optItems (fun p => [.u8 p.places]) c.part.pollPart
    ++ optItems (fun p => [.u8 p.placePoints]) c.part.pollPart

/-- An outcome: WON is followed by its team (R188). -/
def RoundOutcome.items : RoundOutcome → List Item
  | .won t => [.name 0, .u8 (t.val + 1)]
  | .allOut => [.name 1]
  | .timeUp => [.name 2]
  | .aborted => [.name 3]
  | .revealed => [.name 4]

/-- The outcome and cause. -/
def endingItems (e : Ending) : List Item := e.outcome.items ++ [.name e.cause.code]

/-- An award (R142). -/
def awardItems (a : Award) : List Item :=
  [.u8 (a.team.val + 1), .i16 a.points, .name a.cause.code]
    ++ optItems (fun n => [.i16 n]) a.question ++ optItems (fun n => [.u8 n]) a.bonus

/-- A last award: points and cause. -/
def lastAwardItems (a : LastAward) : List Item := [.i16 a.points, .name a.cause.code]

/-- The tallies: a count for each option, absent beyond the option count, and the count with no choice
(R134). -/
def talliesItems (t : Tallies) : List Item :=
  (List.range 4).flatMap (fun i => optItems (fun n => [.u8 n]) t.counts[i]?) ++ [.u8 t.noChoice]

/-- A source with its parameter (R177, R188). -/
def Source.items : Source → List Item
  | .teamScore t => [.name 0, .u8 (t.val + 1)]
  | .teamTag t => [.name 1, .u8 (t.val + 1)]
  | .rankTeam r => [.name 2, .u8 (r.val + 1)]
  | .rankScore r => [.name 3, .u8 (r.val + 1)]
  | .floorTeam => [.name 4]
  | .floorTag => [.name 5]
  | .queueTeam p => [.name 6, .u8 (p.val + 1)]
  | .question => [.name 7]
  | .roundTime => [.name 8]
  | .answerTime => [.name 9]
  | .tally o => [.name 10, .name o.code]
  | .text _ => [.name 11]

/-- The static text of a source; absent for every source but TEXT (R175). -/
def Source.staticText : Source → Option (List Glyph)
  | .text l => some l
  | .teamScore _ => none
  | .teamTag _ => none
  | .rankTeam _ => none
  | .rankScore _ => none
  | .floorTeam => none
  | .floorTag => none
  | .queueTeam _ => none
  | .question => none
  | .roundTime => none
  | .answerTime => none
  | .tally _ => none

/-- A layer; OVERLAY is followed by its condition (R175, R188). -/
def Layer.items : Layer → List Item
  | .base => [.name 0]
  | .overlay c => [.name 1, .name c.code]

/-- A route entry (R175). -/
def routeItems (r : Route) : List Item :=
  r.source.items
    ++ [.u8 r.panel.val, .u8 r.first, .u8 r.width, .name r.align.code, .name r.fill.code,
        .name r.look.code]
    ++ r.layer.items ++ optItems glyphsItems r.source.staticText

/-- A cell (R171). -/
def cellItems (c : Cell) : List Item := [.u8 c.glyph.val, .name c.look.code]

/-- What a publish did at one panel; SENT and FAULT are followed by their number of cells (R183). -/
def PanelResult.items : PanelResult → List Item
  | .skipped => [.name 0]
  | .nothing => [.name 1]
  | .sent n => [.name 2, .u8 n]
  | .fault n => [.name 3, .u8 n]

/-- The record of an operation (R183). -/
def BoardResult.items : BoardResult → List Item
  | .publish panels total => .name 0 :: panels.flatMap PanelResult.items ++ [.u8 total]
  | .scan panels =>
    .name 1 :: panels.flatMap fun p => .name p.presence.code :: optItems (fun n => [.u8 n]) p.cells

/-! ### Bytes -/

/-- The bytes of an item (R188). -/
def Item.bytes : Item → List Byte
  | .slot s => [BitVec.ofNat 8 s.val]
  | .clock c => [c.extractLsb' 24 8, c.extractLsb' 16 8, c.extractLsb' 8 8, c.extractLsb' 0 8]
  | .u8 n => [BitVec.ofNat 8 n]
  | .i16 z => writeHalf (BitVec.ofInt 16 z)
  | .i32 z =>
    let w := BitVec.ofInt 32 z
    [w.extractLsb' 24 8, w.extractLsb' 16 8, w.extractLsb' 8 8, w.extractLsb' 0 8]
  | .flag b => writeFlag b
  | .name code => [BitVec.ofNat 8 code]
  | .mask bits => [BitVec.ofNat 8 bits]
  | .presence b => writeFlag b
  | .count n => [BitVec.ofNat 8 n]
  | .byte b => [b]

/-- The bytes of a run of items. -/
def itemBytes (l : List Item) : List Byte := l.flatMap Item.bytes

/-- Data cut into pieces of at most n bytes, at least one piece; fuel bounds the number of cuts. -/
def pieces (n : Nat) : Nat → List Byte → List (List Byte)
  | 0, l => [l]
  | fuel + 1, l => if l.length ≤ n then [l] else l.take n :: pieces n fuel (l.drop n)

/-- The frames of a reply from its pieces of data: byte 3 counts the parts still to follow (R191). -/
def replyFramesOf (kind : Byte) (result reason : Nat) : List (List Byte) → List (List Byte)
  | [] => []
  | p :: ps =>
    frameBytes 0x80#8 (kind :: BitVec.ofNat 8 result :: BitVec.ofNat 8 reason
      :: BitVec.ofNat 8 ps.length :: p) :: replyFramesOf kind result reason ps

/-- The frames of a reply (R191). -/
def Reply.frames (r : Reply) : List (List Byte) :=
  let data := itemBytes r.answer.data
  replyFramesOf r.kind r.answer.result.code r.answer.result.reasonCode
    (pieces Config.maxReplyData data.length data)

/-- The frames of a queue entry (R189, R191). -/
def QueueEntry.frames : QueueEntry → List (List Byte)
  | .reply r => r.frames
  | .reject r => [frameBytes 0x81#8 [r.code]]

/-- The frames of a notice: one frame; how a content longer than a payload is sent the manual does not say
(log 13). -/
def Notice.frames (n : Notice) : List (List Byte) :=
  let content := itemBytes n.data
  if content.length ≤ Config.maxPayload then [frameBytes n.kind.code content]
  else Config.oversizeNotice n.kind.code content

/-- The frames the transmitter is sending on TXD, whole (R192, R194). -/
def LinkPort.sending (l : LinkPort) : List (List Byte) :=
  match l.transmitter with
  | .idle => []
  | .entry => (l.queue.head?.map QueueEntry.frames).getD []
  | .notice n => n.frames

end Sys2Proof.Machine
end

