-- ==== Sys2Proof/Machine/Roster.lean ====
section
/-! DEFINITION. The desk roster (chapter 1): assignment of pads, pad counts, ranking, and the commands
PAD_ASSIGN, LAYOUT_SET, PAD_FORGET and QUERY_TEAM.  TEAM_SET stands in Teams.lean, QUERY_PAD in
DeskLine.lean. -/

namespace Sys2Proof.Machine

/-! ### Assignment (R9, R11) -/

/-- The default team and seat of an address under a layout mode (R9). -/
def defaultPlace (m : Layout) (a : PadAddr) : Option Place :=
  match m with
  | .grid16 => some { team := ⟨a.val / 4, by omega⟩, seat := ⟨a.val % 4, by omega⟩ }
  | .grid8 => some { team := ⟨a.val / 8, by omega⟩, seat := ⟨a.val % 8, by omega⟩ }
  | .split =>
    if a.val < 32 then some { team := ⟨a.val / 4, by omega⟩, seat := ⟨a.val % 4, by omega⟩ }
    else some { team := ⟨8 + (a.val - 32) / 8, by omega⟩, seat := ⟨(a.val - 32) % 8, by omega⟩ }
  | .free => none

/-- The effective assignment an assignment source gives an address (R11). -/
def effectivePlace (m : Layout) (a : PadAddr) : Assignment → Option Place
  | .byDefault => defaultPlace m a
  | .override p => some p
  | .released => none

/-- The effective team and seat of a pad (R11). -/
def State.placeOf (s : State) (a : PadAddr) : Option Place :=
  effectivePlace s.roster.layout a (s.pad a).assignment

/-- The effective team of a pad (R11). -/
def State.teamOfPad (s : State) (a : PadAddr) : Option TeamId := (s.placeOf a).map Place.team

/-- The pads assigned to a team (R6), in ascending address order. -/
def State.padsOfTeam (s : State) (t : TeamId) : List PadAddr :=
  (List.finRange 64).filter fun a => decide (s.teamOfPad a = some t)

/-- The assigned count of a team (R6). -/
def State.assignedCount (s : State) (t : TeamId) : Nat := (s.padsOfTeam t).length

/-- The number of a team's pads with the given presence: the present count and the lost count (R6). -/
def State.countOfTeam (s : State) (t : TeamId) (p : PadPresence) : Nat :=
  ((s.padsOfTeam t).filter fun a => decide ((s.pad a).presence = p)).length

/-! ### Ranking (R7) -/

/-- A team enters a rank order behind every team whose score is not lower. -/
def insertRanked (score : TeamId → Int) (t : TeamId) : List TeamId → List TeamId
  | [] => [t]
  | u :: us => if score t ≤ score u then u :: insertRanked score t us else t :: u :: us

/-- The rank order formed from a set of scores: PRESENT teams by score, highest first, equal scores by
ascending team number (R7). -/
def State.rankOrder (s : State) (score : TeamId → Int) : List TeamId :=
  s.presentTeams.foldl (fun order t => insertRanked score t order) []

/-- The live score of a team. -/
def State.liveScore (s : State) (t : TeamId) : Int := (s.team t).score

/-- The score the board renders: the snapshot while the award lock is HELD, the live score otherwise (R7,
R148). -/
def State.boardScore (s : State) (t : TeamId) : Int :=
  match s.scores.lock with
  | .held _ snapshot => look snapshot t
  | .free => s.liveScore t

/-- The live rank order (R7). -/
def State.liveRanks (s : State) : List TeamId := s.rankOrder s.liveScore

/-- The board rank order (R7). -/
def State.boardRanks (s : State) : List TeamId := s.rankOrder s.boardScore

/-- The position of a team in a list, counted from 1. -/
def positionOf (t : TeamId) : List TeamId → Option Nat
  | [] => none
  | u :: us => if u = t then some 1 else (positionOf t us).map (· + 1)

/-! ### PAD_ASSIGN (R12, R13, R15) -/

/-- A pad takes an assignment.  Where its effective team or seat changes, its candidate is discarded; the
accepted key state is kept (R15, R50). -/
def assignPad (a : PadAddr) (asg : Assignment) (s : State) : State :=
  let r := s.pad a
  let changes := effectivePlace s.roster.layout a asg != s.placeOf a
  s.setPad a { r with assignment := asg, candidate := if changes then none else r.candidate }

/-- The pads of a team other than the given pad. -/
def State.otherPadsOfTeam (s : State) (t : TeamId) (a : PadAddr) : List PadAddr :=
  (s.padsOfTeam t).filter fun b => b != a

/-- PAD_ASSIGN with a team and seat, after its value checks (R12). -/
def assignToPlace (a : PadAddr) (p : Place) (s : State) : State × Answer :=
  if Config.maxPadsPerTeam ≤ (s.otherPadsOfTeam p.team a).length then (s, refuse .teamFull)
  else if (s.otherPadsOfTeam p.team a).any fun b => decide (s.placeOf b = some p) then
    (s, refuse .seatTaken)
  else (assignPad a (.override p) s, ok (optItems placeItems (s.placeOf a) ++ placeItems p))

/-- PAD_ASSIGN (R12, R13). -/
def padAssign (args : PadAssignArgs) (s : State) : State × Answer :=
  match padOf args.pad, args.target with
  | none, _ => (s, refuse .badValue)
  | some a, .release => (assignPad a .released s, ok (optItems placeItems (s.placeOf a)))
  | some a, .place team seat =>
    match teamOf team, seatOf seat with
    | some t, some n => assignToPlace a { team := t, seat := n } s
    | _, _ => (s, refuse .badValue)

/-! ### LAYOUT_SET (R14) -/

/-- Every pad returns to its default under the new mode; a pad whose effective team or seat changes loses
its candidate (R14, R15). -/
def layOut (m : Layout) (s : State) : State :=
  { s with roster := { s.roster with
      layout := m
      pads := tabulate fun a =>
        let r := s.pad a
        { r with
            assignment := .byDefault
            candidate := if defaultPlace m a != s.placeOf a then none else r.candidate } } }

/-- LAYOUT_SET (R14): the value is checked before the state. -/
def layoutSet (mode : Byte) (s : State) : State × Answer :=
  match layoutOf mode with
  | none => (s, refuse .badValue)
  | some m =>
    if s.engine.active.isNone && s.stack.isEmpty then (layOut m s, ok [])
    else (s, refuse .wrongState)

/-! ### PAD_FORGET (R16) -/

/-- PAD_FORGET (R16). -/
def padForget (pad : Byte) (s : State) : State × Answer :=
  match padOf pad with
  | none => (s, refuse .badValue)
  | some a =>
    let r := s.pad a
    if r.presence = .lost then
      (s.setPad a { r with presence := .absent, misses := 0, batteryLow := false }, ok [])
    else (s, refuse .wrongState)

/-! ### QUERY_TEAM (R17) -/

/-- What QUERY_TEAM reports of a team (R17). -/
def teamReport (s : State) (t : TeamId) : List Item :=
  let r := s.team t
  [.u8 (t.val + 1), .name r.state.code] ++ optItems glyphsItems r.tag
    ++ [.i16 r.score, .u8 r.correct, .u8 r.wrong, .u8 r.streak]
    ++ optItems lastAwardItems r.last
    ++ [.u8 (s.assignedCount t), .u8 (s.countOfTeam t .present), .u8 (s.countOfTeam t .lost)]
    ++ optItems (fun n => [.u8 n]) (positionOf t s.liveRanks)

/-- QUERY_TEAM (R17). -/
def queryTeam (team : Byte) (s : State) : State × Answer :=
  match teamOf team with
  | none => (s, refuse .badValue)
  | some t => (s, ok (teamReport s t))

end Sys2Proof.Machine
end

