-- ==== Sys2Proof/Machine/DeskLine.lean ====
section
/-! DEFINITION. The desk line controller (chapter 2): lamps, polls, the course of a cycle, the commands
DESK_SPEED, LAMP_SET, QUERY_DESK, and QUERY_PAD (R18).  The events of the line stand in DeskEvents.lean. -/

namespace Sys2Proof.Machine

/-! ### Pad lamps (R37) -/

/-- The entry of a team in a ballot table. -/
def Ballot.entryOf (b : Ballot) (t : TeamId) : Option BallotEntry :=
  b.entries.find? fun e => e.team == t

/-- The team's ballot entry holds a choice (R37). -/
def Context.hasVoted (c : Context) (t : TeamId) : Bool :=
  match c.ballot with
  | none => false
  | some b =>
    match b.entryOf t with
    | none => false
    | some e => e.vote.isSome

/-- The team has a claim in the claim queue. -/
def Context.hasClaim (c : Context) (t : TeamId) : Bool := c.queue.any fun q => q.team == t

/-- Rows 3 to 11 of the lamp policy: the lamp of a pad of a PRESENT team under the active context (R37). -/
def Context.lampOf (c : Context) (t : TeamId) : Lamp :=
  if c.phase = .armed ∨ c.phase = .opening ∨ c.phase = .closing ∨ c.phase = .closed
      ∨ c.phase = .revealed then .off
  else if t ∉ c.eligible then .off
  else if c.isPoll = false ∧ c.holder = some t then (if c.flashing then .fast else .on)
  else if c.isPoll = false ∧ c.hasClaim t then .on
  else if t ∈ c.lockout then .off
  else if c.isPoll = false ∧ (c.phase = .opened ∨ c.phase = .settling) then .slow
  else if c.isPoll ∧ c.phase = .opened then (if c.hasVoted t then .on else .slow)
  else .off

/-- The lamp policy (R37). -/
def State.policyLamp (s : State) (a : PadAddr) : Lamp :=
  match s.teamOfPad a with
  | none => .off
  | some t =>
    if s.teamPresent t then
      match s.engine.active with
      | none => .off
      | some c => c.lampOf t
    else .off

/-- The lamp state sent to a pad: its override if one is set, and otherwise the policy's (R37). -/
def State.lampFor (s : State) (a : PadAddr) : Lamp :=
  match (s.pad a).lampOverride with
  | some l => l
  | none => s.policyLamp a

/-! ### Polls and cycles (R21, R24, R25, R26) -/

/-- The speed flag of the polls of a cycle (R28). -/
def CycleKind.flag : CycleKind → LineSpeed
  | .roam => .roam
  | .switching => .sprint
  | .sprint => .sprint

/-- The poll of an address, its lamp state worked out as it is sent (R21, R38). -/
def State.pollOf (s : State) (a : PadAddr) : Poll :=
  { address := a, flag := s.desk.cycleKind.flag, lamp := s.lampFor a }

/-- The address the discovery probe goes to: the first after the discovery pointer, counting upward and
wrapping, that is ABSENT or LOST; none when all are PRESENT (R24). -/
def State.probeTarget (s : State) : Option PadAddr :=
  ((List.finRange 64).map fun k => s.desk.pointer + k + 1).find? fun a =>
    decide ((s.pad a).presence ≠ .present)

/-- The state with the cycle at a stage. -/
def State.setStage (s : State) (st : CycleStage) : State := { s with desk := { s.desk with stage := st } }

/-- The polls of PRESENT pads are over: a ROAM or switch cycle sends its probe, whereupon the pointer takes
the probed address, and a SPRINT cycle sends none (R24, R25, R26). -/
def sendProbe (s : State) : State :=
  match s.desk.cycleKind with
  | .sprint => s.setStage .finished
  | .roam | .switching =>
    match s.probeTarget with
    | none => s.setStage .finished
    | some a => { s with desk := { s.desk with stage := .probing (s.pollOf a), pointer := a } }

/-- The next poll of the cycle is sent, or after the last its probe (R24, R26). -/
def sendNext (rest : List PadAddr) (s : State) : State :=
  match rest with
  | [] => sendProbe s
  | a :: more => s.setStage (.polling (s.pollOf a) more)

/-- A cycle of a kind starts: the pads polled are those PRESENT now, in ascending order (R24, R26). -/
def startCycle (k : CycleKind) (s : State) : State :=
  sendNext (s.padsWith .present) { s with desk := { s.desk with cycleKind := k } }

/-- A ROAM-cadence cycle starts.  A switch no longer needed is cancelled (R32); a cycle that starts while
the switch record exists is a switch cycle (R28). -/
def startRoamCycle (s : State) : State :=
  let s := judgeNeed s
  if s.sprintNeeded && s.desk.switch.isSome then startCycle .switching s
  else startCycle .roam { s with desk := { s.desk with switch := none } }

/-- The pad is marked LAGGING and joins the PAD changed set (R30, R31). -/
def markLagging (a : PadAddr) (s : State) : State :=
  joinPadChanged a (s.setPad a { s.pad a with lagging := true })

/-- The mark of a pad, if set, is cleared and the pad joins the PAD changed set (R33). -/
def clearLagging (a : PadAddr) (s : State) : State :=
  if (s.pad a).lagging then joinPadChanged a (s.setPad a { s.pad a with lagging := false }) else s

/-- The pads marked LAGGING, in ascending address order. -/
def State.laggingPads (s : State) : List PadAddr :=
  (List.finRange 64).filter fun a => (s.pad a).lagging

/-! ### DESK_SPEED (R35) -/

/-- DESK_SPEED (R35): the setting takes the value and the need is judged again. -/
def deskSpeed (setting : Byte) (s : State) : State × Answer :=
  match settingOf setting with
  | none => (s, refuse .badValue)
  | some v =>
    let t := judgeNeed { s with desk := { s.desk with setting := v } }
    (t, ok [.name t.desk.setting.code, .name (speedCode t.desk.speed), .flag t.desk.switch.isSome])

/-! ### LAMP_SET (R39) -/

/-- The override LAMP_SET gives: a lamp state, or none for clear. -/
def lampChoiceOf : LampChoice → Option (Option Lamp)
  | .lamp b => (lampStateOf b).map some
  | .clear => some none

/-- Every pad takes a lamp override, or loses it. -/
def setAllLamps (l : Option Lamp) (s : State) : State :=
  { s with roster := { s.roster with
      pads := mapTable (fun r => { r with lampOverride := l }) s.roster.pads } }

/-- The number of pads that hold a lamp override. -/
def State.overrideCount (s : State) : Nat :=
  ((List.finRange 64).filter fun a => (s.pad a).lampOverride.isSome).length

/-- LAMP_SET (R39). -/
def lampSet (args : LampSetArgs) (s : State) : State × Answer :=
  match lampChoiceOf args.choice, args.pads with
  | none, _ => (s, refuse .badValue)
  | some l, .all => (setAllLamps l s, ok [.u8 s.overrideCount])
  | some l, .one pad =>
    match padOf pad with
    | none => (s, refuse .badValue)
    | some a =>
      let r := s.pad a
      (s.setPad a { r with lampOverride := l }, ok (optItems (fun o => [.name o.code]) r.lampOverride))

/-! ### Queries (R18, R36) -/

/-- The PRESENT pads not in the echo set, in ascending order (R30, R36). -/
def State.outstanding (s : State) (r : SwitchRecord) : List PadAddr :=
  (s.padsWith .present).filter fun a => !r.echoed.contains a

/-- What QUERY_DESK reports (R36). -/
def deskReport (s : State) : List Item :=
  [.name (speedCode s.desk.speed), .name s.desk.setting.code, .flag s.roundNeedsSprint]
    ++ optItems (fun r => .u8 r.completed :: padsItems (s.outstanding r)) s.desk.switch
    ++ [.u8 s.desk.pointer.val, .clock s.desk.sprintCount, .u8 (s.padsWith .absent).length,
        .u8 (s.padsWith .present).length, .u8 (s.padsWith .lost).length, .u8 s.laggingPads.length]
    ++ padsItems s.laggingPads

/-- QUERY_DESK (R36). -/
def queryDesk (_ : NoArgs) (s : State) : State × Answer := (s, ok (deskReport s))

/-- What QUERY_PAD reports of a pad (R18). -/
def padReport (s : State) (a : PadAddr) : List Item :=
  let r := s.pad a
  [.u8 a.val, .name s.roster.layout.code, .name r.presence.code, .u8 r.misses, .flag r.lagging,
      .flag r.batteryLow, .name r.assignment.code]
    ++ optItems placeItems (defaultPlace s.roster.layout a)
    ++ optItems placeItems (s.placeOf a)
    ++ optItems (fun l => [.name l.code]) r.lampOverride
    ++ [.name (s.lampFor a).code, .mask (keysMask r.keys)]
    ++ optItems (fun c => [.mask (keysMask c.changed), .u8 c.agreeing]) r.candidate

/-- QUERY_PAD (R18). -/
def queryPad (pad : Byte) (s : State) : State × Answer :=
  match padOf pad with
  | none => (s, refuse .badValue)
  | some a => (s, ok (padReport s a))

end Sys2Proof.Machine
end

