-- ==== Sys2Proof/Machine/Scores.lean ====
section
/-! DEFINITION. The score unit (chapter 8): applying and handing over awards, the award lock and its end,
and the commands SCORE_ADJUST, SCORE_LOCK, SCORE_UNLOCK and QUERY_AWARDS. -/

namespace Sys2Proof.Machine

/-! ### Applying an award (R143, R144, R145) -/

/-- The sum kept within the score range: the limit nearer to it where it lies outside (R143). -/
def clampScore (z : Int) : Int :=
  if z < -Config.maxScore then -Config.maxScore else if Config.maxScore < z then Config.maxScore else z

/-- The sum lies outside the score range: the application is saturated (R143). -/
def saturates (z : Int) : Bool := decide (z < -Config.maxScore ∨ Config.maxScore < z)

/-- The correct count after an award of a cause (R144). -/
def correctAfter (cause : AwardCause) (n : Nat) : Nat :=
  match cause with
  | .correct | .revealRight => raiseCount n
  | .wrong | .streak | .speed | .revealWrong | .manual => n

/-- The wrong count after an award of a cause (R144). -/
def wrongAfter (cause : AwardCause) (n : Nat) : Nat :=
  match cause with
  | .wrong | .revealWrong => raiseCount n
  | .correct | .streak | .speed | .revealRight | .manual => n

/-- The streak after an award of a cause (R144). -/
def streakAfter (cause : AwardCause) (n : Nat) : Nat :=
  match cause with
  | .correct => raiseCount n
  | .wrong => 0
  | .streak | .speed | .revealRight | .revealWrong | .manual => n

/-- The team record after an award: steps 1 to 3 of R143. -/
def TeamRecord.afterAward (r : TeamRecord) (a : Award) : TeamRecord :=
  { r with
      score := clampScore (r.score + a.points)
      correct := correctAfter a.cause r.correct
      wrong := wrongAfter a.cause r.wrong
      streak := streakAfter a.cause r.streak
      last := some { points := a.points, cause := a.cause } }

/-- A team joins the SCORE changed set, kept in ascending team order; a saturated mark once set stays set
(R143, R154). -/
def joinScoreChanged (t : TeamId) (saturated : Bool) : List ScoreMark → List ScoreMark
  | [] => [{ team := t, saturated := saturated }]
  | m :: ms =>
    if t < m.team then { team := t, saturated := saturated } :: m :: ms
    else if t = m.team then { team := t, saturated := m.saturated || saturated } :: ms
    else m :: joinScoreChanged t saturated ms

/-- One award applied, without the STREAK award it may bring (R143). -/
def applyOne (a : Award) (s : State) : State :=
  let r := s.team a.team
  let t := s.setTeam a.team (r.afterAward a)
  autoRequest (setPending .score
    { t with scores := { t.scores with
        changed := joinScoreChanged a.team (saturates (r.score + a.points)) t.scores.changed } })

/-- The STREAK award a CORRECT award brings, judged on the record it is applied to (R145). -/
def streakAward (r : TeamRecord) (a : Award) : Option Award :=
  match a.cause, a.bonus with
  | .correct, some n =>
    if r.streak < Config.maxCount ∧ (r.streak + 1) % 3 = 0 ∧ 0 < n then
      some { team := a.team, points := n, cause := .streak, question := a.question, bonus := none }
    else none
  | _, _ => none

/-- An award applied, followed at once by its STREAK award if R145 makes one (R143, R145). -/
def applyAward (a : Award) (s : State) : State :=
  match streakAward (s.team a.team) a with
  | none => applyOne a s
  | some b => applyOne b (applyOne a s)

/-- Awards applied in list order (R150). -/
def applyAwards : List Award → State → State
  | [], s => s
  | a :: as, s => applyAwards as (applyAward a s)

/-! ### The end of the lock (R150) and handing over (R146) -/

/-- The lock becomes FREE with its lapse time and snapshot gone, and the list is emptied (R150). -/
def freeLock (s : State) : State := { s with scores := { s.scores with lock := .free, pendingAwards := [] } }

/-- A held lock ends: the waiting awards are applied, the list emptied and the lock FREE (steps 1 to 3 of
R150). -/
def releaseLock (s : State) : State :=
  if s.lockHeld then freeLock (applyAwards s.scores.pendingAwards s) else s

/-- A held lock ends under R150, with its publish request (step 4). -/
def endLock (s : State) : State := if s.lockHeld then autoRequest (releaseLock s) else s

/-- The last end cause is set, and LOCK pending (R151, R152). -/
def noteLockEnd (e : LockEnd) (s : State) : State :=
  setPending .lock { s with scores := { s.scores with lastEnd := some e } }

/-- An award joins the back of the pending award list (R146). -/
def listAward (a : Award) (s : State) : State :=
  { s with scores := { s.scores with pendingAwards := s.scores.pendingAwards ++ [a] } }

/-- An award from a round is handed to the score unit (R146, R152). -/
def handOver (a : Award) (s : State) : State :=
  match s.scores.lock with
  | .free => applyAward a s
  | .held _ _ =>
    if s.scores.pendingAwards.length < Config.maxPendingAwards then listAward a s
    else applyAward a (noteLockEnd .full (endLock s))

/-- The lapse time is reached: the lock ends with cause LAPSED (R151). -/
def lapse (s : State) : State :=
  match s.scores.lock with
  | .held time _ => if reached s.clock time then noteLockEnd .lapsed (endLock s) else s
  | .free => s

/-! ### SCORE_ADJUST (R147) -/

/-- The points of the MANUAL award a form makes for a live score; none for a value outside its range. -/
def adjustmentPoints (score : Int) : Adjustment → Option Int
  | .delta v => signedWithin (-Config.maxScore) Config.maxScore v
  | .set v => (signedWithin (-Config.maxScore) Config.maxScore v).map fun z => z - score

/-- A MANUAL award (R142). -/
def manualAward (t : TeamId) (points : Int) : Award :=
  { team := t, points := points, cause := .manual, question := none, bonus := none }

/-- SCORE_ADJUST (R147). -/
def scoreAdjust (args : ScoreAdjustArgs) (s : State) : State × Answer :=
  match teamOf args.team with
  | none => (s, refuse .badValue)
  | some t =>
    match adjustmentPoints (s.liveScore t) args.change with
    | none => (s, refuse .badValue)
    | some points =>
      let s' := applyAward (manualAward t points) s
      (s', ok [.i16 (s.liveScore t), .i16 points, .i16 (s'.liveScore t),
        .flag (saturates (s.liveScore t + points))])

/-! ### SCORE_LOCK, SCORE_UNLOCK (R148, R151) -/

/-- The live score of each of the 16 teams (R148). -/
def State.snapshot (s : State) : Vector Int 16 := tabulate s.liveScore

/-- SCORE_LOCK (R148): the lapse is checked before the lock. -/
def scoreLock (seconds : Byte) (s : State) : State × Answer :=
  match within 1 60 seconds with
  | none => (s, refuse .badValue)
  | some n =>
    if s.lockHeld then (s, refuse .lockHeld)
    else
      let time := ticksAfter s.clock (secondsToTicks n)
      (autoRequest { s with scores := { s.scores with lock := .held time s.snapshot } }, ok [.clock time])

/-- The SCORE changed set with its marks. -/
def marksItems (l : List ScoreMark) : List Item :=
  listItems (fun m => [.u8 (m.team.val + 1), .flag m.saturated]) l

/-- SCORE_UNLOCK (R151). -/
def scoreUnlock (_ : NoArgs) (s : State) : State × Answer :=
  if s.lockHeld then
    let s' := endLock s
    (s', ok (.u8 s.scores.pendingAwards.length :: marksItems s'.scores.changed))
  else (s, refuse .notHeld)

/-! ### QUERY_AWARDS (R156) -/

/-- What QUERY_AWARDS reports: the list of R156.  R148 has it report the live scores too, which R156 leaves to
QUERY_TEAM; the model follows R156 (log 31, DESIGN CHOICE). -/
def awardsReport (s : State) : List Item :=
  let lapseItems := match s.scores.lock with
    | .free => [.name 0, .presence false]
    | .held time _ => [.name 1, .presence true, .clock time, .i32 (clockDiff s.clock time)]
  let snapshotItems := match s.scores.lock with
    | .free => [.presence false]
    | .held _ snapshot =>
      .presence true :: snapshot.toList.map Item.i16 ++ teamsItems s.boardRanks
  lapseItems ++ listItems awardItems s.scores.pendingAwards ++ [.u8 s.scores.pendingAwards.length]
    ++ snapshotItems ++ marksItems s.scores.changed
    ++ optItems (fun e => [.name e.code]) s.scores.lastEnd

/-- QUERY_AWARDS (R156). -/
def queryAwards (_ : NoArgs) (s : State) : State × Answer := (s, ok (awardsReport s))

end Sys2Proof.Machine
end

