-- ==== Sys2Proof/Machine/Rounds.lean ====
section
/-! DEFINITION. The round engine's own operations (chapter 5): the round window, entry into OPEN, the close
of a question with its tallies (R134), and what queries read of a context. -/

namespace Sys2Proof.Machine

/-! ### Press events (R52) -/

/-- A key of a pad, in the order of R51. -/
inductive Key where
  | buzz
  | option (letter : Letter)
deriving DecidableEq, Repr

/-- A press event (R52). -/
structure Press where
  pad : PadAddr
  team : TeamId
  key : Key
  capture : ClockValue
deriving DecidableEq, Repr

/-! ### The round window (R86) -/

/-- The window is started: the deadline is the reading plus the time remaining; a window with no time left,
or no window at all, is not started (R86). -/
def Context.startWindow (now : ClockValue) (c : Context) : Context :=
  match c.roundRemaining with
  | none => c
  | some 0 => c
  | some (n + 1) => { c with roundDeadline := some (ticksAfter now (n + 1)) }

/-- The window is started unless the context is held (R86). -/
def Context.startUnlessHeld (now : ClockValue) (c : Context) : Context :=
  if c.held then c else c.startWindow now

/-- The window is paused, or stopped at the time left (R86). -/
def Context.pauseWindow (now : ClockValue) (c : Context) : Context :=
  match c.roundDeadline with
  | none => c
  | some d => { c with roundRemaining := some (ticksLeft now d), roundDeadline := none }

/-- The window is stopped at 0; a question with no window has none (R87, R92). -/
def Context.stopWindowAtZero (c : Context) : Context :=
  { c with roundRemaining := c.roundRemaining.map fun _ => 0, roundDeadline := none }

/-- The round time has run out: the round time remaining is 0 (R86). -/
def Context.ranOut (c : Context) : Bool := decide (c.roundRemaining = some 0)

/-- The round time left, as reported (R86). -/
def Context.roundTimeLeft (now : ClockValue) (c : Context) : Option Nat :=
  match c.roundDeadline with
  | some d => some (ticksLeft now d)
  | none => c.roundRemaining

/-- The answer time left (R113): from the deadline, or the remainder kept while held. -/
def Context.answerTimeLeft (now : ClockValue) (c : Context) : Option Nat :=
  match c.answerDeadline with
  | some d => some (ticksLeft now d)
  | none => c.answerRemainder

/-! ### Entry into OPEN (R84) -/

/-- A context as it enters OPEN (R84). -/
def Context.opened (now : ClockValue) (c : Context) : Context :=
  { c with phase := .opened, openInstant := some now }.startUnlessHeld now

/-- The active context enters OPEN, and a round change is signalled (R84). -/
def enterOpen (c : Context) (s : State) : State :=
  signalRoundChange (s.setActive (some (c.opened s.clock)))

/-! ### Tallies (R134) -/

/-- The options of a cue copy, from A to its last (R59). -/
def optionsUpTo (n : Nat) : List Letter := [Letter.a, Letter.b, Letter.c, Letter.d].take n

/-- The tallies of the entries that count (R134). -/
def tallyOf (options : Nat) (entries : List BallotEntry) : Tallies :=
  { counts := (optionsUpTo options).map fun o =>
      (entries.filter fun e => decide (e.vote.map Vote.choice = some o)).length
    noChoice := (entries.filter fun e => e.vote.isNone).length }

/-- The ballot with its tallies formed from the entries that count. -/
def Ballot.tallied (options : Nat) (counts : BallotEntry → Bool) (b : Ballot) : Ballot :=
  { b with tallies := some (tallyOf options (b.entries.filter counts)) }

/-- A POLL context with the tallies formed at entry into CLOSED, from the teams PRESENT now (R134). -/
def Context.talliedAtClose (s : State) (c : Context) : Context :=
  match c.ballot, c.pollFields with
  | some b, some p => { c with ballot := some (b.tallied p.options fun e => s.teamPresent e.team) }
  | _, _ => c

/-! ### Entry into CLOSED (R75) -/

/-- The changes R75 makes at entry into CLOSED. -/
def Context.closed (now : ClockValue) (e : Ending) (c : Context) : Context :=
  { c.pauseWindow now with
      phase := .closed
      ending := some e
      answerDeadline := none
      answerRemainder := none
      flashInstant := none
      holder := none
      flashing := false }

/-- The active context enters CLOSED with its outcome and cause, its tallies are formed where it is a POLL,
and a round change is signalled (R75, R76, R134). -/
def closeRound (e : Ending) (c : Context) (s : State) : State :=
  signalRoundChange (s.setActive (some ((c.talliedAtClose s).closed s.clock e)))

/-! ### What replies carry of a context -/

/-- The state of the engine as a name: IDLE is 0 (R188). -/
def phaseItem (c : Option Context) : Item :=
  match c with
  | none => .name 0
  | some c => .name c.phase.code

/-- The floor holder of the active context, if any. -/
def State.holder (s : State) : Option TeamId := s.engine.active.bind Context.holder

/-- The round window's condition: None, Running, Paused or stopped (R86). -/
def Context.windowCode (c : Context) : Nat :=
  if c.roundDeadline.isSome then 1 else if c.roundRemaining.isSome then 2 else 0

/-- What QUERY_ROUND reports of a context (R97). -/
def roundReport (s : State) (c : Context) : List Item :=
  [.name c.phase.code, .flag c.held, .slot c.source] ++ cueItems c.cue
    ++ teamsItems c.eligible ++ teamsItems c.lockout ++ teamsItems c.overflow
    ++ [.u8 c.queue.length] ++ optItems teamItem c.holder
    ++ [.name c.windowCode] ++ optItems ticksItem (c.roundTimeLeft s.clock)
    ++ optItems clockItem c.roundDeadline
    ++ optItems (fun d => [.i32 (ticksLeft s.clock d), .clock d]) c.answerDeadline
    ++ optItems clockItem c.openInstant ++ optItems clockItem c.closeInstant
    ++ [.flag c.flashing] ++ optItems endingItems c.ending
    ++ [.u8 (s.engine.tiePointer.val + 1), .u8 s.stack.length]

/-- QUERY_ROUND (R97). -/
def queryRound (_ : NoArgs) (s : State) : State × Answer :=
  match s.engine.active with
  | none => (s, ok [.name 0, .u8 (s.engine.tiePointer.val + 1), .u8 s.stack.length])
  | some c => (s, ok (roundReport s c))

end Sys2Proof.Machine
end

