-- ==== Sys2Proof/Machine/Claims.lean ====
section
/-! DEFINITION. Claims and the floor (chapter 6): admission, improvement and overflow, the settle test and
the grant, verdicts and the floor pass, and the commands JUDGE, CLAIM_DROP and QUERY_QUEUE. -/

namespace Sys2Proof.Machine

/-! ### The order of claims (R100) -/

/-- The place of a team in the count from the tie pointer, wrapping from 16 to 1 (R100). -/
def tiePlace (pointer t : TeamId) : Nat := (t - pointer).val

/-- One team with a capture time goes before another: by the time, or for equal times by the count from the
tie pointer (R100, R137). -/
def goesBefore (pointer : TeamId) (team : TeamId) (capture : ClockValue) (team' : TeamId)
    (capture' : ClockValue) : Bool :=
  earlier capture capture' || (capture == capture' && decide (tiePlace pointer team < tiePlace pointer team'))

/-- A claim precedes one met in the scan (R100). -/
def Claim.precedes (pointer : TeamId) (new met : Claim) : Bool :=
  goesBefore pointer new.team new.capture met.team met.capture

/-- The scan of R100 from front to back. -/
def insertClaim (pointer : TeamId) (new : Claim) : List Claim → List Claim
  | [] => [new]
  | met :: rest =>
    if new.precedes pointer met then new :: met :: rest else met :: insertClaim pointer new rest

/-- A claim placed in a queue: in FLOOR the scan starts behind the first claim (R100). -/
def placeClaim (pointer : TeamId) (phase : Phase) (new : Claim) (queue : List Claim) : List Claim :=
  match phase, queue with
  | .floor, holder :: rest => holder :: insertClaim pointer new rest
  | _, _ => insertClaim pointer new queue

/-- The claims of the teams other than one. -/
def withoutTeam (t : TeamId) (queue : List Claim) : List Claim := queue.filter fun q => q.team != t

/-! ### Settling and the grant (R109, R110, R111) -/

/-- The settle span, and the closing span: the debounce count plus 1, in SPRINT cycles (R109, R132). -/
def State.span (s : State) : Nat := s.debounce + 1

/-- The cycles since a SPRINT cycle count, modulo 2^32 (R99, R132). -/
def State.cyclesSince (s : State) (count : ClockValue) : Nat := (s.desk.sprintCount - count).toNat

/-- A claim has been queued for at least the settle span (R109). -/
def State.settled (s : State) (q : Claim) : Bool := decide (s.span ≤ s.cyclesSince q.joinCycle)

/-- The tie pointer after a grant to the head of a queue (R111). -/
def tiePointerAfter (pointer : TeamId) (head : Claim) (rest : List Claim) : TeamId :=
  match rest with
  | second :: _ => if second.capture = head.capture then head.team + 1 else pointer
  | [] => pointer

/-- The answer window of the cue copy in seconds (R59); a POLL question has none. -/
def Context.answerSeconds (c : Context) : Nat :=
  match c.floorFields with
  | some f => f.answerWindow
  | none => 0

/-- A context as a grant to the head of its queue leaves it (R110, R113). -/
def Context.granted (now : ClockValue) (head : Claim) (rest : List Claim) (c : Context) : Context :=
  let deadline := ticksAfter now (secondsToTicks c.answerSeconds)
  { c.pauseWindow now with
      holder := some head.team
      queue := { head with contested := false } :: rest
      answerDeadline := some deadline
      flashing := decide (c.answerSeconds ≤ Config.flashSeconds)
      flashInstant :=
        if c.answerSeconds ≤ Config.flashSeconds then none
        else some (deadline - BitVec.ofNat 32 Config.flashTicks)
      phase := .floor }

/-- The floor is granted to the team of the first claim: steps 1 to 5 and 7 of R110. -/
def grantFloor (head : Claim) (rest : List Claim) (c : Context) (s : State) : State :=
  setPending .floor
    { s with engine :=
        { active := some (c.granted s.clock head rest)
          tiePointer := tiePointerAfter s.engine.tiePointer head rest } }

/-- The settle test on the head of the active context, and the grant it leads to where the context is
SETTLING and not held (R109, R110). -/
def settleTest (s : State) : State :=
  match s.engine.active with
  | none => s
  | some c =>
    match c.phase, c.queue with
    | .settling, head :: rest =>
      if s.settled head && !c.held then signalRoundChange (grantFloor head rest c s) else s
    | _, _ => s

/-! ### Admission (R101 to R107) -/

/-- A claim admitted: out of the overflow set, placed in the queue; a queue change, from OPEN a round change,
and FLOOR pending for a contested claim (R102, R104). -/
def admitClaim (q : Claim) (c : Context) (s : State) : State :=
  let contested := match c.phase, c.queue with
    | .floor, holder :: _ => earlier q.capture holder.capture
    | _, _ => false
  let queue := placeClaim s.engine.tiePointer c.phase { q with contested := contested } c.queue
  let c' := { c with queue := queue, overflow := removeFrom q.team c.overflow }
  match c.phase with
  | .opened =>
    signalRoundChange (signalQueueChange (s.setActive (some { c' with phase := .settling })))
  | .floor =>
    let s' := signalQueueChange (s.setActive (some c'))
    if contested then setPending .floor s' else s'
  | .armed | .opening | .settling | .closing | .closed | .revealed =>
    signalQueueChange (s.setActive (some c'))

/-- A new claim that finds 8 claims queued (R106). -/
def meetFullQueue (q last : Claim) (c : Context) (s : State) : State :=
  if earlier q.capture last.capture then
    admitClaim q { c with queue := c.queue.dropLast, overflow := insertAsc last.team c.overflow } s
  else s.setActive (some { c with overflow := insertAsc q.team c.overflow })

/-- A new claim (R102, R106). -/
def newClaim (q : Claim) (c : Context) (s : State) : State :=
  if c.queue.length < Config.maxClaims then admitClaim q c s
  else
    match c.queue.getLast? with
    | some last => meetFullQueue q last c s
    | none => s

/-- An improvement (R105): the claim takes the press's pad and time and the present count, and is placed
again. -/
def improveClaim (p : Press) (old : Claim) (c : Context) (s : State) : State :=
  let q := { old with pad := p.pad, capture := p.capture, joinCycle := s.desk.sprintCount }
  let queue := placeClaim s.engine.tiePointer c.phase q (withoutTeam p.team c.queue)
  signalQueueChange (s.setActive (some { c with queue := queue }))

/-- The claim a press makes (R102). -/
def claimOf (p : Press) (s : State) : Claim :=
  { team := p.team, pad := p.pad, capture := p.capture, joinCycle := s.desk.sprintCount,
    contested := false }

/-- A press event reaches the claim queue: the tests of R101 in their order. -/
def takeClaim (p : Press) (c : Context) (s : State) : State :=
  if p.key ≠ .buzz then s
  else if p.team ∈ c.lockout then s
  else
    match c.queue.find? fun q => q.team == p.team with
    | some old =>
      if c.phase = .settling ∧ earlier p.capture old.capture then improveClaim p old c s else s
    | none => newClaim (claimOf p s) c s

/-! ### The floor pass (R119) -/

/-- A context at the beginning of a floor pass: no holder, no flash instant, the marker clear (R119). -/
def Context.passing (c : Context) : Context :=
  { c with holder := none, flashInstant := none, flashing := false }

/-- Every team of the eligible set that is PRESENT is locked out (case 2 of R119). -/
def State.allLockedOut (s : State) (c : Context) : Bool :=
  c.eligible.all fun t => !s.teamPresent t || c.lockout.contains t

/-- The cue copy allows rebound (R59); a POLL question has no such field. -/
def Context.allowsRebound (c : Context) : Bool :=
  match c.floorFields with
  | some f => f.rebound
  | none => false

/-- The floor passes with a cause, after the holder's claim has been removed: the first case of R119 that
applies.  A pass that empties the queue with the round time run out and every able team locked out is so ALL_OUT by case 2,
where R89 and R95 have such a pass close with TIME_UP: the model's choice (log 33). -/
def floorPass (cause : EndCause) (c : Context) (s : State) : State :=
  let c := c.passing
  match c.queue with
  | head :: rest =>
    if s.settled head && !c.held then grantFloor head rest c s
    else
      signalRoundChange (s.setActive (some ({ c with phase := .settling }.startUnlessHeld s.clock)))
  | [] =>
    if s.allLockedOut c then closeRound { outcome := .allOut, cause := cause } c s
    else if c.allowsRebound && !c.ranOut then
      signalRoundChange (s.setActive (some ({ c with phase := .opened }.startUnlessHeld s.clock)))
    else closeRound { outcome := if c.ranOut then .timeUp else .allOut, cause := cause } c s

/-! ### Verdicts (R114, R116, R117, R118) -/

/-- The award of a CORRECT verdict (R116). -/
def Context.correctAward (c : Context) (t : TeamId) : Award :=
  { team := t, points := c.cue.correctPoints, cause := .correct, question := some c.cue.question,
    bonus := c.cue.part.streakBonus }

/-- The award of a WRONG verdict (R117). -/
def Context.wrongAward (c : Context) (t : TeamId) : Award :=
  { team := t, points := c.cue.wrongPoints, cause := .wrong, question := some c.cue.question,
    bonus := none }

/-- A CORRECT verdict on the holder (R116). -/
def correctVerdict (t : TeamId) (c : Context) (s : State) : State :=
  closeRound { outcome := .won t, cause := .judged } c (handOver (c.correctAward t) s)

/-- A WRONG verdict on the holder, with the cause of the pass (R117). -/
def wrongVerdict (cause : EndCause) (t : TeamId) (c : Context) (s : State) : State :=
  floorPass cause { c with queue := withoutTeam t c.queue, lockout := insertAsc t c.lockout }
    (signalQueueChange (handOver (c.wrongAward t) s))

/-- A VOID verdict on the holder, with the cause of the pass (R118). -/
def voidVerdict (cause : EndCause) (t : TeamId) (c : Context) (s : State) : State :=
  floorPass cause { c with queue := withoutTeam t c.queue } (signalQueueChange s)

/-- The answer window ends with a cause: the deadline is removed and the cue's expiry verdict is applied to
the holder (R114). -/
def endAnswer (cause : EndCause) (c : Context) (s : State) : State :=
  match c.holder, c.floorFields with
  | some t, some f =>
    let c := { c with answerDeadline := none }
    match f.expiry with
    | .wrong => wrongVerdict cause t c s
    | .void => voidVerdict cause t c s
  | _, _ => s

/-- The answer deadline of a context in FLOOR is reached (R114). -/
def answerExpiry (s : State) : State :=
  match s.engine.active with
  | none => s
  | some c =>
    match c.phase, c.answerDeadline with
    | .floor, some d => if reached s.clock d then endAnswer .expired c s else s
    | _, _ => s

/-- The flash instant is reached: the countdown-flash marker is set (R113). -/
def flashReached (s : State) : State :=
  match s.engine.active with
  | none => s
  | some c =>
    match c.flashInstant with
    | none => s
    | some d =>
      if reached s.clock d then s.setActive (some { c with flashing := true, flashInstant := none }) else s

/-! ### JUDGE (R115) -/

/-- A refused JUDGE carries the present floor holder, or absent (R115). -/
def refuseJudge (reason : Reason) (s : State) : State × Answer :=
  (s, { result := .refused reason, data := optItems teamItem s.holder })

/-- The verdict on the holder (R116, R117, R118). -/
def applyVerdict (v : Verdict) (t : TeamId) (c : Context) (s : State) : State :=
  match v with
  | .correct => correctVerdict t c s
  | .wrong => wrongVerdict .judged t c s
  | .void => voidVerdict .judged t c s

/-- The points of the award a verdict makes (R115). -/
def Context.verdictPoints (c : Context) : Verdict → Option Int
  | .correct => some c.cue.correctPoints
  | .wrong => some c.cue.wrongPoints
  | .void => none

/-- A verdict for a team: refused with STALE unless the active context is in FLOOR and the team holds it
(R115). -/
def judgeTeam (t : TeamId) (v : Verdict) (s : State) : State × Answer :=
  match s.engine.active with
  | none => refuseJudge .stale s
  | some c =>
    if c.phase = .floor ∧ c.holder = some t then
      let s' := applyVerdict v t { c with answerDeadline := none } s
      (s', ok (.name v.code :: optItems (fun z => [.i16 z]) (c.verdictPoints v)
        ++ phaseItem s'.engine.active :: optItems teamItem s'.holder))
    else refuseJudge .stale s

/-- JUDGE (R115).  Its refusals carry the holder, that of a payload that does not fit included. -/
def judge (p : Payload JudgeArgs) (s : State) : State × Answer :=
  match p with
  | .misfit => refuseJudge .badValue s
  | .fits args =>
    match teamOf args.team, verdictOf args.verdict with
    | some t, some v => judgeTeam t v s
    | _, _ => refuseJudge .badValue s

/-! ### Removing a claim (R121, R4, R91) -/

/-- A SETTLING context whose queue was emptied returns to OPEN, or closes if its round time has run out
(R91). -/
def reopenEmptied (c : Context) (s : State) : State :=
  if c.ranOut then closeRound { outcome := .timeUp, cause := .expired } { c with phase := .opened } s
  else signalRoundChange (s.setActive (some { c with phase := .opened }))

/-- A team's claim is removed, by CLAIM_DROP or because the team was benched: the course of R121. -/
def removeClaim (t : TeamId) (c : Context) (s : State) : State :=
  let c' := { c with queue := withoutTeam t c.queue }
  let s' := signalQueueChange (s.setActive (some c'))
  match c.phase, c.queue with
  | .settling, head :: _ =>
    if head.team = t then
      match c'.queue with
      | [] => reopenEmptied c' s'
      | _ :: _ => settleTest s'
    else s'
  | _, _ => s'

/-- CLAIM_DROP (R120, R121). -/
def claimDrop (team : Byte) (s : State) : State × Answer :=
  match teamOf team, s.engine.active with
  | none, _ => (s, refuse .badValue)
  | some _, none => (s, refuse .wrongState)
  | some t, some c =>
    if c.isPoll = true ∨ ¬(c.phase = .opened ∨ c.phase = .settling ∨ c.phase = .floor) then
      (s, refuse .wrongState)
    else if c.holder = some t then (s, refuse .floorHeld)
    else if c.hasClaim t then
      let s' := removeClaim t c s
      (s', ok [phaseItem s'.engine.active, .u8 (withoutTeam t c.queue).length])
    else (s, refuse .notQueued)

/-! ### QUERY_QUEUE (R123) -/

/-- A claim as QUERY_QUEUE reports it, with its position from 1 (R123). -/
def claimReport (s : State) (position : Nat) (q : Claim) : List Item :=
  [.u8 position, .u8 (q.team.val + 1), .u8 q.pad.val, .clock q.capture, .clock q.joinCycle,
    .i32 (s.cyclesSince q.joinCycle), .flag q.contested]

/-- The claims of a queue, numbered from a position. -/
def claimReports (s : State) : Nat → List Claim → List Item
  | _, [] => []
  | n, q :: qs => claimReport s n q ++ claimReports s (n + 1) qs

/-- What QUERY_QUEUE reports (R123). -/
def queueReport (s : State) (c : Context) : List Item :=
  .name c.phase.code :: optItems teamItem c.holder
    ++ optItems (fun d => [.clock d, .i32 (ticksLeft s.clock d)]) c.answerDeadline
    ++ [.flag c.flashing] ++ .count c.queue.length :: claimReports s 1 c.queue
    ++ optItems (fun q => [.flag (s.settled q)]) c.queue.head?
    ++ teamsItems c.overflow ++ teamsItems c.lockout
    ++ [.u8 (s.engine.tiePointer.val + 1), .clock s.desk.sprintCount, .u8 s.span]

/-- QUERY_QUEUE (R123). -/
def queryQueue (_ : NoArgs) (s : State) : State × Answer :=
  match s.engine.active with
  | none => (s, refuse .wrongState)
  | some c => if c.isPoll then (s, refuse .wrongState) else (s, ok (queueReport s c))

end Sys2Proof.Machine
end

