-- ==== Sys2Proof/Machine/Polls.lean ====
section
/-! DEFINITION. Poll rounds and ballots (chapter 7): votes, the closing of the voting, and the commands
REVEAL and QUERY_BALLOT. -/

namespace Sys2Proof.Machine

/-! ### Voting (R126 to R130) -/

/-- A first choice (R127). -/
def BallotEntry.firstChoice (o : Letter) (capture : ClockValue) (e : BallotEntry) : BallotEntry :=
  { e with vote := some { choice := o, capture := capture, firstCapture := capture } }

/-- A press against the standing choice under FIRST_STANDS (R128). -/
def BallotEntry.firstStands (o : Letter) (capture : ClockValue) (v : Vote) (e : BallotEntry) :
    BallotEntry :=
  if earlier capture v.capture then
    { e with
        vote := some { choice := o, capture := capture, firstCapture := capture }
        changes := if o = v.choice then e.changes else raiseCount e.changes }
  else e

/-- A press against the standing choice under LAST_STANDS (R129). -/
def BallotEntry.lastStands (o : Letter) (capture : ClockValue) (v : Vote) (e : BallotEntry) :
    BallotEntry :=
  if earlier v.capture capture ∧ o ≠ v.choice then
    { e with
        vote := some { choice := o, capture := capture, firstCapture := v.firstCapture }
        changes := raiseCount e.changes }
  else e

/-- A press that reaches an entry (R127, R128, R129). -/
def BallotEntry.take (policy : ChangePolicy) (o : Letter) (capture : ClockValue) (e : BallotEntry) :
    BallotEntry :=
  match e.vote, policy with
  | none, _ => e.firstChoice o capture
  | some v, .firstStands => e.firstStands o capture v
  | some v, .lastStands => e.lastStands o capture v

/-- The ballot with a press taken into its team's entry. -/
def Ballot.take (policy : ChangePolicy) (t : TeamId) (o : Letter) (capture : ClockValue) (b : Ballot) :
    Ballot :=
  { b with entries := b.entries.map fun e => if e.team = t then e.take policy o capture else e }

/-- Tests 3 and 4 of R126: the press comes too late for the voting. -/
def Context.tooLate (c : Context) (capture : ClockValue) : Bool :=
  match c.phase, c.roundDeadline, c.closeInstant with
  | .opened, some d, _ => !earlier capture d
  | .closing, _, some d => !earlier capture d
  | _, _, _ => false

/-- A press event reaches the ballot table: the tests of R126 in their order. -/
def takeVote (p : Press) (c : Context) (s : State) : State :=
  match p.key, c.pollFields, c.ballot with
  | .option o, some f, some b =>
    if f.options ≤ o.code then s
    else if c.tooLate p.capture then s
    else s.setActive (some { c with ballot := some (b.take f.policy p.team o p.capture) })
  | _, _, _ => s

/-! ### The round engine's first examination (R85) -/

/-- The states in which press events are taken (R74). -/
def Phase.takesPresses : Phase → Bool
  | .opened | .settling | .floor | .closing => true
  | .armed | .opening | .closed | .revealed => false

/-- A false start: the capture time is earlier than the open instant (R85). -/
def Context.falseStart (c : Context) (capture : ClockValue) : Bool :=
  match c.openInstant with
  | some t => earlier capture t
  | none => false

/-- A press event is examined by the round engine and discarded, or handed to the claim queue or the ballot
table (R85). -/
def takePress (p : Press) (s : State) : State :=
  match s.engine.active with
  | none => s
  | some c =>
    if !c.phase.takesPresses then s
    else if p.team ∉ c.eligible then s
    else if !s.teamPresent p.team then s
    else if c.falseStart p.capture then s
    else if c.isPoll then takeVote p c s
    else takeClaim p c s

/-! ### Closing the voting (R90, R92, R131, R132) -/

/-- The voting closes with a cause at a close instant: the context enters CLOSING (R131). -/
def closeVoting (cause : EndCause) (instant : ClockValue) (c : Context) (s : State) : State :=
  signalRoundChange (s.setActive (some
    { c.stopWindowAtZero with
        closeInstant := some instant
        phase := .closing
        ballot := c.ballot.map fun b =>
          { b with closeCause := some cause, startCount := some s.desk.sprintCount } }))

/-- The test of the closing span at a SPRINT cycle completion (R132). -/
def closingTest (s : State) : State :=
  match s.engine.active with
  | none => s
  | some c =>
    match c.phase, c.ballot with
    | .closing, some b =>
      match b.startCount, b.closeCause with
      | some n, some cause =>
        if s.span ≤ s.cyclesSince n then closeRound { outcome := .timeUp, cause := cause } c s else s
      | _, _ => s
    | _, _ => s

/-- The round engine is told that a SPRINT cycle has completed (R26, R109, R132). -/
def cycleCompleted (s : State) : State := closingTest (settleTest s)

/-! ### The round deadline (R87 to R90) -/

/-- What an expiry does by the state and kind (R88, R89, R90); `instant` is the deadline reached. -/
def expireRound (instant : ClockValue) (c : Context) (s : State) : State :=
  let stopped := c.stopWindowAtZero
  match c.phase with
  | .opened =>
    if c.isPoll then closeVoting .expired instant c s
    else closeRound { outcome := .timeUp, cause := .expired } stopped s
  | .armed | .opening | .settling | .floor | .closing | .closed | .revealed =>
    s.setActive (some stopped)

/-- The round deadline is reached (R87). -/
def roundExpiry (s : State) : State :=
  match s.engine.active with
  | none => s
  | some c =>
    match c.roundDeadline with
    | none => s
    | some d => if reached s.clock d then expireRound d c s else s

/-! ### REVEAL (R135 to R138) -/

/-- Each entry with its skipped flag as REVEAL sets it (R136). -/
def markSkipped (s : State) (e : BallotEntry) : BallotEntry :=
  { e with skipped := !s.teamPresent e.team }

/-- The award REVEAL makes for an entry not skipped (R136). -/
def revealAward (c : Context) (right : Letter) (e : BallotEntry) : Option Award :=
  match e.skipped, e.vote with
  | false, some v =>
    if v.choice = right then
      some { team := e.team, points := c.cue.correctPoints, cause := .revealRight,
             question := some c.cue.question, bonus := none }
    else
      some { team := e.team, points := c.cue.wrongPoints, cause := .revealWrong,
             question := some c.cue.question, bonus := none }
  | _, _ => none

/-- A correct choice with its capture time, in the order of the speed places (R137). -/
structure SpeedEntry where
  team : TeamId
  capture : ClockValue
deriving DecidableEq, Repr

/-- The entries not skipped whose choice is correct (R137). -/
def correctEntry (right : Letter) (e : BallotEntry) : Option SpeedEntry :=
  match e.skipped, e.vote with
  | false, some v => if v.choice = right then some { team := e.team, capture := v.capture } else none
  | _, _ => none

/-- A correct entry takes its place in the speed order (R137). -/
def insertSpeed (pointer : TeamId) (x : SpeedEntry) : List SpeedEntry → List SpeedEntry
  | [] => [x]
  | y :: ys =>
    if goesBefore pointer x.team x.capture y.team y.capture then x :: y :: ys
    else y :: insertSpeed pointer x ys

/-- The correct entries ordered by choice capture time, equal times by the count from the tie pointer
(R137). -/
def speedOrder (pointer : TeamId) (l : List SpeedEntry) : List SpeedEntry :=
  l.foldl (fun order x => insertSpeed pointer x order) []

/-- The award of a speed place (R137). -/
def speedAward (c : Context) (f : PollFields) (t : TeamId) : Award :=
  { team := t, points := f.placePoints, cause := .speed, question := some c.cue.question, bonus := none }

/-- Awards handed over one by one (R146). -/
def handOverAll : List Award → State → State
  | [], s => s
  | a :: as, s => handOverAll as (handOver a s)

/-- The teams of the speed places, in place order (R137). -/
def speedPlaces (pointer : TeamId) (right : Letter) (places : Nat) (entries : List BallotEntry) :
    List TeamId :=
  ((speedOrder pointer (entries.filterMap (correctEntry right))).map SpeedEntry.team).take places

/-- The entries of a ballot as REVEAL judges them (R136). -/
def revealedEntries (s : State) (b : Ballot) : List BallotEntry := b.entries.map (markSkipped s)

/-- The awards of a REVEAL, in the order they are handed over (R136, R137). -/
def revealAwards (s : State) (c : Context) (f : PollFields) (b : Ballot) (right : Letter) : List Award :=
  let entries := revealedEntries s b
  entries.filterMap (revealAward c right)
    ++ (speedPlaces s.engine.tiePointer right f.places entries).map (speedAward c f)

/-- The ballot a REVEAL leaves (R135, R136, R137, R138). -/
def Ballot.revealedBy (s : State) (f : PollFields) (right : Letter) (b : Ballot) : Ballot :=
  let entries := revealedEntries s b
  { b with
      entries := entries
      revealed := some right
      places := speedPlaces s.engine.tiePointer right f.places entries
      tallies := some (tallyOf f.options (entries.filter fun e => !e.skipped)) }

/-- The ending of a revealed context: outcome REVEALED, the cause kept (R138). -/
def Ending.toRevealed (e : Ending) : Ending := { e with outcome := .revealed }

/-- The context enters REVEALED after the awards are handed on (R138). -/
def revealContext (e : Ending) (b : Ballot) (c : Context) : Context :=
  { c with phase := .revealed, ending := some e.toRevealed, ballot := some b }

/-- An award as REVEAL's reply carries it: team, points and cause (R138). -/
def revealAwardItems (a : Award) : List Item :=
  [.u8 (a.team.val + 1), .i16 a.points, .name a.cause.code]

/-- The reply of an accepted REVEAL (R138). -/
def revealReply (right : Letter) (fromCommand : Bool) (awards : List Award) (b : Ballot) : List Item :=
  [.name right.code, .flag fromCommand]
    ++ (match b.tallies with | some t => talliesItems t | none => [])
    ++ listItems revealAwardItems awards
    ++ teamsItems ((b.entries.filter fun e => e.skipped).map BallotEntry.team)
    ++ [.name Phase.revealed.code]

/-- An accepted REVEAL (R135 to R138). -/
def acceptReveal (right : Letter) (fromCommand : Bool) (e : Ending) (c : Context) (f : PollFields)
    (b : Ballot) (s : State) : State × Answer :=
  let awards := revealAwards s c f b right
  let b' := b.revealedBy s f right
  (signalRoundChange ((handOverAll awards s).setActive (some (revealContext e b' c))),
    ok (revealReply right fromCommand awards b'))

/-- The option of a REVEAL: none where one is given that is not A to D (R135). -/
def revealOption : Option Byte → Option (Option Letter)
  | none => some none
  | some b => (letterOf b).map some

/-- Steps 3 and 4 of R135, and what follows where they pass. -/
def revealWith (given : Option Letter) (e : Ending) (c : Context) (f : PollFields) (b : Ballot) (s : State) :
    State × Answer :=
  let refused : State × Answer := (s, { result := .refused .badValue, data := [.u8 f.options] })
  match given, f.correct with
  | some o, _ => if f.options ≤ o.code then refused else acceptReveal o true e c f b s
  | none, some o => acceptReveal o false e c f b s
  | none, none => refused

/-- REVEAL (R135). -/
def reveal (option : Option Byte) (s : State) : State × Answer :=
  match revealOption option, s.engine.active with
  | none, _ => (s, refuse .badValue)
  | some _, none => (s, refuse .wrongState)
  | some given, some c =>
    match c.pollFields, c.ballot, c.ending with
    | some f, some b, some e =>
      if c.phase = .closed ∧ e.outcome = .timeUp then revealWith given e c f b s
      else (s, refuse .wrongState)
    | _, _, _ => (s, refuse .wrongState)

/-! ### QUERY_BALLOT (R140) -/

/-- An entry as QUERY_BALLOT reports it (R140). -/
def entryReport (s : State) (revealed : Bool) (e : BallotEntry) : List Item :=
  [.u8 (e.team.val + 1), .name (s.team e.team).state.code]
    ++ optItems (fun v => [.name v.choice.code]) e.vote
    ++ optItems (fun v => [.clock v.capture]) e.vote
    ++ optItems (fun v => [.clock v.firstCapture]) e.vote
    ++ [.u8 e.changes] ++ optItems (fun b => [.flag b]) (if revealed then some e.skipped else none)

/-- What QUERY_BALLOT reports (R140).  The cycles completed since the close are below the closing span of at most 5
while the voting closes (R132), and so one byte by R188: the model's reading (log 12). -/
def ballotReport (s : State) (c : Context) (f : PollFields) (b : Ballot) : List Item :=
  [.name c.phase.code, .flag c.held, .u8 f.options, .name f.policy.code]
    ++ optItems (fun o => [.name o.code]) f.correct
    ++ optItems clockItem c.closeInstant
    ++ optItems (fun e => [.name e.closeCode]) b.closeCause
    ++ optItems clockItem b.startCount
    ++ [.u8 s.span]
    ++ optItems (fun n => [.u8 (s.cyclesSince n)]) (if c.phase = .closing then b.startCount else none)
    ++ listItems (entryReport s (decide (c.phase = .revealed))) b.entries
    ++ optItems talliesItems b.tallies
    ++ optItems (fun o => [.name o.code]) b.revealed
    ++ listItems teamItem b.places
    ++ [.u8 (s.engine.tiePointer.val + 1)]

/-- QUERY_BALLOT (R140). -/
def queryBallot (_ : NoArgs) (s : State) : State × Answer :=
  match s.engine.active with
  | none => (s, refuse .wrongState)
  | some c =>
    match c.pollFields, c.ballot with
    | some f, some b => (s, ok (ballotReport s c f b))
    | _, _ => (s, refuse .wrongState)

end Sys2Proof.Machine
end

