-- ==== Sys2Proof/Machine/Silence.lean ====
section
/-! DEFINITION. The silence monitor and the hold (R164 to R168), and the commands SILENCE_ARM and QUERY_STACK
(R164, R170). -/

namespace Sys2Proof.Machine

/-! ### A hold begins (R166, R167) -/

/-- A context as a hold begins: held, with its round window and, in FLOOR, its answer window and flash
instant paused (R167). -/
def Context.hold (now : ClockValue) (c : Context) : Context :=
  let c := { c.pauseWindow now with held := true }
  match c.phase, c.answerDeadline with
  | .floor, some d =>
    { c with answerRemainder := some (ticksLeft now d), answerDeadline := none, flashInstant := none }
  | _, _ => c

/-- The active context, if any, is held (R166). -/
def holdActive (s : State) : State := s.setActive (s.engine.active.map (Context.hold s.clock))

/-- The silence deadline is reached: the hold begins (R166). -/
def silenceReached (s : State) : State :=
  match s.silence with
  | .watching period last deadline =>
    if reached s.clock deadline then
      autoRequest (setPending .hold (holdActive { s with silence := .holding period last }))
    else s
  | .disarmed => s
  | .holding _ _ => s

/-! ### A hold ends (R168) -/

/-- The monitor enters WATCHING with its count started now (R165). -/
def watchFrom (now : ClockValue) (period : Nat) : SilenceMonitor :=
  .watching period now (ticksAfter now (secondsToTicks period))

/-- Step 3 of R168: in FLOOR the answer deadline and the flash instant are set again from the remainder. -/
def Context.resumeAnswer (now : ClockValue) (c : Context) : Context :=
  match c.answerRemainder with
  | none => c
  | some n =>
    let deadline := ticksAfter now n
    { c with
        answerDeadline := some deadline
        answerRemainder := none
        flashInstant := some (deadline - BitVec.ofNat 32 Config.flashTicks)
        flashing := c.flashing || decide (n ≤ Config.flashTicks) }

/-- A held context as the hold ends: steps 1 to 3 of R168. -/
def Context.unhold (now : ClockValue) (c : Context) : Context :=
  let c := { c with held := false }
  match c.phase with
  | .opened | .settling => c.startWindow now
  | .floor => c.resumeAnswer now
  | .armed | .opening | .closing | .closed | .revealed => c

/-- The active context, if held, is released, and in SETTLING its head is tested (R168). -/
def unholdActive (s : State) : State :=
  match s.engine.active with
  | some c => if c.held then settleTest (s.setActive (some (c.unhold s.clock))) else s
  | none => s

/-- The hold ends (R168). -/
def endHold (period : Nat) (s : State) : State :=
  autoRequest (setPending .hold (unholdActive { s with silence := watchFrom s.clock period }))

/-- The monitor is told of a valid frame before its command acts (R165). -/
def validFrame (s : State) : State :=
  match s.silence with
  | .disarmed => s
  | .watching period _ _ => { s with silence := watchFrom s.clock period }
  | .holding period _ => endHold period s

/-! ### SILENCE_ARM (R164) -/

/-- SILENCE_ARM (R164): the period is checked before the condition. -/
def silenceArm (seconds : Byte) (s : State) : State × Answer :=
  match within 2 60 seconds with
  | none => (s, refuse .badValue)
  | some n =>
    match s.silence with
    | .disarmed => ({ s with silence := watchFrom s.clock n }, ok [.u8 n])
    | .watching _ _ _ => (s, refuse .alreadyArmed)
    | .holding _ _ => (s, refuse .alreadyArmed)

/-! ### QUERY_STACK (R170) -/

/-- The number of ballot entries that hold a choice (R170). -/
def Ballot.voteCount (b : Ballot) : Nat := (b.entries.filter fun e => e.vote.isSome).length

/-- A saved context as QUERY_STACK reports it (R170). -/
def savedReport (level : Nat) (x : SavedContext) : List Item :=
  let c := x.context
  [.u8 level, .name x.origin.code, .name c.phase.code, .slot c.source, .name c.cue.part.kind.code,
      .i16 c.cue.question]
    ++ optItems ticksItem c.roundRemaining
    ++ teamsItems c.eligible ++ teamsItems c.lockout ++ teamsItems c.overflow
    ++ optItems (fun b => [.u8 b.voteCount]) c.ballot

/-- The saved contexts from the top down; the level of each is the number of entries from it to the bottom
(R157, R170). -/
def savedReports : List SavedContext → List Item
  | [] => []
  | x :: xs => savedReport (xs.length + 1) x ++ savedReports xs

/-- The condition of the monitor and its period, or absent (R170). -/
def silenceItems : SilenceMonitor → List Item
  | .disarmed => [.name 0, .presence false]
  | .watching period _ _ => [.name 1, .presence true, .u8 period]
  | .holding period _ => [.name 2, .presence true, .u8 period]

/-- QUERY_STACK (R170). -/
def queryStack (_ : NoArgs) (s : State) : State × Answer :=
  (s, ok ([.u8 s.stack.length] ++ .count s.stack.length :: savedReports s.stack ++ silenceItems s.silence))

end Sys2Proof.Machine
end

