-- ==== Sys2Proof/Machine/Teams.lean ====
section
/-! DEFINITION. TEAM_SET (R3, R4). -/

namespace Sys2Proof.Machine

/-- The state TEAM_SET gives: none where the value is no state; `some none` where it is left as it was. -/
def newStateOf : Option Byte → Option (Option TeamState)
  | none => some none
  | some b => (teamStateOf b).map some

/-- The tag TEAM_SET gives: none where it has more than 6 glyphs or a code outside the set; otherwise the
tag, or `some none` where it is left as it was (R3). -/
def newTagOf : Option (Option (List Byte)) → Option (Option (Option (List Glyph)))
  | none => some none
  | some none => some (some none)
  | some (some l) => (glyphsOf 0 6 l).map fun g => some (some g)

/-- The record with its new state and tag (R3). -/
def TeamRecord.withStateTag (state : Option TeamState) (tag : Option (Option (List Glyph)))
    (r : TeamRecord) : TeamRecord :=
  { r with state := state.getD r.state, tag := tag.getD r.tag }

/-- The new state takes a team out of play: UNUSED or BENCHED (R3). -/
def leavesPlay : Option TeamState → Bool
  | some .unused | some .benched => true
  | some .present | none => false

/-- A team moved out of PRESENT loses its claim in the active context (R4). -/
def dropBenchedClaim (t : TeamId) (s : State) : State :=
  match s.engine.active with
  | none => s
  | some c => if c.hasClaim t then removeClaim t c s else s

/-- The record takes its new state and tag, and a claim of a team that leaves PRESENT is removed (R3, R4). -/
def changeTeam (t : TeamId) (state : Option TeamState) (tag : Option (Option (List Glyph))) (s : State) :
    State :=
  let s' := s.setTeam t ((s.team t).withStateTag state tag)
  if s.teamPresent t && leavesPlay state then dropBenchedClaim t s' else s'

/-- TEAM_SET (R3). -/
def teamSet (args : TeamSetArgs) (s : State) : State × Answer :=
  match teamOf args.team, newStateOf args.state, newTagOf args.tag with
  | some t, some state, some tag =>
    if leavesPlay state ∧ s.holder = some t then (s, refuse .floorHeld)
    else
      let s' := changeTeam t state tag s
      (s', ok (.name (s'.team t).state.code :: optItems glyphsItems (s'.team t).tag))
  | _, _, _ => (s, refuse .badValue)

end Sys2Proof.Machine
end

