-- ==== Sys2Proof/Machine/Capture.lean ====
section
/-! DEFINITION. The press capture unit (chapter 3): effective age, candidates, confirmation, press events,
and the commands CAPTURE_SET and QUERY_CLOCK. -/

namespace Sys2Proof.Machine

/-! ### Key bitmaps (R45) -/

/-- The keys that differ between two bitmaps; also a bitmap with a set of keys turned over (R45). -/
def keysDiffer (x y : Keys) : Keys :=
  ⟨xor x.buzz y.buzz, xor x.a y.a, xor x.b y.b, xor x.c y.c, xor x.d y.d⟩

/-- The bitmap of a candidate: the accepted key state with the changed keys turned over (R45). -/
def Candidate.bitmap (accepted : Keys) (c : Candidate) : Keys := keysDiffer accepted c.changed

/-- The capture time of a candidate (R47). -/
def Candidate.captureTime (c : Candidate) : ClockValue := c.firstSight - c.age.setWidth 32

/-- The keys that go from released to pressed, in the order BUZZ, A, B, C, D (R51). -/
def newlyPressed (before after : Keys) : List Key :=
  (if !before.buzz && after.buzz then [Key.buzz] else [])
    ++ (if !before.a && after.a then [Key.option .a] else [])
    ++ (if !before.b && after.b then [Key.option .b] else [])
    ++ (if !before.c && after.c then [Key.option .c] else [])
    ++ (if !before.d && after.d then [Key.option .d] else [])

/-! ### Age (R46) -/

/-- The effective age of a reply (R46). -/
def effectiveAge (speed : LineSpeed) (lagging : Bool) (age : Option Byte) : Byte :=
  match speed, lagging, age with
  | .sprint, false, some g => g
  | _, _, _ => 0#8

/-! ### Confirmation (R51, R52) -/

/-- Press events handed on one after another (R52). -/
def takePresses : List Press → State → State
  | [], s => s
  | p :: ps, s => takePresses ps (takePress p s)

/-- The press events of a confirmation; an unassigned pad yields none (R51, R52). -/
def pressesOf (s : State) (a : PadAddr) (capture : ClockValue) (keys : List Key) : List Press :=
  match s.teamOfPad a with
  | none => []
  | some t => keys.map fun k => { pad := a, team := t, key := k, capture := capture }

/-- A candidate is confirmed (R51). -/
def confirm (a : PadAddr) (c : Candidate) (s : State) : State :=
  let r := s.pad a
  let after := c.bitmap r.keys
  let s' := s.setPad a { r with keys := after, candidate := none }
  takePresses (pressesOf s a c.captureTime (newlyPressed r.keys after)) s'

/-! ### Replies (R48, R49) -/

/-- The pad takes a candidate. -/
def setCandidate (a : PadAddr) (c : Option Candidate) (s : State) : State :=
  s.setPad a { s.pad a with candidate := c }

/-- A candidate with its agreeing count is kept, or confirmed where the count has come to the debounce count
(R48, R49). -/
def countCandidate (a : PadAddr) (c : Candidate) (s : State) : State :=
  if s.debounce ≤ c.agreeing then confirm a c s else setCandidate a (some c) s

/-- A candidate is made from a reply that differs from the accepted key state (R48). -/
def makeCandidate (a : PadAddr) (keys : Keys) (age : Byte) (s : State) : State :=
  countCandidate a
    { changed := keysDiffer (s.pad a).keys keys, firstSight := s.clock, age := age, agreeing := 1 } s

/-- A reply handed to the unit, with its effective age (R48, R49). -/
def captureReply (a : PadAddr) (keys : Keys) (age : Byte) (s : State) : State :=
  let r := s.pad a
  match r.candidate with
  | none => if keys = r.keys then s else makeCandidate a keys age s
  | some c =>
    if keys = c.bitmap r.keys then countCandidate a { c with agreeing := c.agreeing + 1 } s
    else if keys = r.keys then setCandidate a none s
    else makeCandidate a keys age s

/-! ### CAPTURE_SET and QUERY_CLOCK (R56, R43) -/

/-- The states in which CAPTURE_SET is refused (R56). -/
def Phase.fixesDebounce : Phase → Bool
  | .opening | .opened | .settling | .floor | .closing => true
  | .armed | .closed | .revealed => false

/-- The active context forbids a change of the debounce count (R56). -/
def State.debounceFixed (s : State) : Bool :=
  match s.engine.active with
  | some c => c.phase.fixesDebounce
  | none => false

/-- CAPTURE_SET (R56). -/
def captureSet (count : Byte) (s : State) : State × Answer :=
  match within 1 4 count with
  | none => (s, refuse .badValue)
  | some n =>
    if s.debounceFixed then (s, refuse .wrongState)
    else ({ s with debounce := n }, ok [.u8 s.debounce, .u8 n])

/-- QUERY_CLOCK (R43). -/
def queryClock (_ : NoArgs) (s : State) : State × Answer := (s, ok [.clock s.clock, .u8 s.debounce])

end Sys2Proof.Machine
end

