-- ==== Sys2Proof/Machine/DeskEvents.lean ====
section
/-! DEFINITION. The events of the desk line (chapter 2): cycle starts, replies, misses and cycle ends. -/

namespace Sys2Proof.Machine

/-! ### Replies and misses (R22, R23, R25, R29, R31) -/

/-- The pad is found: PRESENT, with miss count 0, and in the PAD changed set (R25). -/
def discoverPad (a : PadAddr) (s : State) : State :=
  if (s.pad a).presence = .present then s
  else joinPadChanged a (s.setPad a { s.pad a with presence := .present, misses := 0 })

/-- Steps 1 and 2 of R22: the miss count is 0 and the battery-low flag is copied. -/
def copyStatus (a : PadAddr) (batteryLow : Bool) (s : State) : State :=
  let r := s.pad a
  let s' := s.setPad a { r with misses := 0, batteryLow := batteryLow }
  if r.batteryLow = batteryLow then s' else joinPadChanged a s'

/-- Step 3 of R22: an echo of SPRINT during a switch is recorded (R29), an echo of ROAM in SPRINT marks the
pad LAGGING (R31). -/
def recordEcho (a : PadAddr) (echo : LineSpeed) (s : State) : State :=
  match s.desk.speed, echo with
  | .roam, .sprint =>
    match s.desk.switch with
    | some r =>
      { s with desk := { s.desk with switch := some { r with echoed := insertAsc a r.echoed } } }
    | none => s
  | .sprint, .roam => if (s.pad a).lagging then s else markLagging a s
  | .roam, .roam => s
  | .sprint, .sprint => s

/-- Step 4 of R22: the reply reaches the press capture unit with the flag and speed as they now stand
(R44). -/
def handToCapture (a : PadAddr) (r : PadReply) (s : State) : State :=
  captureReply a r.keys (effectiveAge s.desk.speed (s.pad a).lagging r.age) s

/-- A reply is taken from the address polled (R22, R25). -/
def takeReply (a : PadAddr) (r : PadReply) (s : State) : State :=
  handToCapture a r (recordEcho a r.echo (copyStatus a r.batteryLow (discoverPad a s)))

/-- A pad goes LOST: its candidate is discarded and it joins the PAD changed set (R23, R50). -/
def losePad (a : PadAddr) (s : State) : State :=
  joinPadChanged a
    (s.setPad a { s.pad a with presence := .lost, misses := Config.missesToLose, candidate := none })

/-- A poll ends in a miss: it counts for a PRESENT pad and changes nothing for any other (R23). -/
def takeMiss (a : PadAddr) (s : State) : State :=
  let r := s.pad a
  if r.presence = .present then
    if Config.missesToLose ≤ r.misses + 1 then losePad a s
    else s.setPad a { r with misses := r.misses + 1 }
  else s

/-- The transaction on the line has ended: the next poll is sent, or the probe, or the cycle's transactions
are over (R24, R26). -/
def afterPoll (stage : CycleStage) (s : State) : State :=
  match stage with
  | .polling _ rest => sendNext rest s
  | .probing _ => s.setStage .finished
  | .atStart => s
  | .finished => s
  | .draining _ => s

/-- The poll of the cycle in progress whose answer is awaited, if one is. -/
def CycleStage.openPoll : CycleStage → Option Poll
  | .polling p _ => some p
  | .probing p => some p
  | .atStart => none
  | .finished => none
  | .draining _ => none

/-- The poll whose slot is open, that of a cycle RESTART has abandoned included (R21, R40). -/
def CycleStage.pollOnLine : CycleStage → Option Poll
  | .polling p _ => some p
  | .probing p => some p
  | .atStart => none
  | .finished => none
  | .draining p => some p

/-- No poll of a cycle in progress is on the line.  Where RESTART has abandoned the cycle with a slot open, the
slot closes here and the ROAM cycle of R40 starts; what came in the slot does none of R22 and R23 (log 30, DESIGN
CHOICE).  Otherwise nothing happens. -/
def abandonedSlotCloses (s : State) : State :=
  match s.desk.stage with
  | .draining _ => startRoamCycle s
  | .atStart => s
  | .polling _ _ => s
  | .probing _ => s
  | .finished => s

/-- A reply arrives: it is taken when its check is good and its address is the one polled, and otherwise the
transaction ends in a miss (R22, R23). -/
def replyArrives (r : PadReply) (s : State) : State :=
  match s.desk.stage.openPoll with
  | none => abandonedSlotCloses s
  | some p =>
    if r.checkGood ∧ r.address.toNat = p.address.val then
      afterPoll s.desk.stage (takeReply p.address r s)
    else afterPoll s.desk.stage (takeMiss p.address s)

/-- The slot of the poll on the line closes with no reply taken (R23). -/
def pollMissed (s : State) : State :=
  match s.desk.stage.openPoll with
  | none => abandonedSlotCloses s
  | some p => afterPoll s.desk.stage (takeMiss p.address s)

/-! ### Cycle starts (R24, R26, R32) -/

/-- The line is at rest between ROAM cycles: no cycle begun since a reset or the last switch cycle, or the
transactions of a ROAM cycle over. -/
def DeskLine.roamDue (d : DeskLine) : Bool :=
  match d.speed, d.stage, d.cycleKind with
  | .roam, .atStart, _ => true
  | .roam, .finished, .roam => true
  | _, _, _ => false

/-- The 50 ms of the ROAM cadence come round: a ROAM or switch cycle starts (R24, R28, R32). -/
def roamStart (s : State) : State := if s.desk.roamDue then startRoamCycle s else s

/-- A SPRINT cycle starts after the one before (R26). -/
def sprintStart (s : State) : State :=
  if s.desk.speed = .sprint ∧ s.desk.stage = .atStart then startCycle .sprint s else s

/-! ### Cycle ends (R30, R33) -/

/-- News of SPRINT in use reaches the round engine: an OPENING context enters OPEN (R83). -/
def sprintInUse (s : State) : State :=
  match s.engine.active with
  | none => s
  | some c => if c.phase = .opening then enterOpen c s else s

/-- Each pad of a list is marked LAGGING (R30). -/
def markAllLagging : List PadAddr → State → State
  | [], s => s
  | a :: as, s => markAllLagging as (markLagging a s)

/-- The switch completes: the record is removed, the outstanding pads are marked, the speed in use becomes
SPRINT, the engine is told, and the first SPRINT cycle starts at once (R30). -/
def completeSwitch (outstanding : List PadAddr) (s : State) : State :=
  let s := markAllLagging outstanding s
  startCycle .sprint (sprintInUse { s with desk := { s.desk with switch := none, speed := .sprint } })

/-- The end of a switch cycle (R30). -/
def switchCycleEnded (s : State) : State :=
  match s.desk.switch, s.desk.cycleKind, s.desk.stage with
  | some r, .switching, .finished =>
    let r' := { r with completed := r.completed + 1 }
    let outstanding := s.outstanding r'
    if outstanding.isEmpty ∨ Config.maxSwitchCycles ≤ r'.completed then completeSwitch outstanding s
    else { s with desk := { s.desk with switch := some r', stage := .atStart } }
  | _, _, _ => s

/-- Each LAGGING mark is cleared and its pad joins the PAD changed set (R33). -/
def clearAllLagging : List PadAddr → State → State
  | [], s => s
  | a :: as, s => clearAllLagging as (clearLagging a s)

/-- The line returns to ROAM, and a ROAM cycle starts at once (R33). -/
def returnToRoam (s : State) : State :=
  startRoamCycle (clearAllLagging (List.finRange 64) { s with desk := { s.desk with speed := .roam } })

/-- The need is read at the end of a SPRINT cycle (R33). -/
def readNeed (s : State) : State := if s.sprintNeeded then s.setStage .atStart else returnToRoam s

/-- The SPRINT cycle count is raised by 1 (R26). -/
def raiseSprintCount (s : State) : State :=
  { s with desk := { s.desk with sprintCount := s.desk.sprintCount + 1#32 } }

/-- The end of a SPRINT cycle: the count is raised, the round engine told, and the need read (R26, R33). -/
def sprintCycleEnded (s : State) : State :=
  if s.desk.speed = .sprint ∧ s.desk.cycleKind = .sprint ∧ s.desk.stage = .finished then
    readNeed (cycleCompleted (raiseSprintCount s))
  else s

end Sys2Proof.Machine
end

