-- ==== Sys2Proof/Machine/CueStore.lean ====
section
/-! DEFINITION. The cue store (chapter 4): the checks of a cue record, the pointer and its advance, and the
commands CUE_LOAD, CUE_ERASE, CUE_POINT and QUERY_CUE. -/

namespace Sys2Proof.Machine

/-! ### Slots and the pointer (R57, R65) -/

/-- The record of a slot (R57). -/
def CueSlot.record : CueSlot → Option Cue
  | .empty => none
  | .loaded c => some c
  | .played c => some c

/-- A slot of the store. -/
def State.cueSlot (s : State) (x : SlotId) : CueSlot := look s.cues.slots x

/-- The page of a slot. -/
def pageOfSlot (x : SlotId) : Page := ⟨x.val / 16, by omega⟩

/-- The slot is the last of its page: slot 15. -/
def lastOfPage (x : SlotId) : Bool := decide (x.val % 16 = 15)

/-- The next slot of the same page, slot 15 being followed by slot 00 (R65). -/
def nextSlot (x : SlotId) : SlotId :=
  if h : x.val % 16 = 15 then ⟨x.val - 15, by omega⟩ else ⟨x.val + 1, by omega⟩

/-- The page of a slot joins the wrapped page set, and CUE pending is set (R65, R67). -/
def notePageWrap (x : SlotId) (s : State) : State :=
  setPending .cue { s with cues := { s.cues with wrapped := insertAsc (pageOfSlot x) s.cues.wrapped } }

/-- What the cue store does at a successful arming of a slot: steps 2 to 5 of R65. -/
def playCue (x : SlotId) (cue : Cue) (s : State) : State :=
  let s' := { s with cues := { s.cues with slots := put s.cues.slots x (.played cue), pointer := nextSlot x } }
  if lastOfPage x then notePageWrap x s' else s'

/-! ### The checks of CUE_LOAD (R60) -/

/-- Check 3: the fields the kind requires are there, and those marked "—" are not (R59). -/
def fieldsFit (k : CueKind) (r : CueFields) : Bool :=
  match k with
  | .buzz =>
    r.answerWindow.isSome && r.rebound.isSome && r.expiryVerdict.isSome && r.streakBonus.isSome
      && r.optionCount.isNone && r.correctOption.isNone && r.changePolicy.isNone
      && r.speedPlaces.isNone && r.speedPoints.isNone
  | .tiebreak =>
    r.answerWindow.isSome && r.rebound.isSome && r.expiryVerdict.isSome && r.streakBonus.isNone
      && r.optionCount.isNone && r.correctOption.isNone && r.changePolicy.isNone
      && r.speedPlaces.isNone && r.speedPoints.isNone
  | .poll =>
    r.answerWindow.isNone && r.rebound.isNone && r.expiryVerdict.isNone && r.streakBonus.isNone
      && r.optionCount.isSome && r.changePolicy.isSome && r.speedPlaces.isSome
      && r.speedPoints.isSome

/-- The floor fields, where each lies in its range (R59). -/
def floorFieldsOf (r : CueFields) : Option FloorFields :=
  match r.answerWindow.bind (within 3 60), r.rebound, r.expiryVerdict.bind expiryOf with
  | some w, some b, some e => some { answerWindow := w, rebound := b, expiry := e }
  | _, _, _ => none

/-- The correct option: none where it is outside A to the last option; `some none` where it is absent
(R59, R60). -/
def correctOptionOf (options : Nat) : Option Byte → Option (Option Letter)
  | none => some none
  | some b =>
    match letterOf b with
    | some o => if o.code < options then some (some o) else none
    | none => none

/-- The poll fields, where each lies in its range (R59). -/
def pollFieldsOf (r : CueFields) : Option PollFields :=
  match r.optionCount.bind (within 2 4), r.changePolicy.bind policyOf, r.speedPlaces.bind (within 0 3),
      r.speedPoints.bind (within 0 200) with
  | some n, some p, some k, some z =>
    (correctOptionOf n r.correctOption).map fun o =>
      { options := n, correct := o, policy := p, places := k, placePoints := z }
  | _, _, _, _ => none

/-- The kind part, where each field lies in its range (R59). -/
def kindPartOf (k : CueKind) (r : CueFields) : Option KindPart :=
  match k with
  | .buzz =>
    match floorFieldsOf r, r.streakBonus.bind (within 0 100) with
    | some f, some n => some (.buzz f n)
    | _, _ => none
  | .tiebreak => (floorFieldsOf r).map KindPart.tiebreak
  | .poll => (pollFieldsOf r).map KindPart.poll

/-- The round window: 0, or 5-600 s (R58). -/
def roundWindowOf (h : Half) : Option Nat :=
  if h.toInt = 0 then some 0 else (signedWithin 5 600 h).map Int.toNat

/-- The eligible list: none where it holds no entry or a number outside 1-16 (R58). -/
def eligibleListOf : Option (List Byte) → Option (Option (List TeamId))
  | none => some none
  | some [] => none
  | some (b :: l) => (allOf teamOf (b :: l)).map some

/-- Check 4: the record, where every field lies in its range (R58, R59). -/
def cueOf (k : CueKind) (r : CueFields) : Option Cue :=
  match signedWithin 1 999 r.question, signedWithin 0 500 r.correctPoints,
      signedWithin (-500) 0 r.wrongPoints, roundWindowOf r.roundWindow, eligibleListOf r.eligible,
      kindPartOf k r with
  | some q, some right, some wrong, some w, some e, some part =>
    some { question := q.toNat, correctPoints := right, wrongPoints := wrong, roundWindow := w,
           eligible := e, part := part }
  | _, _, _, _, _, _ => none

/-- Check 5 passes: no team twice, and no more than 16 entries (R60). -/
def eligibleDistinct (c : Cue) : Bool :=
  match c.eligible with
  | none => true
  | some l => decide (l.length ≤ 16 ∧ l.Nodup)

/-- Check 6 passes: a TIEBREAK record has no eligible list (R60). -/
def tiebreakHasNoList (c : Cue) : Bool :=
  match c.part with
  | .tiebreak _ => c.eligible.isNone
  | .buzz _ _ | .poll _ => true

/-- Check 7 passes: the speed-bonus places and points are both 0 or neither is (R60). -/
def speedBonusWhole (c : Cue) : Bool :=
  match c.part with
  | .poll p => decide (p.places = 0 ↔ p.placePoints = 0)
  | .buzz _ _ | .tiebreak _ => true

/-- The first of the checks 3 to 7 that a record fails, by its position, or the record (R60). -/
def checkRecord (k : CueKind) (r : CueFields) : Except Nat Cue :=
  if !fieldsFit k r then .error 3
  else
    match cueOf k r with
    | none => .error 4
    | some c =>
      if !eligibleDistinct c then .error 5
      else if !tiebreakHasNoList c then .error 6
      else if !speedBonusWhole c then .error 7
      else .ok c

/-- The first check of R60 that a CUE_LOAD fails, by its position, or the slot and the record. -/
def checkLoad (a : CueLoadArgs) : Except Nat (SlotId × Cue) :=
  match slotOf a.slot with
  | none => .error 1
  | some x =>
    match cueKindOf a.record.kind with
    | none => .error 2
    | some k =>
      match checkRecord k a.record with
      | .error n => .error n
      | .ok c => .ok (x, c)

/-! ### CUE_LOAD, CUE_ERASE, CUE_POINT (R60 to R63) -/

/-- A refused CUE_LOAD carries the position of the check that failed (R60). -/
def refuseLoad (position : Nat) : Answer := { result := .refused .badValue, data := [.u8 position] }

/-- An accepted CUE_LOAD (R61). -/
def placeCue (x : SlotId) (c : Cue) (s : State) : State :=
  { s with cues := { s.cues with slots := put s.cues.slots x (.loaded c) } }

/-- CUE_LOAD (R60, R61). -/
def cueLoad (p : Payload CueLoadArgs) (s : State) : State × Answer :=
  match p with
  | .misfit => (s, refuseLoad 0)
  | .fits a =>
    match checkLoad a with
    | .error n => (s, refuseLoad n)
    | .ok (x, c) =>
      let before := s.cueSlot x
      (placeCue x c s, ok (.name before.code :: optItems (fun c => [.i16 c.question]) before.record))

/-- The slots of a target of CUE_ERASE (R62). -/
def eraseSlots : EraseTarget → Option (SlotId → Bool)
  | .slot b => (slotOf b).map fun x y => decide (y = x)
  | .page b => (pageOf b).map fun p y => decide (pageOfSlot y = p)
  | .all => some fun _ => true

/-- The slots of a target become EMPTY (R62). -/
def eraseCues (covers : SlotId → Bool) (s : State) : State :=
  { s with cues := { s.cues with
      slots := tabulate fun x => if covers x then .empty else s.cueSlot x } }

/-- The number of slots of a target that hold a record (R62). -/
def State.recordCount (s : State) (covers : SlotId → Bool) : Nat :=
  ((List.finRange 64).filter fun x => covers x && (s.cueSlot x).record.isSome).length

/-- CUE_ERASE (R62). -/
def cueErase (target : EraseTarget) (s : State) : State × Answer :=
  match eraseSlots target with
  | none => (s, refuse .badValue)
  | some covers => (eraseCues covers s, ok [.u8 (s.recordCount covers)])

/-- CUE_POINT (R63). -/
def cuePoint (slot : Byte) (s : State) : State × Answer :=
  match slotOf slot with
  | none => (s, refuse .badValue)
  | some x =>
    ({ s with cues := { s.cues with pointer := x } },
      ok [.slot s.cues.pointer, .slot x, .name (s.cueSlot x).code])

/-! ### QUERY_CUE (R69, R70) -/

/-- The pointer and the wrapped page set (R69, R70). -/
def pointerItems (s : State) : List Item := .slot s.cues.pointer :: pagesItems s.cues.wrapped

/-- What QUERY_CUE reports of a slot (R69). -/
def slotReport (s : State) (x : SlotId) : List Item :=
  .name (s.cueSlot x).code :: optItems cueItems (s.cueSlot x).record
    ++ [.flag (decide (s.cues.pointer = x))] ++ pointerItems s

/-- What QUERY_CUE reports of one slot of a page (R70). -/
def slotLine (s : State) (x : SlotId) : List Item :=
  .name (s.cueSlot x).code
    :: optItems (fun c => [.name c.part.kind.code, .i16 c.question]) (s.cueSlot x).record

/-- What QUERY_CUE reports of a page (R70). -/
def pageReport (s : State) (p : Page) : List Item :=
  ((List.finRange 64).filter fun x => decide (pageOfSlot x = p)).flatMap (slotLine s) ++ pointerItems s

/-- QUERY_CUE (R69, R70). -/
def queryCue (q : CueQuery) (s : State) : State × Answer :=
  match q with
  | .slot b =>
    match slotOf b with
    | none => (s, refuse .badValue)
    | some x => (s, ok (slotReport s x))
  | .page b =>
    match pageOf b with
    | none => (s, refuse .badValue)
    | some p => (s, ok (pageReport s p))

end Sys2Proof.Machine
end

