-- ==== Sys2Proof/Machine/RoundCommands.lean ====
section
/-! DEFINITION. The commands of the round engine and the context stack (chapters 5 and 9): ROUND_ARM with its
interjection, ROUND_OPEN, CALL_TIME, ROUND_ABORT, ROUND_CLEAR, ROUND_SUSPEND and ROUND_RESUME. -/

namespace Sys2Proof.Machine

/-! ### The teams of a question (R78, R160) -/

/-- The highest of a team's score and the highest so far. -/
def higher (best : Option Int) (z : Int) : Option Int :=
  match best with
  | none => some z
  | some b => some (max b z)

/-- The highest live score among PRESENT teams (R160). -/
def State.topScore (s : State) : Option Int :=
  s.presentTeams.foldl (fun best t => higher best (s.liveScore t)) none

/-- The teams tied at the top of the live scores (R160). -/
def State.topTeams (s : State) : List TeamId :=
  s.presentTeams.filter fun t => decide (s.topScore = some (s.liveScore t))

/-- The eligible set of a cue, in ascending order (R78, R160). -/
def State.eligibleFor (s : State) (cue : Cue) : List TeamId :=
  match cue.part with
  | .tiebreak _ => s.topTeams
  | .buzz _ _ | .poll _ =>
    match cue.eligible with
    | none => s.presentTeams
    | some l => s.presentTeams.filter fun t => decide (t ∈ l)

/-- A list of teams as a set: ascending, none twice. -/
def asSet (l : List TeamId) : List TeamId := (List.finRange 16).filter fun t => decide (t ∈ l)

/-- The refusal a question without teams gets: NO_TIE with the top score and its one team, NO_TEAMS with
the set the cue named (R77, R160).  R77 has NO_TEAMS note, for a cue with no list, that no team was PRESENT and gives
the note no encoding: it is the set as an optional item, absent, which is the model's choice (log 12). -/
def teamsRefusal (s : State) (cue : Cue) : Option Answer :=
  match cue.part with
  | .tiebreak _ =>
    match s.topTeams with
    | [] => some { result := .refused .noTie, data := [.presence false] }
    | [t] =>
      some { result := .refused .noTie,
             data := [.presence true, .i16 (s.liveScore t), .u8 (t.val + 1)] }
    | _ :: _ :: _ => none
  | .buzz _ _ | .poll _ =>
    if (s.eligibleFor cue).isEmpty then
      some { result := .refused .noTeams, data := optItems teamsItems (cue.eligible.map asSet) }
    else none

/-! ### Arming (R64, R77, R80, R161) -/

/-- A ballot table at arming (R78, R125). -/
def Ballot.atArming (eligible : List TeamId) : Ballot :=
  { entries := eligible.map fun t => { team := t, vote := none, changes := 0, skipped := false }
    closeCause := none, startCount := none, revealed := none, tallies := none, places := [] }

/-- The round time remaining at arming (R80). -/
def Cue.windowTicks (cue : Cue) : Option Nat :=
  if cue.roundWindow = 0 then none else some (secondsToTicks cue.roundWindow)

/-- A context at arming (R73, R80). -/
def newContext (x : SlotId) (cue : Cue) (eligible : List TeamId) : Context :=
  { cue := cue
    source := x
    phase := .armed
    held := false
    eligible := eligible
    lockout := []
    queue := []
    overflow := []
    ballot := match cue.part with
      | .poll _ => some (Ballot.atArming eligible)
      | .buzz _ _ => none
      | .tiebreak _ => none
    roundRemaining := cue.windowTicks
    roundDeadline := none
    openInstant := none
    answerDeadline := none
    answerRemainder := none
    flashInstant := none
    holder := none
    closeInstant := none
    ending := none
    flashing := false }

/-- A context is pushed on the stack with its round window paused (R159, R161). -/
def pushContext (origin : Origin) (c : Context) (s : State) : State :=
  { s with stack := { context := c.pauseWindow s.clock, origin := origin } :: s.stack }

/-- The cue store plays the cue and a new context becomes the active one (steps 2 to 4 of R80, 3 and 4 of
R161). -/
def armContext (x : SlotId) (cue : Cue) (s : State) : State :=
  signalRoundChange ((playCue x cue s).setActive (some (newContext x cue (s.eligibleFor cue))))

/-- What an arming replies (R80). -/
def armReply (s : State) (x : SlotId) (cue : Cue) : List Item :=
  [.slot x, .i16 cue.question, .name cue.part.kind.code] ++ teamsItems (s.eligibleFor cue)
    ++ [.name Phase.armed.code]

/-- An ordinary arming (R80). -/
def armOrdinary (x : SlotId) (cue : Cue) (s : State) : State × Answer :=
  match teamsRefusal s cue with
  | some a => (s, a)
  | none => (armContext x cue s, ok (armReply s x cue))

/-- An interjection over an ARMED or OPEN context (R161). -/
def armInterjection (x : SlotId) (cue : Cue) (c : Context) (s : State) : State × Answer :=
  if Config.maxStack ≤ s.stack.length then (s, refuse .stackFull)
  else
    match teamsRefusal s cue with
    | some a => (s, a)
    | none =>
      let s' := armContext x cue (pushContext .tiebreak c s)
      (s', ok (armReply s x cue ++ [.u8 s'.stack.length]))

/-- The round engine's checks on a cue handed to it (R77). -/
def armCue (x : SlotId) (cue : Cue) (s : State) : State × Answer :=
  match s.engine.active with
  | none => armOrdinary x cue s
  | some c =>
    match c.phase, cue.part with
    | .closed, _ => armOrdinary x cue s
    | .revealed, _ => armOrdinary x cue s
    | .armed, .tiebreak _ => armInterjection x cue c s
    | .opened, .tiebreak _ => armInterjection x cue c s
    | _, _ => (s, refuse .wrongState)

/-- The slot to be armed: the slot named, or the pointer's; none where the slot named is out of range
(R64). -/
def State.slotToArm (s : State) : Option Byte → Option SlotId
  | none => some s.cues.pointer
  | some b => slotOf b

/-- ROUND_ARM (R64, R77, R80). -/
def roundArm (slot : Option Byte) (s : State) : State × Answer :=
  match s.slotToArm slot with
  | none => (s, refuse .badValue)
  | some x =>
    match (s.cueSlot x).record with
    | none => (s, { result := .refused .emptyCue, data := [.slot x] })
    | some cue => armCue x cue s

/-! ### ROUND_OPEN (R82) -/

/-- ROUND_OPEN (R82). -/
def roundOpen (_ : NoArgs) (s : State) : State × Answer :=
  match s.engine.active with
  | none => (s, refuse .wrongState)
  | some c =>
    if c.phase = .armed then
      if s.desk.speed = .sprint then (enterOpen c s, ok [.name Phase.opened.code])
      else
        (signalRoundChange (s.setActive (some { c with phase := .opening })),
          ok [.name Phase.opening.code])
    else (s, refuse .wrongState)

/-! ### CALL_TIME (R92) -/

/-- The close instant of the active context, where it is a POLL. -/
def State.pollCloseInstant (s : State) : Option ClockValue :=
  match s.engine.active with
  | some c => if c.isPoll then c.closeInstant else none
  | none => none

/-- What an accepted CALL_TIME replies (R92). -/
def callTimeReply (s : State) : Answer :=
  ok (phaseItem s.engine.active :: optItems clockItem s.pollCloseInstant)

/-- CALL_TIME (R92). -/
def callTime (_ : NoArgs) (s : State) : State × Answer :=
  match s.engine.active with
  | none => (s, refuse .notTimed)
  | some c =>
    match c.phase with
    | .opened =>
      let s' := if c.isPoll then closeVoting .called s.clock c s
        else closeRound { outcome := .timeUp, cause := .called } c.stopWindowAtZero s
      (s', callTimeReply s')
    | .floor => (endAnswer .called c s, callTimeReply (endAnswer .called c s))
    | .armed | .opening | .settling | .closing | .closed | .revealed => (s, refuse .notTimed)

/-! ### ROUND_ABORT and ROUND_CLEAR (R93, R94) -/

/-- ROUND_ABORT (R93). -/
def roundAbort (_ : NoArgs) (s : State) : State × Answer :=
  match s.engine.active with
  | none => (s, refuse .wrongState)
  | some c =>
    match c.phase with
    | .closed | .revealed => (s, refuse .wrongState)
    | .armed | .opening | .opened | .settling | .floor | .closing =>
      (closeRound { outcome := .aborted, cause := .aborted } c s, ok [.name c.phase.code])

/-- ROUND_CLEAR (R94). -/
def roundClear (_ : NoArgs) (s : State) : State × Answer :=
  match s.engine.active with
  | none => (s, refuse .wrongState)
  | some c =>
    match c.phase with
    | .closed | .revealed => (signalRoundChange (s.setActive none), ok [])
    | .armed | .opening | .opened | .settling | .floor | .closing => (s, refuse .wrongState)

/-! ### ROUND_SUSPEND and ROUND_RESUME (R158, R159, R162) -/

/-- An accepted ROUND_SUSPEND (R159). -/
def suspendContext (c : Context) (s : State) : State × Answer :=
  let s' := signalRoundChange ((pushContext .suspend c s).setActive none)
  (s', ok ([.slot c.source, .name c.phase.code]
    ++ optItems ticksItem (c.pauseWindow s.clock).roundRemaining ++ [.u8 s'.stack.length]))

/-- ROUND_SUSPEND (R158). -/
def roundSuspend (_ : NoArgs) (s : State) : State × Answer :=
  match s.engine.active with
  | none => (s, refuse .wrongState)
  | some c =>
    match c.phase with
    | .floor => (s, refuse .floorHeld)
    | .armed | .opened =>
      if Config.maxSuspended ≤ s.stack.length then (s, refuse .stackFull) else suspendContext c s
    | .opening | .settling | .closing | .closed | .revealed => (s, refuse .wrongState)

/-- A popped context in the state it enters: a saved OPEN context enters OPEN on a line at SPRINT and
OPENING otherwise (step 3 of R162). -/
def Context.resumed (now : ClockValue) (speed : LineSpeed) (c : Context) : Context :=
  match c.phase, speed with
  | .opened, .sprint => c.opened now
  | .opened, .roam => { c with phase := .opening }
  | _, _ => c

/-- An accepted ROUND_RESUME (R162). -/
def resumeContext (x : SavedContext) (rest : List SavedContext) (s : State) : State × Answer :=
  let c := x.context.resumed s.clock s.desk.speed
  (signalRoundChange ({ s with stack := rest }.setActive (some c)),
    ok ([.slot c.source, .i16 c.cue.question, .name c.phase.code]
      ++ optItems ticksItem c.roundRemaining ++ [.u8 rest.length]))

/-- No question is being played: IDLE, CLOSED or REVEALED (R162). -/
def State.atRest (s : State) : Bool :=
  match s.engine.active with
  | none => true
  | some c => !c.phase.needsSprint

/-- ROUND_RESUME (R162). -/
def roundResume (_ : NoArgs) (s : State) : State × Answer :=
  if s.atRest then
    match s.stack with
    | [] => (s, refuse .stackEmpty)
    | x :: rest => resumeContext x rest s
  else (s, refuse .wrongState)

end Sys2Proof.Machine
end

