-- ==== Sys2Proof/Machine/Board.lean ====
section
/-! DEFINITION. The board unit (chapter 10): rendering, publishes, scans, the countdown watch, and the
commands BOARD_SCAN, BOARD_PUBLISH, BOARD_SET, ROUTE_SET, ROUTE_CLEAR and QUERY_BOARD. -/

namespace Sys2Proof.Machine

/-! ### Glyphs and cells (R171) -/

/-- Space. -/
def spaceGlyph : Glyph := 36
/-- Minus. -/
def minusGlyph : Glyph := 37
/-- OVER, the mark of a value too wide for its field. -/
def overGlyph : Glyph := 40

/-- A blank cell where no field covers it: Space STEADY (R171). -/
def blankCell : Cell := { glyph := spaceGlyph, look := .steady }

/-! ### Sources (R177) -/

/-- What a source gives (R177). -/
inductive FieldValue where
  | blank
  | number (z : Int)
  | glyphs (l : List Glyph)
deriving DecidableEq, Repr

/-- A number, or blank where there is none. -/
def numberOrBlank : Option Int → FieldValue
  | none => .blank
  | some z => .number z

/-- A tag: blank when absent or without glyphs (R177). -/
def tagValue : Option (List Glyph) → FieldValue
  | none => .blank
  | some [] => .blank
  | some (g :: l) => .glyphs (g :: l)

/-- A team's number. -/
def teamNumber (t : TeamId) : Int := t.val + 1

/-- Ticks as whole seconds, rounded up (R177). -/
def secondsUp (ticks : Nat) : Nat := (ticks + (Config.ticksPerSecond - 1)) / Config.ticksPerSecond

/-- The team of the claim at a position of the active context's queue (R177). -/
def State.queuedTeam (s : State) (position : Fin 3) : Option TeamId :=
  s.engine.active.bind fun c =>
    if c.isPoll then none else (c.queue[position.val]?).map Claim.team

/-- The answer time left while there is a floor holder (R177). -/
def State.shownAnswerTime (s : State) : Option Nat :=
  s.engine.active.bind fun c => if c.holder.isSome then c.answerTimeLeft s.clock else none

/-- The tally of an option that the board shows (R177). -/
def State.shownTally (s : State) (o : Letter) : Option Nat :=
  s.engine.active.bind fun c =>
    if c.phase = .closed ∨ c.phase = .revealed then
      (c.ballot.bind Ballot.tallies).bind fun t => t.counts[o.code]?
    else none

/-- The value a source gives now (R177). -/
def State.sourceValue (s : State) : Source → FieldValue
  | .teamScore t => .number (s.boardScore t)
  | .teamTag t => tagValue (s.team t).tag
  | .rankTeam r => numberOrBlank ((s.boardRanks[r.val]?).map teamNumber)
  | .rankScore r => numberOrBlank ((s.boardRanks[r.val]?).map s.boardScore)
  | .floorTeam => numberOrBlank (s.holder.map teamNumber)
  | .floorTag => tagValue (s.holder.bind fun t => (s.team t).tag)
  | .queueTeam p => numberOrBlank ((s.queuedTeam p).map teamNumber)
  | .question => numberOrBlank (s.engine.active.map fun c => c.cue.question)
  | .roundTime =>
    numberOrBlank ((s.engine.active.bind (Context.roundTimeLeft s.clock)).map fun n => secondsUp n)
  | .answerTime => numberOrBlank (s.shownAnswerTime.map fun n => secondsUp n)
  | .tally o => numberOrBlank ((s.shownTally o).map fun n => n)
  | .text l => .glyphs l

/-! ### Fields (R178) -/

/-- A digit as its glyph. -/
def digitGlyph (d : Nat) : Glyph := ⟨d % 10, by omega⟩

/-- The digits of a number without leading zeros, 0 as one digit; fuel bounds their count. -/
def digitsOf : Nat → Nat → List Glyph
  | 0, n => [digitGlyph n]
  | fuel + 1, n => if n < 10 then [digitGlyph n] else digitsOf fuel (n / 10) ++ [digitGlyph n]

/-- Minus for a negative number. -/
def signGlyphs (z : Int) : List Glyph := if z < 0 then [minusGlyph] else []

/-- Glyphs placed at the left or right of a field, Space elsewhere (R178). -/
def placeGlyphs (width : Nat) (align : Align) (l : List Glyph) : List Glyph :=
  match align with
  | .left => l ++ List.replicate (width - l.length) spaceGlyph
  | .right => List.replicate (width - l.length) spaceGlyph ++ l

/-- The glyphs of a number in a field (R178). -/
def numberGlyphs (width : Nat) (align : Align) (fill : Fill) (z : Int) : List Glyph :=
  let sign := signGlyphs z
  let digits := digitsOf 10 z.natAbs
  if width < (sign ++ digits).length then List.replicate width overGlyph
  else
    match fill with
    | .blank => placeGlyphs width align (sign ++ digits)
    | .zero => sign ++ List.replicate (width - (sign ++ digits).length) (digitGlyph 0) ++ digits

/-- The glyphs of a value in a field (R178). -/
def valueGlyphs (r : Route) : FieldValue → List Glyph
  | .blank => List.replicate r.width spaceGlyph
  | .number z => numberGlyphs r.width r.align r.fill z
  | .glyphs l =>
    if r.width < l.length then List.replicate r.width overGlyph else placeGlyphs r.width r.align l

/-- The cells of a route's field (R178). -/
def State.fieldCells (s : State) (r : Route) : List Cell :=
  (valueGlyphs r (s.sourceValue r.source)).map fun g => { glyph := g, look := r.look }

/-! ### The board image (R179) -/

/-- The active context is in one of two states. -/
def State.activeIn (s : State) (p q : Phase) : Bool :=
  match s.engine.active with
  | some c => decide (c.phase = p ∨ c.phase = q)
  | none => false

/-- A condition of an overlay holds (R179). -/
def State.conditionHolds (s : State) : Condition → Bool
  | .held => s.holding
  | .floor => s.activeIn .floor .floor
  | .closed => s.activeIn .closed .revealed
  | .locked => s.lockHeld

/-- The routes held, in route number order, with their numbers. -/
def Board.heldRoutes (b : Board) : List (RouteId × Route) :=
  (List.finRange 32).filterMap fun n => (look b.routes n).map fun r => (n, r)

/-- The field covers a cell of its panel (R175). -/
def Route.covers (r : Route) (i : Nat) : Bool := decide (r.first ≤ i ∧ i < r.first + r.width)

/-- The route is an OVERLAY whose condition holds (R179). -/
def State.overlays (s : State) (r : Route) : Bool :=
  match r.layer with
  | .base => false
  | .overlay c => s.conditionHolds c

/-- A route with the cells it renders. -/
structure RenderedRoute where
  route : Route
  cells : List Cell
deriving DecidableEq, Repr

/-- The routes of a panel that can show, in the order R179 tries them: the overlays whose condition holds by
route number, then the BASE routes. -/
def State.shownRoutes (s : State) (p : PanelId) : List RenderedRoute :=
  let routes := (s.board.heldRoutes.map Prod.snd).filter fun r => r.panel == p
  (routes.filter s.overlays ++ routes.filter fun r => r.layer == .base).map fun r =>
    { route := r, cells := s.fieldCells r }

/-- The content of a cell: from the first route that covers it, else Space STEADY (R179). -/
def cellFrom (routes : List RenderedRoute) (i : Nat) : Cell :=
  match routes.find? fun r => r.route.covers i with
  | some r => (r.cells[i - r.route.first]?).getD blankCell
  | none => blankCell

/-- The image of a panel: cells 0-31 (R179). -/
def State.panelImage (s : State) (p : PanelId) : List Cell :=
  let routes := s.shownRoutes p
  (List.range Config.maxCells).map (cellFrom routes)

/-- The board image of all four panels (R179). -/
def State.boardImage (s : State) : List (List Cell) := (List.finRange 4).map s.panelImage

/-! ### Updates (R173, R180) -/

/-- Each longest stretch of consecutive cells that differ forms one run, in ascending cell order (R180):
cell i of the image against cell i of the shown image, with the run so far. -/
def differingRuns : Nat → List Cell → List Cell → Option Run → List Run
  | i, x :: xs, y :: ys, open? =>
    if x = y then open?.toList ++ differingRuns (i + 1) xs ys none
    else
      match open? with
      | none => differingRuns (i + 1) xs ys (some { first := i, cells := [x] })
      | some r => differingRuns (i + 1) xs ys (some { r with cells := r.cells ++ [x] })
  | _, _, _, open? => open?.toList

/-- The cell count of a panel, 0 where it is absent. -/
def PanelRecord.count (r : PanelRecord) : Nat := r.cells.getD 0

/-- The runs of the update a panel needs: every cell where its image is UNKNOWN, otherwise the differences
(R180). -/
def runsFor (r : PanelRecord) (image : List Cell) : List Run :=
  match r.shown with
  | none => [{ first := 0, cells := image.take r.count }]
  | some shown => differingRuns 0 (image.take r.count) shown none

/-- The number of cells of an update. -/
def runCells (runs : List Run) : Nat := (runs.map fun r => r.cells.length).sum

/-- A row of cells with a run written into it. -/
def writeRun (row : List Cell) (r : Run) : List Cell :=
  row.take r.first ++ r.cells ++ row.drop (r.first + r.cells.length)

/-- The shown image after an acknowledged update (R180). -/
def shownAfter (r : PanelRecord) (runs : List Run) : List Cell := runs.foldl writeRun (r.shown.getD [])

/-! ### The course of a publish (R180, R181, R183) -/

/-- A panel record. -/
def State.panel (s : State) (p : PanelId) : PanelRecord := look s.board.panels p

/-- The state with one panel record replaced. -/
def State.setPanel (s : State) (p : PanelId) (r : PanelRecord) : State :=
  { s with board := { s.board with panels := put s.board.panels p r } }

/-- The state with the line operation replaced. -/
def State.setOperation (s : State) (o : LineOperation) : State :=
  { s with board := { s.board with operation := o } }

/-- The cells acknowledged at a panel (R183). -/
def PanelResult.acknowledged : PanelResult → Nat
  | .sent n => n
  | .skipped => 0
  | .nothing => 0
  | .fault _ => 0

/-- An operation completes with its record: the completed count is raised and BOARD pending set; with the
publish-again flag set, the flag is cleared and a publish follows at once (R174, R180, R181). -/
def completeOperation (result : BoardResult) (s : State) : State :=
  let s' := setPending .board { s with board := { s.board with
    operation := .idle, lastResult := some result, completed := raiseCount s.board.completed,
    again := false } }
  if s.board.again then requestPublish s' else s'

/-- The panels after a panel, in ascending order. -/
def panelsAfter (p : PanelId) : List PanelId := (List.finRange 4).filter fun q => decide (p < q)

/-- The publish visits the panels left in ascending order, sends the next update, or completes (R180). -/
def visitPanels (image : List (List Cell)) : List PanelId → List PanelResult → State → State
  | [], results, s =>
    completeOperation (.publish results (results.map PanelResult.acknowledged).sum) s
  | p :: rest, results, s =>
    if (s.panel p).presence = .absent then visitPanels image rest (results ++ [.skipped]) s
    else
      match runsFor (s.panel p) ((image[p.val]?).getD []) with
      | [] => visitPanels image rest (results ++ [.nothing]) s
      | r :: runs => s.setOperation (.publish image p (r :: runs) results)

/-- A publish starts: it renders the whole board image, then visits panels 0 to 3 (R180). -/
def startPublish (s : State) : State :=
  let s := { s with board := { s.board with again := false } }
  visitPanels s.boardImage (List.finRange 4) [] s

/-- A request for a publish is taken by the line operation (R181). -/
def takeRequest (s : State) : State :=
  if s.board.request then
    let s := { s with board := { s.board with request := false } }
    match s.board.operation with
    | .idle => startPublish s
    | .publish _ _ _ _ => { s with board := { s.board with again := true } }
    | .scan _ => { s with board := { s.board with again := true } }
  else s

/-- An update is acknowledged (R180). -/
def updateAcknowledged (image : List (List Cell)) (p : PanelId) (runs : List Run)
    (results : List PanelResult) (s : State) : State :=
  let r := s.panel p
  visitPanels image (panelsAfter p) (results ++ [.sent (runCells runs)])
    (s.setPanel p { r with presence := .present, shown := some (shownAfter r runs) })

/-- An update is not acknowledged: the panel becomes FAULT with its image UNKNOWN (R180). -/
def updateUnanswered (image : List (List Cell)) (p : PanelId) (runs : List Run)
    (results : List PanelResult) (s : State) : State :=
  visitPanels image (panelsAfter p) (results ++ [.fault (runCells runs)])
    (s.setPanel p { s.panel p with presence := .fault, shown := none })

/-- A panel's acknowledgement arrives: taken when its check is good and it carries the number addressed.  Any other
is as if none had come: the update still awaits its answer until the 10 ms run out (R173, R180, R186).  The late
answer of an earlier update of the same panel is told apart by nothing it carries, and is taken as this update's: the
model's choice (log 34). -/
def panelAnswers (a : PanelAnswer) (s : State) : State :=
  match s.board.operation with
  | .publish image p runs results =>
    if a.checkGood ∧ a.panel.toNat = p.val then updateAcknowledged image p runs results s else s
  | .idle => s
  | .scan _ => s

/-- The 10 ms of an update run out (R180). -/
def panelSilent (s : State) : State :=
  match s.board.operation with
  | .publish image p runs results => updateUnanswered image p runs results s
  | .idle => s
  | .scan _ => s

/-! ### Scans (R174) -/

/-- The record of a scan (R183). -/
def State.scanResult (s : State) : BoardResult :=
  .scan ((List.finRange 4).map fun p => { presence := (s.panel p).presence, cells := (s.panel p).cells })

/-- The identify of a panel is done: the next panel is asked, or the scan completes, with a publish requested
where auto-publish is ON (R174, R181).  A BOARD_SCAN taken next meets that publish and is answered RETRY, where the row
of R186 on a completion with the publish-again flag clear has the scan start: the model's choice (log 35). -/
def scanNext (p : PanelId) (s : State) : State :=
  match panelsAfter p with
  | q :: _ => s.setOperation (.scan q)
  | [] => autoRequest (completeOperation s.scanResult s)

/-- A panel record after its identify: found with a cell count of 8-32, or ABSENT (R174). -/
def scannedPanel (cells : Option Nat) : PanelRecord :=
  match cells with
  | some n =>
    if Config.minCells ≤ n ∧ n ≤ Config.maxCells then
      { presence := .present, cells := some n, shown := none }
    else { presence := .absent, cells := none, shown := none }
  | none => { presence := .absent, cells := none, shown := none }

/-- The identify of a panel ends with the count answered, or with no answer taken (R174). -/
def identifyDone (p : PanelId) (cells : Option Nat) (s : State) : State :=
  scanNext p (s.setPanel p (scannedPanel cells))

/-- An answer to an identify arrives: taken when its check is good and it carries the number addressed.  Any other
is as if none had come: the identify still awaits its answer until the 10 ms run out (R173, R174).  The late answer
to an identify of the same panel that RESTART abandoned (R185) is told apart by nothing it carries, and is taken as this
identify's: the model's choice (log 34). -/
def identifyAnswers (a : IdentifyReply) (s : State) : State :=
  match s.board.operation with
  | .scan p =>
    if a.checkGood ∧ a.panel.toNat = p.val then identifyDone p (some a.cells.toNat) s else s
  | .idle => s
  | .publish _ _ _ _ => s

/-- The 10 ms of an identify run out (R174). -/
def identifySilent (s : State) : State :=
  match s.board.operation with
  | .scan p => identifyDone p none s
  | .idle => s
  | .publish _ _ _ _ => s

/-! ### The countdown watch (R182) -/

/-- A route with the given source is held, of either layer (R182). -/
def State.routeHeld (s : State) (x : Source) : Bool :=
  s.board.heldRoutes.any fun r => r.2.source == x

/-- The time left before a deadline stands at a whole multiple of 4,000 ticks, 0 included (R182). -/
def onSecond (now : ClockValue) (deadline : Option ClockValue) : Bool :=
  match deadline with
  | none => false
  | some d => decide (0 ≤ clockDiff now d ∧ clockDiff now d % (Config.ticksPerSecond : Int) = 0)

/-- A running countdown whose route is held has come to a whole second (R182).  At the deadline itself the watch and
the expiry are two commands: an expiry run first removes the deadline, and the watch then asks for nothing (log 32,
DESIGN CHOICE). -/
def State.countdownDue (s : State) : Bool :=
  match s.engine.active with
  | none => false
  | some c =>
    (s.routeHeld .roundTime && onSecond s.clock c.roundDeadline)
      || (s.routeHeld .answerTime && onSecond s.clock c.answerDeadline)

/-- The countdown watch (R182). -/
def countdownSecond (s : State) : State := if s.countdownDue then autoRequest s else s

/-! ### Route entries (R175) -/

/-- The source of a route entry with its parameter and static text; none where a value is out of range, or
the static text is missing for TEXT or there for another source (R175, R177). -/
def sourceOf (source : Byte) (parameter : Option Byte) (text : Option (List Byte)) : Option Source :=
  match source.toNat, parameter, text with
  | 0, some b, none => (teamOf b).map Source.teamScore
  | 1, some b, none => (teamOf b).map Source.teamTag
  | 2, some b, none => (indexFromOne 16 b.toNat).map Source.rankTeam
  | 3, some b, none => (indexFromOne 16 b.toNat).map Source.rankScore
  | 4, none, none => some .floorTeam
  | 5, none, none => some .floorTag
  | 6, some b, none => (indexFromOne 3 b.toNat).map Source.queueTeam
  | 7, none, none => some .question
  | 8, none, none => some .roundTime
  | 9, none, none => some .answerTime
  | 10, some b, none => (letterOf b).map Source.tally
  | 11, none, some l => (glyphsOf 1 8 l).map Source.text
  | _, _, _ => none

/-- The layer of a route entry: OVERLAY with a condition, BASE without one (R175). -/
def layerOf (layer : Byte) (condition : Option Byte) : Option Layer :=
  match layer.toNat, condition with
  | 0, none => some .base
  | 1, some b => (conditionOf b).map Layer.overlay
  | _, _ => none

/-- The route of an entry, where every field lies in its range: check 1 of R175. -/
def routeOfArgs (a : RouteSetArgs) : Option Route :=
  match sourceOf a.source a.parameter a.text, panelOf a.panel, within 0 31 a.firstCell,
      within 1 8 a.width, alignOf a.align, fillOf a.fill, lookOf a.look, layerOf a.layer a.condition with
  | some source, some panel, some first, some width, some align, some fill, some look, some layer =>
    some { source, panel, first, width, align, fill, look, layer }
  | _, _, _, _, _, _, _, _ => none

/-- Two BASE routes of one panel share a cell (R175). -/
def Route.clashes (r q : Route) : Bool :=
  decide (r.layer = .base ∧ q.layer = .base ∧ r.panel = q.panel
    ∧ r.first < q.first + q.width ∧ q.first < r.first + r.width)

/-- A BASE entry shares a cell with a BASE route held at another number: check 3 of R175. -/
def State.overlapsHeld (s : State) (n : RouteId) (r : Route) : Bool :=
  s.board.heldRoutes.any fun held => held.1 != n && r.clashes held.2

/-- The state with one route entry replaced. -/
def State.setRoute (s : State) (n : RouteId) (r : Option Route) : State :=
  { s with board := { s.board with routes := put s.board.routes n r } }

/-- The entry at a route number. -/
def State.route (s : State) (n : RouteId) : Option Route := look s.board.routes n

/-- ROUTE_SET (R175). -/
def routeSet (a : RouteSetArgs) (s : State) : State × Answer :=
  match routeOf a.route, routeOfArgs a with
  | some n, some r =>
    if Config.maxCells < r.first + r.width then (s, refuse .range)
    else if s.overlapsHeld n r then (s, refuse .overlap)
    else (s.setRoute n (some r), ok [.flag (s.route n).isSome])
  | _, _ => (s, refuse .badValue)

/-- Every route entry becomes empty (R176). -/
def clearRoutes (s : State) : State :=
  { s with board := { s.board with routes := Vector.replicate 32 none } }

/-- ROUTE_CLEAR (R176). -/
def routeClear (target : RouteTarget) (s : State) : State × Answer :=
  match target with
  | .all => (clearRoutes s, ok [.u8 s.board.heldRoutes.length])
  | .one b =>
    match routeOf b with
    | none => (s, refuse .badValue)
    | some n => (s.setRoute n none, ok [.u8 (if (s.route n).isSome then 1 else 0)])

/-! ### BOARD_SCAN, BOARD_PUBLISH, BOARD_SET (R174, R181, R176) -/

/-- BOARD_SCAN (R174). -/
def boardScan (_ : NoArgs) (s : State) : State × Answer :=
  if s.board.operation = .idle then (s.setOperation (.scan 0), { result := .queued, data := [] })
  else (s, { result := .retry, data := [] })

/-- BOARD_PUBLISH (R181): the reply says whether a publish starts, or the publish-again flag is set. -/
def boardPublish (_ : NoArgs) (s : State) : State × Answer :=
  (requestPublish s, { result := .queued, data := [.flag (decide (s.board.operation = .idle))] })

/-- BOARD_SET (R176). -/
def boardSet (on : Bool) (s : State) : State × Answer :=
  let s' := { s with board := { s.board with auto := on } }
  (if on && !s.board.auto then requestPublish s' else s', ok [])

/-! ### QUERY_BOARD (R184) -/

/-- The line operation as a name: NONE, PUBLISH, SCAN (R172). -/
def LineOperation.code : LineOperation → Nat
  | .idle => 0
  | .publish _ _ _ _ => 1
  | .scan _ => 2

/-- Whether the condition of an OVERLAY holds now; absent for BASE (R184). -/
def State.overlayHolds (s : State) : Layer → Option Bool
  | .base => none
  | .overlay c => some (s.conditionHolds c)

/-- A route as QUERY_BOARD reports it: its route number, then its fields (R184).  R175 counts no number among the
fields; that it is reported, and first, is the model's choice (log 12). -/
def routeReport (s : State) (r : RouteId × Route) : List Item :=
  .u8 r.1.val :: routeItems r.2 ++ optItems (fun b => [.flag b]) (s.overlayHolds r.2.layer)

/-- A panel as QUERY_BOARD reports it (R184). -/
def panelReport (s : State) (p : PanelId) : List Item :=
  .name (s.panel p).presence.code :: optItems (fun n => [.u8 n]) (s.panel p).cells
    ++ [.flag (s.panel p).shown.isNone]

/-- What QUERY_BOARD reports without a panel (R184). -/
def boardReport (s : State) : List Item :=
  (List.finRange 4).flatMap (panelReport s)
    ++ [.name s.board.operation.code, .flag s.board.again, .flag s.board.auto]
    ++ listItems (routeReport s) s.board.heldRoutes
    ++ optItems BoardResult.items s.board.lastResult ++ [.u8 s.board.completed]

/-- QUERY_BOARD (R184).  The shown image is an optional list of cells, UNKNOWN the absent one: the model's choice
(log 12). -/
def queryBoard (panel : Option Byte) (s : State) : State × Answer :=
  match panel with
  | none => (s, ok (boardReport s))
  | some b =>
    match panelOf b with
    | none => (s, refuse .badValue)
    | some p => (s, ok (optItems (listItems cellItems) (s.panel p).shown))

end Sys2Proof.Machine
end

