-- ==== Sys2Proof/Machine/Notices.lean ====
section
/-! DEFINITION. The notice unit (R193 to R195): the content of each notice, the begin and end of a notice,
and the commands NOTICE_ENABLE and NOTICE_CLEAR. -/

namespace Sys2Proof.Machine

/-! ### Contents, read when the notice is sent (R193) -/

/-- HOLD: the condition, HELD while HOLDING and ENDED otherwise, and the period (R166).  A DISARMED monitor has no period to
carry, and no run comes to it with HOLD pending (log 20). -/
def holdNotice (s : State) : List Item :=
  match s.silence with
  | .holding period _ => [.name 0, .u8 period]
  | .watching period _ _ => [.name 1, .u8 period]
  | .disarmed => [.name 1]

/-- The floor holder, absent when the active context is not in FLOOR (R112). -/
def Context.floorHolder (c : Context) : Option TeamId := if c.phase = .floor then c.holder else none

/-- The team of the first contested claim behind the holder (R112). -/
def Context.contestedTeam (c : Context) : Option TeamId :=
  if c.phase = .floor then ((c.queue.drop 1).find? Claim.contested).map Claim.team else none

/-- FLOOR (R112).  Each of the six items is an optional item of its own: R112 says when the holder and the contested team
are absent, and the rest is the model's choice (log 12).  The answer window is the cue copy's, present in every BUZZ or
TIEBREAK context and absent in IDLE and in a POLL context; the deadline and the time left are present while the context
has them. -/
def floorNotice (s : State) : List Item :=
  match s.engine.active with
  | none =>
    [.presence false, .presence false, .presence false, .presence false, .presence false, .presence false]
  | some c =>
    optItems teamItem c.floorHolder
      ++ optItems (fun q => [.u8 q.pad.val, .clock q.capture])
          (if c.floorHolder.isSome then c.queue.head? else none)
      ++ optItems (fun f => [.u8 f.answerWindow]) c.floorFields
      ++ optItems clockItem c.answerDeadline
      ++ optItems ticksItem (c.answerTimeLeft s.clock)
      ++ optItems teamItem c.contestedTeam

/-- ROUND: in IDLE the state IDLE with the other items absent (R76). -/
def roundNotice (s : State) : List Item :=
  match s.engine.active with
  | none => [.name 0, .presence false, .presence false, .presence false]
  | some c =>
    [.name c.phase.code, .presence true, .slot c.source, .presence true, .i16 c.cue.question]
      ++ optItems endingItems c.ending

/-- The claims of the active context's queue; empty when IDLE or in a POLL context (R108). -/
def State.noticedClaims (s : State) : List Claim :=
  match s.engine.active with
  | none => []
  | some c => if c.isPoll then [] else c.queue

/-- QUEUE (R108). -/
def queueNotice (s : State) : List Item :=
  listItems (fun q : Claim => [.u8 (q.team.val + 1), .clock q.capture, .flag q.contested]) s.noticedClaims

/-- SCORE (R154). -/
def scoreNotice (s : State) : List Item :=
  listItems (fun m : ScoreMark => [.u8 (m.team.val + 1), .i16 (s.liveScore m.team), .flag m.saturated])
    s.scores.changed

/-- The last end cause as the LOCK notice carries it (R154); nothing where no lock has ended, which no run comes to with
LOCK pending (log 20). -/
def lockEndItems : Option LockEnd → List Item
  | none => []
  | some e => [.name e.code]

/-- LOCK (R154). -/
def lockNotice (s : State) : List Item := lockEndItems s.scores.lastEnd ++ [.flag s.lockHeld]

/-- PAD (R34). -/
def padNotice (s : State) : List Item :=
  listItems (fun a : PadAddr =>
    [.u8 a.val, .name (s.pad a).presence.code, .flag (s.pad a).lagging, .flag (s.pad a).batteryLow])
    s.desk.changed

/-- BOARD (R183). -/
def boardNotice (s : State) : List Item :=
  optItems BoardResult.items s.board.lastResult ++ [.u8 s.board.completed]

/-- CUE (R67). -/
def cueNotice (s : State) : List Item := pagesItems s.cues.wrapped ++ [.slot s.cues.pointer]

/-- LINK: the reason set, drawn from STARTED and OVERRUN, and the overrun count (R193). -/
def linkNotice (s : State) : List Item :=
  [.mask (s.notices.started.toNat + 2 * s.notices.overrun.toNat), .u8 s.notices.overruns]

/-- The content of a notice (R193). -/
def noticeContent (k : NoticeKind) (s : State) : List Item :=
  match k with
  | .hold => holdNotice s
  | .floor => floorNotice s
  | .round => roundNotice s
  | .queue => queueNotice s
  | .score => scoreNotice s
  | .lock => lockNotice s
  | .pad => padNotice s
  | .board => boardNotice s
  | .cue => cueNotice s
  | .link => linkNotice s

/-! ### The transmitter (R192, R194) -/

/-- The state with the transmitter replaced. -/
def State.setTransmitter (s : State) (t : Transmitter) : State :=
  { s with link := { s.link with transmitter := t } }

/-- The transmitter has become free: it sends the entry at the front of the queue, or is idle (R192). -/
def nextEntry (s : State) : State :=
  match s.link.queue with
  | [] => s.setTransmitter .idle
  | _ :: _ => s.setTransmitter .entry

/-- The link is free for a notice: reply queue empty, held item absent, transmitter idle, no RESTART waiting
to take effect (R194, R197). -/
def LinkPort.free (l : LinkPort) : Bool :=
  l.queue.isEmpty && l.held.isNone && decide (l.transmitter = .idle) && !l.restarting

/-- A notice of a kind is begun: its content is read, its flag cleared and what is kept for it emptied
(R194). -/
def beginNotice (k : NoticeKind) (s : State) : State :=
  (discardPending k s).setTransmitter (.notice { kind := k, data := noticeContent k s })

/-- The notice of highest priority is begun where the link is free (R194). -/
def noticeBegins (s : State) : State :=
  match s.notices.next with
  | some k => if s.link.free then beginNotice k s else s
  | none => s

/-- The notice being sent ends (R194). -/
def noticeEnds (s : State) : State :=
  match s.link.transmitter with
  | .notice _ => nextEntry s
  | .idle => s
  | .entry => s

/-! ### NOTICE_ENABLE and NOTICE_CLEAR (R195) -/

/-- The pending flags of the kinds named are discarded, with their sets and counts (R195). -/
def discardAll : List NoticeKind → State → State
  | [], s => s
  | k :: ks, s => discardAll ks (discardPending k s)

/-- The enable flags of the kinds named take a value (R195). -/
def enableAll (b : Bool) : List NoticeKind → State → State
  | [], s => s
  | k :: ks, s => enableAll b ks (setEnabled k b s)

/-- The flags of all ten kinds: the enable flags, then the pending flags (R195). -/
def flagItems (s : State) : List Item :=
  NoticeKind.all.map (fun k => .flag (s.notices.enabled.get k))
    ++ NoticeKind.all.map (fun k => .flag (s.notices.waiting.get k))

/-- NOTICE_ENABLE (R195). -/
def noticeEnable (args : NoticeEnableArgs) (s : State) : State × Answer :=
  match noticeKindsOf args.target with
  | none => (s, refuse .badValue)
  | some ks =>
    let s' := if args.on then enableAll true ks s else discardAll ks (enableAll false ks s)
    (s', ok (flagItems s'))

/-- NOTICE_CLEAR (R195). -/
def noticeClear (target : NoticeTarget) (s : State) : State × Answer :=
  match noticeKindsOf target with
  | none => (s, refuse .badValue)
  | some ks => (discardAll ks s, ok (flagItems (discardAll ks s)))

end Sys2Proof.Machine
end

