-- ==== Sys2Proof/Machine/Link.lean ====
section
/-! DEFINITION. The link port (chapter 11): the execution of a command frame, the reply queue and the held
item, rejections, the receive assembler, and the commands IDENTIFY, KEEPALIVE and RESTART. -/

namespace Sys2Proof.Machine

/-! ### IDENTIFY, KEEPALIVE, RESTART (R196, R197) -/

/-- The link rate in baud (R187). -/
def LinkRate.baud : LinkRate → Int
  | .slow => 115200
  | .fast => 460800

/-- What IDENTIFY reports (R196). -/
def identifyReport (s : State) : List Item :=
  [.byte 0x57#8, .byte 0x24#8, .byte Config.revision,
    .u8 16, .u8 64, .u8 Config.maxPadsPerTeam, .u8 64, .u8 Config.maxClaims, .u8 Config.maxStack,
    .u8 Config.maxPendingAwards, .u8 4, .u8 32, .u8 Config.maxReplies,
    .i32 s.link.rate.baud, .name s.cause.code]

/-- IDENTIFY (R196). -/
def identify (_ : NoArgs) (s : State) : State × Answer := (s, ok (identifyReport s))

/-- KEEPALIVE (R196). -/
def keepalive (_ : NoArgs) (s : State) : State × Answer := (s, ok [])

/-- RESTART (R197): from now until it takes effect no frame is executed and no notice begun. -/
def restart (_ : NoArgs) (s : State) : State × Answer :=
  ({ s with link := { s.link with restarting := true } }, ok [])

/-! ### The execution of a frame (R165, R190, R191, R192) -/

/-- The command handed to its owning block (R190). -/
def runCommand : Command → State → State × Answer
  | .teamSet p => withArgs p teamSet
  | .padAssign p => withArgs p padAssign
  | .layoutSet p => withArgs p layoutSet
  | .padForget p => withArgs p padForget
  | .queryTeam p => withArgs p queryTeam
  | .queryPad p => withArgs p queryPad
  | .deskSpeed p => withArgs p deskSpeed
  | .lampSet p => withArgs p lampSet
  | .queryDesk p => withArgs p queryDesk
  | .captureSet p => withArgs p captureSet
  | .queryClock p => withArgs p queryClock
  | .cueLoad p => cueLoad p
  | .cueErase p => withArgs p cueErase
  | .cuePoint p => withArgs p cuePoint
  | .queryCue p => withArgs p queryCue
  | .roundArm p => withArgs p roundArm
  | .roundOpen p => withArgs p roundOpen
  | .callTime p => withArgs p callTime
  | .roundAbort p => withArgs p roundAbort
  | .roundClear p => withArgs p roundClear
  | .queryRound p => withArgs p queryRound
  | .judge p => judge p
  | .claimDrop p => withArgs p claimDrop
  | .queryQueue p => withArgs p queryQueue
  | .reveal p => withArgs p reveal
  | .queryBallot p => withArgs p queryBallot
  | .scoreAdjust p => withArgs p scoreAdjust
  | .scoreLock p => withArgs p scoreLock
  | .scoreUnlock p => withArgs p scoreUnlock
  | .queryAwards p => withArgs p queryAwards
  | .roundSuspend p => withArgs p roundSuspend
  | .roundResume p => withArgs p roundResume
  | .silenceArm p => withArgs p silenceArm
  | .queryStack p => withArgs p queryStack
  | .boardScan p => withArgs p boardScan
  | .boardPublish p => withArgs p boardPublish
  | .boardSet p => withArgs p boardSet
  | .routeSet p => withArgs p routeSet
  | .routeClear p => withArgs p routeClear
  | .queryBoard p => withArgs p queryBoard
  | .identify p => withArgs p identify
  | .keepalive p => withArgs p keepalive
  | .restart p => withArgs p restart
  | .noticeEnable p => withArgs p noticeEnable
  | .noticeClear p => withArgs p noticeClear

/-- An entry joins the back of the queue; an idle transmitter begins to send the front (R192). -/
def enqueue (e : QueueEntry) (s : State) : State :=
  { s with link := { s.link with
      queue := s.link.queue ++ [e]
      transmitter := if s.link.transmitter = .idle then .entry else s.link.transmitter } }

/-- A command frame is executed: the silence monitor is told, the command acts, and its reply joins the queue
(R165, R191, R192). -/
def executeCommand (c : Command) (s : State) : State :=
  let r := runCommand c (validFrame s)
  enqueue (.reply { kind := c.code, answer := r.2 }) r.1

/-- A complete frame is executed; one whose kind is no command kind is answered by the link port itself and is
no valid frame (R190). -/
def executeFrame (f : Frame) (s : State) : State :=
  match f with
  | .command c => executeCommand c s
  | .badKind kind => enqueue (.reply { kind := kind, answer := refuse .badKind }) s

/-- A frame or a rejection takes its effect: a frame is executed, a rejection joins the queue (R192). -/
def takeItem (x : HeldItem) (s : State) : State :=
  match x with
  | .frame f => executeFrame f s
  | .rejection r => enqueue (.reject r) s

/-- A frame completes or a rejection falls due: the table of R192.  From the execution of RESTART until it
takes effect it is discarded without a trace (R197). -/
def itemArrives (x : HeldItem) (s : State) : State :=
  if s.link.restarting then s
  else if s.link.held.isSome then recordOverrun s
  else if s.link.queue.length < Config.maxReplies then takeItem x s
  else { s with link := { s.link with held := some x } }

/-- The assembler returns to HUNTING (R189). -/
def hunt (s : State) : State := { s with link := { s.link with assembler := .hunting } }

/-- A frame is complete with its check good (R189, R192). -/
def frameCompletes (f : Frame) (s : State) : State := itemArrives (.frame f) (hunt s)

/-- A frame is rejected (R189, R192). -/
def frameRejected (r : RejectReason) (s : State) : State := itemArrives (.rejection r) (hunt s)

/-- More than 5 ms pass within a frame: it is abandoned and rejected with TRUNCATED.  With no frame in hand
nothing happens (R189). -/
def gapRunsOut (s : State) : State :=
  match s.link.assembler with
  | .inFrame _ _ => frameRejected .truncated s
  | .hunting => s

/-- The held item is taken when an entry has left a full queue (R192). -/
def takeHeld (s : State) : State :=
  match s.link.held with
  | none => s
  | some x => takeItem x { s with link := { s.link with held := none } }

/-- The entry at the front leaves the queue. -/
def dropFront (s : State) : State := { s with link := { s.link with queue := s.link.queue.tail } }

/-- The last byte of the entry on the line has been sent: the entry leaves the queue; where the queue was full
a held item is taken at once; and the transmitter goes on with the front (R192). -/
def entrySent (s : State) : State :=
  match s.link.transmitter with
  | .entry =>
    let s' := dropFront s
    nextEntry (if Config.maxReplies ≤ s.link.queue.length then takeHeld s' else s')
  | .idle => s
  | .notice _ => s

/-! ### The receive assembler (R189) -/

/-- The number of bytes of a frame after its start marker, from its length byte: length, kind, payload and
two check bytes. -/
def bodyLength (length : Byte) : Nat := length.toNat + 4

/-- The length byte is outside 1-250 (R187, R189). -/
def badLength (length : Byte) : Bool :=
  decide (length.toNat = 0 ∨ Config.maxPayload < length.toNat)

/-- The check of the bytes after a start marker is good: the CRC of all but the last two is those two
(R187). -/
def checkGood (bytes : List Byte) : Bool :=
  let body := bytes.take (bytes.length - 2)
  decide (bytes.drop (bytes.length - 2) = [highByte (crc16 body), lowByte (crc16 body)])

/-- The frame in the bytes after a start marker, the check left out (R187, R190). -/
def frameIn (bytes : List Byte) : Frame :=
  match bytes with
  | _ :: kind :: rest => decodeFrame kind (rest.take (rest.length - 2))
  | _ => .badKind 0#8

/-- The assembler collects a byte in IN_FRAME and acts at the events of R189. -/
def collectByte (bytes : List Byte) (damaged : Bool) (s : State) : State :=
  match bytes with
  | [] => s
  | length :: _ =>
    if badLength length then frameRejected .length s
    else if bytes.length < bodyLength length then
      { s with link := { s.link with assembler := .inFrame bytes damaged } }
    else if checkGood bytes && !damaged then frameCompletes (frameIn bytes) s
    else frameRejected .check s

/-- A byte arrives on RXD (R187, R189). -/
def byteArrives (b : Byte) (stopBit : Bool) (s : State) : State :=
  match s.link.assembler with
  | .hunting =>
    if b = startMarker then { s with link := { s.link with assembler := .inFrame [] !stopBit } } else s
  | .inFrame bytes damaged => collectByte (bytes ++ [b]) (damaged || !stopBit) s

end Sys2Proof.Machine
end

