-- ==== Sys2Proof/Machine/Resets.lean ====
section
/-! DEFINITION. The three kinds of reset: power-on and line reset (R198), and RESTART taking effect (R197). -/

namespace Sys2Proof.Machine

/-- A power-on or line reset (R198).  The queue of commands waiting is no part of the chip and is kept. -/
def resetPart (strap : PinLevel) (cause : ResetCause) (s : State) : State :=
  { State.afterReset strap cause with pending := s.pending }

/-- A pad record after RESTART: its candidate is discarded and its LAGGING flag cleared (R19). -/
def PadRecord.afterRestart (r : PadRecord) : PadRecord := { r with candidate := none, lagging := false }

/-- A panel record after RESTART: presence and count kept, image UNKNOWN (R172). -/
def PanelRecord.afterRestart (r : PanelRecord) : PanelRecord := { r with shown := none }

/-- The desk line controller after RESTART, before its ROAM cycle starts: its values of R20, the discovery pointer
and the SPRINT cycle count kept. -/
def DeskLine.afterRestart (d : DeskLine) : DeskLine :=
  { DeskLine.reset with pointer := d.pointer, sprintCount := d.sprintCount }

/-- The board unit after RESTART: routes, auto-publish, presence and counts kept; the start-up scan has begun
(R172, R185). -/
def Board.afterRestart (b : Board) : Board :=
  { Board.reset with
      panels := mapTable PanelRecord.afterRestart b.panels, routes := b.routes, auto := b.auto }

/-- The notice unit after RESTART: the enable flags kept, LINK pending with STARTED (R193, R197). -/
def NoticeUnit.afterRestart (n : NoticeUnit) : NoticeUnit :=
  { NoticeUnit.reset with enabled := n.enabled }

/-- The link port after RESTART: queue and held item emptied, the assembler HUNTING, the rate kept (R197). -/
def LinkPort.afterRestart (l : LinkPort) : LinkPort := { LinkPort.reset .low with rate := l.rate }

/-- Every block takes its RESTART values (R19, R20, R57, R72, R141, R164, R172, R193, R197); the clock, the
debounce count, the cue slots and pointer and the tie pointer are kept. -/
def restartBlocks (s : State) : State :=
  { s with
      roster := { s.roster with pads := mapTable PadRecord.afterRestart s.roster.pads }
      desk := s.desk.afterRestart
      cues := { s.cues with wrapped := [] }
      engine := { s.engine with active := none }
      stack := []
      scores := ScoreUnit.reset
      silence := .disarmed
      board := s.board.afterRestart
      notices := s.notices.afterRestart
      link := s.link.afterRestart
      cause := .restart }

/-- RESTART is due to take effect: it has been executed, no notice is being sent, and nothing but its own
reply is left in the queue (R197). -/
def LinkPort.restartDue (l : LinkPort) : Bool :=
  l.restarting && decide (l.queue.length ≤ 1) &&
    match l.transmitter with
    | .notice _ => false
    | .idle => true
    | .entry => true

/-- The line at RESTART: a ROAM cycle starts at once, but where a poll is on the line only when its slot has
closed (R40; log 30, DESIGN CHOICE). -/
def restartLine (onLine : Option Poll) (s : State) : State :=
  match onLine with
  | some p => s.setStage (.draining p)
  | none => startRoamCycle s

/-- RESTART takes effect: the score unit ends a held lock, every block takes its RESTART values, and the desk line
begins again (R40, R153, R197). -/
def restartTakesEffect (s : State) : State :=
  if s.link.restartDue then restartLine s.desk.stage.pollOnLine (restartBlocks (releaseLock s)) else s

end Sys2Proof.Machine
end

