-- ==== Sys2Proof/Machine/Events.lean ====
section
/-! DEFINITION. How every command and event ends: it answers a next state, once the publish its changes
requested has been taken by the board unit (R181). -/

namespace Sys2Proof.Machine

/-- The event is over: its requests for a publish, as one request, are taken from the state it leaves
(R181). -/
def finish (s : State) : Host.Outcome State Fault Refusal := .next (takeRequest s)

/-- A command frame arrives whole, its check good (R189, R192). -/
def frameArrives (c : Command) (s : State) : Host.Outcome State Fault Refusal :=
  finish (frameCompletes (.command c) s)

end Sys2Proof.Machine
end

