-- ==== Sys2Proof/Machine/BoardFrames.lean ====
section
/-! DEFINITION. The meanings of the command frames of the board unit (chapter 10). -/

namespace Sys2Proof.Machine

/-- BOARD_SCAN (R174). -/
def execBoardScan (p : Payload NoArgs) (s : State) : Host.Outcome State Fault Refusal :=
  frameArrives (.boardScan p) s

/-- BOARD_PUBLISH (R181). -/
def execBoardPublish (p : Payload NoArgs) (s : State) : Host.Outcome State Fault Refusal :=
  frameArrives (.boardPublish p) s

/-- BOARD_SET (R176). -/
def execBoardSet (p : Payload Bool) (s : State) : Host.Outcome State Fault Refusal :=
  frameArrives (.boardSet p) s

/-- ROUTE_SET (R175). -/
def execRouteSet (p : Payload RouteSetArgs) (s : State) : Host.Outcome State Fault Refusal :=
  frameArrives (.routeSet p) s

/-- ROUTE_CLEAR (R176). -/
def execRouteClear (p : Payload RouteTarget) (s : State) : Host.Outcome State Fault Refusal :=
  frameArrives (.routeClear p) s

/-- QUERY_BOARD (R184). -/
def execQueryBoard (p : Payload (Option Byte)) (s : State) : Host.Outcome State Fault Refusal :=
  frameArrives (.queryBoard p) s

end Sys2Proof.Machine
end

