-- ==== Sys2Proof/Machine/CueFrames.lean ====
section
/-! DEFINITION. The meanings of the command frames of the cue store (chapter 4). -/

namespace Sys2Proof.Machine

/-- CUE_LOAD (R60). -/
def execCueLoad (p : Payload CueLoadArgs) (s : State) : Host.Outcome State Fault Refusal :=
  frameArrives (.cueLoad p) s

/-- CUE_ERASE (R62). -/
def execCueErase (p : Payload EraseTarget) (s : State) : Host.Outcome State Fault Refusal :=
  frameArrives (.cueErase p) s

/-- CUE_POINT (R63). -/
def execCuePoint (p : Payload Byte) (s : State) : Host.Outcome State Fault Refusal :=
  frameArrives (.cuePoint p) s

/-- QUERY_CUE (R69). -/
def execQueryCue (p : Payload CueQuery) (s : State) : Host.Outcome State Fault Refusal :=
  frameArrives (.queryCue p) s

end Sys2Proof.Machine
end

