-- ==== Sys2Proof/Machine/DeskFrames.lean ====
section
/-! DEFINITION. The meanings of the command frames of the desk line and the press capture unit (chapters 2 and 3). -/

namespace Sys2Proof.Machine

/-- DESK_SPEED (R35). -/
def execDeskSpeed (p : Payload Byte) (s : State) : Host.Outcome State Fault Refusal :=
  frameArrives (.deskSpeed p) s

/-- LAMP_SET (R39). -/
def execLampSet (p : Payload LampSetArgs) (s : State) : Host.Outcome State Fault Refusal :=
  frameArrives (.lampSet p) s

/-- QUERY_DESK (R36). -/
def execQueryDesk (p : Payload NoArgs) (s : State) : Host.Outcome State Fault Refusal :=
  frameArrives (.queryDesk p) s

/-- CAPTURE_SET (R56). -/
def execCaptureSet (p : Payload Byte) (s : State) : Host.Outcome State Fault Refusal :=
  frameArrives (.captureSet p) s

/-- QUERY_CLOCK (R43). -/
def execQueryClock (p : Payload NoArgs) (s : State) : Host.Outcome State Fault Refusal :=
  frameArrives (.queryClock p) s

end Sys2Proof.Machine
end

