-- ==== Sys2Proof/Machine/DisplayEvents.lean ====
section
/-! DEFINITION. The meanings of the events of the display line (chapter 10). -/

namespace Sys2Proof.Machine

/-- PANEL_ACK (R180). -/
def execPanelAck (a : PanelAnswer) (s : State) : Host.Outcome State Fault Refusal :=
  finish (panelAnswers a s)

/-- PANEL_ACK_TIMEOUT (R180). -/
def execPanelAckTimeout (s : State) : Host.Outcome State Fault Refusal :=
  finish (panelSilent s)

/-- IDENTIFY_ANSWER (R174). -/
def execIdentifyAnswer (a : IdentifyReply) (s : State) : Host.Outcome State Fault Refusal :=
  finish (identifyAnswers a s)

/-- IDENTIFY_TIMEOUT (R174). -/
def execIdentifyTimeout (s : State) : Host.Outcome State Fault Refusal :=
  finish (identifySilent s)

end Sys2Proof.Machine
end

