-- ==== Sys2Proof/Machine/LineEvents.lean ====
section
/-! DEFINITION. The meanings of the events of the desk line (chapter 2). -/

namespace Sys2Proof.Machine

/-- ROAM_CYCLE_START (R24). -/
def execRoamCycleStart (s : State) : Host.Outcome State Fault Refusal :=
  finish (roamStart s)

/-- SPRINT_CYCLE_START (R26). -/
def execSprintCycleStart (s : State) : Host.Outcome State Fault Refusal :=
  finish (sprintStart s)

/-- POLL_REPLY_TAKEN (R22). -/
def execPollReplyTaken (r : PadReply) (s : State) : Host.Outcome State Fault Refusal :=
  finish (replyArrives r s)

/-- POLL_MISS (R23). -/
def execPollMiss (s : State) : Host.Outcome State Fault Refusal :=
  finish (pollMissed s)

/-- SWITCH_CYCLE_END (R30). -/
def execSwitchCycleEnd (s : State) : Host.Outcome State Fault Refusal :=
  finish (switchCycleEnded s)

/-- SPRINT_CYCLE_END (R26). -/
def execSprintCycleEnd (s : State) : Host.Outcome State Fault Refusal :=
  finish (sprintCycleEnded s)

end Sys2Proof.Machine
end

