-- ==== Sys2Proof/Machine/LinkEvents.lean ====
section
/-! DEFINITION. The meanings of the events of the control link (chapter 11). -/

namespace Sys2Proof.Machine

/-- CHECK_REJECT (R189). -/
def execCheckReject (s : State) : Host.Outcome State Fault Refusal :=
  finish (frameRejected .check s)

/-- LENGTH_REJECT (R189). -/
def execLengthReject (s : State) : Host.Outcome State Fault Refusal :=
  finish (frameRejected .length s)

/-- TRUNCATED_REJECT (R189). -/
def execTruncatedReject (s : State) : Host.Outcome State Fault Refusal :=
  finish (gapRunsOut s)

/-- REPLY_SENT (R192). -/
def execReplySent (s : State) : Host.Outcome State Fault Refusal :=
  finish (entrySent s)

/-- NOTICE_BEGIN (R194). -/
def execNoticeBegin (s : State) : Host.Outcome State Fault Refusal :=
  finish (noticeBegins s)

/-- NOTICE_END (R194). -/
def execNoticeEnd (s : State) : Host.Outcome State Fault Refusal :=
  finish (noticeEnds s)

/-- BYTE_RECEIVED (R189). -/
def execByteReceived (byte : Byte) (stopBit : Bool) (s : State) : Host.Outcome State Fault Refusal :=
  finish (byteArrives byte stopBit s)

end Sys2Proof.Machine
end

