-- ==== Sys2Proof/Machine/LinkFrames.lean ====
section
/-! DEFINITION. The meanings of the command frames of the link port and the notice unit (chapter 11), and frames of no command kind. -/

namespace Sys2Proof.Machine

/-- IDENTIFY (R196). -/
def execIdentify (p : Payload NoArgs) (s : State) : Host.Outcome State Fault Refusal :=
  frameArrives (.identify p) s

/-- KEEPALIVE (R196). -/
def execKeepalive (p : Payload NoArgs) (s : State) : Host.Outcome State Fault Refusal :=
  frameArrives (.keepalive p) s

/-- RESTART (R197). -/
def execRestart (p : Payload NoArgs) (s : State) : Host.Outcome State Fault Refusal :=
  frameArrives (.restart p) s

/-- NOTICE_ENABLE (R195). -/
def execNoticeEnable (p : Payload NoticeEnableArgs) (s : State) : Host.Outcome State Fault Refusal :=
  frameArrives (.noticeEnable p) s

/-- NOTICE_CLEAR (R195). -/
def execNoticeClear (p : Payload NoticeTarget) (s : State) : Host.Outcome State Fault Refusal :=
  frameArrives (.noticeClear p) s

/-- BAD_KIND_FRAME (R190). -/
def execBadKindFrame (kind : Byte) (s : State) : Host.Outcome State Fault Refusal :=
  finish (frameCompletes (.badKind kind) s)

end Sys2Proof.Machine
end

