-- ==== Sys2Proof/Machine/ResetEvents.lean ====
section
/-! DEFINITION. The meanings of the resets (chapter 11): POWER_ON_RESET, LINE_RESET, RESTART_EFFECT. -/

namespace Sys2Proof.Machine

/-- POWER_ON_RESET (R198). -/
def execPowerOnReset (strap : PinLevel) (s : State) : Host.Outcome State Fault Refusal :=
  finish (resetPart strap .power s)

/-- LINE_RESET (R198). -/
def execLineReset (strap : PinLevel) (s : State) : Host.Outcome State Fault Refusal :=
  finish (resetPart strap .line s)

/-- RESTART_EFFECT (R197). -/
def execRestartEffect (s : State) : Host.Outcome State Fault Refusal :=
  finish (restartTakesEffect s)

end Sys2Proof.Machine
end

