-- ==== Sys2Proof/Machine/RosterFrames.lean ====
section
/-! DEFINITION. The meanings of the command frames of the desk roster (chapter 1). -/

namespace Sys2Proof.Machine

/-- TEAM_SET (R3). -/
def execTeamSet (p : Payload TeamSetArgs) (s : State) : Host.Outcome State Fault Refusal :=
  frameArrives (.teamSet p) s

/-- PAD_ASSIGN (R12). -/
def execPadAssign (p : Payload PadAssignArgs) (s : State) : Host.Outcome State Fault Refusal :=
  frameArrives (.padAssign p) s

/-- LAYOUT_SET (R14). -/
def execLayoutSet (p : Payload Byte) (s : State) : Host.Outcome State Fault Refusal :=
  frameArrives (.layoutSet p) s

/-- PAD_FORGET (R16). -/
def execPadForget (p : Payload Byte) (s : State) : Host.Outcome State Fault Refusal :=
  frameArrives (.padForget p) s

/-- QUERY_TEAM (R17). -/
def execQueryTeam (p : Payload Byte) (s : State) : Host.Outcome State Fault Refusal :=
  frameArrives (.queryTeam p) s

/-- QUERY_PAD (R18). -/
def execQueryPad (p : Payload Byte) (s : State) : Host.Outcome State Fault Refusal :=
  frameArrives (.queryPad p) s

end Sys2Proof.Machine
end

