-- ==== Sys2Proof/Machine/RoundFrames.lean ====
section
/-! DEFINITION. The meanings of the command frames of the round engine (chapters 5 to 7). -/

namespace Sys2Proof.Machine

/-- ROUND_ARM (R80). -/
def execRoundArm (p : Payload (Option Byte)) (s : State) : Host.Outcome State Fault Refusal :=
  frameArrives (.roundArm p) s

/-- ROUND_OPEN (R82). -/
def execRoundOpen (p : Payload NoArgs) (s : State) : Host.Outcome State Fault Refusal :=
  frameArrives (.roundOpen p) s

/-- CALL_TIME (R92). -/
def execCallTime (p : Payload NoArgs) (s : State) : Host.Outcome State Fault Refusal :=
  frameArrives (.callTime p) s

/-- ROUND_ABORT (R93). -/
def execRoundAbort (p : Payload NoArgs) (s : State) : Host.Outcome State Fault Refusal :=
  frameArrives (.roundAbort p) s

/-- ROUND_CLEAR (R94). -/
def execRoundClear (p : Payload NoArgs) (s : State) : Host.Outcome State Fault Refusal :=
  frameArrives (.roundClear p) s

/-- QUERY_ROUND (R97). -/
def execQueryRound (p : Payload NoArgs) (s : State) : Host.Outcome State Fault Refusal :=
  frameArrives (.queryRound p) s

/-- JUDGE (R115). -/
def execJudge (p : Payload JudgeArgs) (s : State) : Host.Outcome State Fault Refusal :=
  frameArrives (.judge p) s

/-- CLAIM_DROP (R120). -/
def execClaimDrop (p : Payload Byte) (s : State) : Host.Outcome State Fault Refusal :=
  frameArrives (.claimDrop p) s

/-- QUERY_QUEUE (R123). -/
def execQueryQueue (p : Payload NoArgs) (s : State) : Host.Outcome State Fault Refusal :=
  frameArrives (.queryQueue p) s

/-- REVEAL (R135). -/
def execReveal (p : Payload (Option Byte)) (s : State) : Host.Outcome State Fault Refusal :=
  frameArrives (.reveal p) s

/-- QUERY_BALLOT (R140). -/
def execQueryBallot (p : Payload NoArgs) (s : State) : Host.Outcome State Fault Refusal :=
  frameArrives (.queryBallot p) s

end Sys2Proof.Machine
end

