-- ==== Sys2Proof/Machine/ScoreFrames.lean ====
section
/-! DEFINITION. The meanings of the command frames of the score unit (chapter 8). -/

namespace Sys2Proof.Machine

/-- SCORE_ADJUST (R147). -/
def execScoreAdjust (p : Payload ScoreAdjustArgs) (s : State) : Host.Outcome State Fault Refusal :=
  frameArrives (.scoreAdjust p) s

/-- SCORE_LOCK (R148). -/
def execScoreLock (p : Payload Byte) (s : State) : Host.Outcome State Fault Refusal :=
  frameArrives (.scoreLock p) s

/-- SCORE_UNLOCK (R151). -/
def execScoreUnlock (p : Payload NoArgs) (s : State) : Host.Outcome State Fault Refusal :=
  frameArrives (.scoreUnlock p) s

/-- QUERY_AWARDS (R156). -/
def execQueryAwards (p : Payload NoArgs) (s : State) : Host.Outcome State Fault Refusal :=
  frameArrives (.queryAwards p) s

end Sys2Proof.Machine
end

