-- ==== Sys2Proof/Machine/StackFrames.lean ====
section
/-! DEFINITION. The meanings of the command frames of the context stack and the silence monitor (chapter 9). -/

namespace Sys2Proof.Machine

/-- ROUND_SUSPEND (R159). -/
def execRoundSuspend (p : Payload NoArgs) (s : State) : Host.Outcome State Fault Refusal :=
  frameArrives (.roundSuspend p) s

/-- ROUND_RESUME (R162). -/
def execRoundResume (p : Payload NoArgs) (s : State) : Host.Outcome State Fault Refusal :=
  frameArrives (.roundResume p) s

/-- SILENCE_ARM (R164). -/
def execSilenceArm (p : Payload Byte) (s : State) : Host.Outcome State Fault Refusal :=
  frameArrives (.silenceArm p) s

/-- QUERY_STACK (R170). -/
def execQueryStack (p : Payload NoArgs) (s : State) : Host.Outcome State Fault Refusal :=
  frameArrives (.queryStack p) s

end Sys2Proof.Machine
end

