-- ==== Sys2Proof/Machine/TimerEvents.lean ====
section
/-! DEFINITION. The meanings of the events of the timers (chapters 5, 6, 8, 9, 10). -/

namespace Sys2Proof.Machine

/-- ROUND_DEADLINE_EXPIRY (R87). -/
def execRoundDeadlineExpiry (s : State) : Host.Outcome State Fault Refusal :=
  finish (roundExpiry s)

/-- ANSWER_DEADLINE_EXPIRY (R114). -/
def execAnswerDeadlineExpiry (s : State) : Host.Outcome State Fault Refusal :=
  finish (answerExpiry s)

/-- FLASH_INSTANT (R113). -/
def execFlashInstant (s : State) : Host.Outcome State Fault Refusal :=
  finish (flashReached s)

/-- LAPSE (R151). -/
def execLapse (s : State) : Host.Outcome State Fault Refusal :=
  finish (lapse s)

/-- SILENCE_DEADLINE (R166). -/
def execSilenceDeadline (s : State) : Host.Outcome State Fault Refusal :=
  finish (silenceReached s)

/-- COUNTDOWN_SECOND (R182). -/
def execCountdownSecond (s : State) : Host.Outcome State Fault Refusal :=
  finish (countdownSecond s)

end Sys2Proof.Machine
end

