-- ==== Sys2Proof/Machine/Dispatch.lean ====
section
/-! DEFINITION. exec: one arm for each command and event of the opcode table, each one call of its meaning. -/

namespace Sys2Proof.Machine

/-- The effect of a command on everything but the queue of commands waiting. -/
def exec (i : Instr) (s : State) : Host.Outcome State Fault Refusal :=
  match i with
  | .powerOnReset strap => Sys2Proof.Machine.execPowerOnReset strap s
  | .lineReset strap => Sys2Proof.Machine.execLineReset strap s
  | .teamSet p => Sys2Proof.Machine.execTeamSet p s
  | .padAssign p => Sys2Proof.Machine.execPadAssign p s
  | .layoutSet p => Sys2Proof.Machine.execLayoutSet p s
  | .padForget p => Sys2Proof.Machine.execPadForget p s
  | .queryTeam p => Sys2Proof.Machine.execQueryTeam p s
  | .queryPad p => Sys2Proof.Machine.execQueryPad p s
  | .deskSpeed p => Sys2Proof.Machine.execDeskSpeed p s
  | .lampSet p => Sys2Proof.Machine.execLampSet p s
  | .queryDesk p => Sys2Proof.Machine.execQueryDesk p s
  | .captureSet p => Sys2Proof.Machine.execCaptureSet p s
  | .queryClock p => Sys2Proof.Machine.execQueryClock p s
  | .cueLoad p => Sys2Proof.Machine.execCueLoad p s
  | .cueErase p => Sys2Proof.Machine.execCueErase p s
  | .cuePoint p => Sys2Proof.Machine.execCuePoint p s
  | .queryCue p => Sys2Proof.Machine.execQueryCue p s
  | .roundArm p => Sys2Proof.Machine.execRoundArm p s
  | .roundOpen p => Sys2Proof.Machine.execRoundOpen p s
  | .callTime p => Sys2Proof.Machine.execCallTime p s
  | .roundAbort p => Sys2Proof.Machine.execRoundAbort p s
  | .roundClear p => Sys2Proof.Machine.execRoundClear p s
  | .queryRound p => Sys2Proof.Machine.execQueryRound p s
  | .judge p => Sys2Proof.Machine.execJudge p s
  | .claimDrop p => Sys2Proof.Machine.execClaimDrop p s
  | .queryQueue p => Sys2Proof.Machine.execQueryQueue p s
  | .reveal p => Sys2Proof.Machine.execReveal p s
  | .queryBallot p => Sys2Proof.Machine.execQueryBallot p s
  | .scoreAdjust p => Sys2Proof.Machine.execScoreAdjust p s
  | .scoreLock p => Sys2Proof.Machine.execScoreLock p s
  | .scoreUnlock p => Sys2Proof.Machine.execScoreUnlock p s
  | .queryAwards p => Sys2Proof.Machine.execQueryAwards p s
  | .roundSuspend p => Sys2Proof.Machine.execRoundSuspend p s
  | .roundResume p => Sys2Proof.Machine.execRoundResume p s
  | .silenceArm p => Sys2Proof.Machine.execSilenceArm p s
  | .queryStack p => Sys2Proof.Machine.execQueryStack p s
  | .boardScan p => Sys2Proof.Machine.execBoardScan p s
  | .boardPublish p => Sys2Proof.Machine.execBoardPublish p s
  | .boardSet p => Sys2Proof.Machine.execBoardSet p s
  | .routeSet p => Sys2Proof.Machine.execRouteSet p s
  | .routeClear p => Sys2Proof.Machine.execRouteClear p s
  | .queryBoard p => Sys2Proof.Machine.execQueryBoard p s
  | .identify p => Sys2Proof.Machine.execIdentify p s
  | .keepalive p => Sys2Proof.Machine.execKeepalive p s
  | .restart p => Sys2Proof.Machine.execRestart p s
  | .restartEffect => Sys2Proof.Machine.execRestartEffect s
  | .noticeEnable p => Sys2Proof.Machine.execNoticeEnable p s
  | .noticeClear p => Sys2Proof.Machine.execNoticeClear p s
  | .badKindFrame kind => Sys2Proof.Machine.execBadKindFrame kind s
  | .checkReject => Sys2Proof.Machine.execCheckReject s
  | .lengthReject => Sys2Proof.Machine.execLengthReject s
  | .truncatedReject => Sys2Proof.Machine.execTruncatedReject s
  | .replySent => Sys2Proof.Machine.execReplySent s
  | .noticeBegin => Sys2Proof.Machine.execNoticeBegin s
  | .noticeEnd => Sys2Proof.Machine.execNoticeEnd s
  | .roamCycleStart => Sys2Proof.Machine.execRoamCycleStart s
  | .sprintCycleStart => Sys2Proof.Machine.execSprintCycleStart s
  | .pollReplyTaken r => Sys2Proof.Machine.execPollReplyTaken r s
  | .pollMiss => Sys2Proof.Machine.execPollMiss s
  | .switchCycleEnd => Sys2Proof.Machine.execSwitchCycleEnd s
  | .sprintCycleEnd => Sys2Proof.Machine.execSprintCycleEnd s
  | .roundDeadlineExpiry => Sys2Proof.Machine.execRoundDeadlineExpiry s
  | .answerDeadlineExpiry => Sys2Proof.Machine.execAnswerDeadlineExpiry s
  | .flashInstant => Sys2Proof.Machine.execFlashInstant s
  | .lapse => Sys2Proof.Machine.execLapse s
  | .silenceDeadline => Sys2Proof.Machine.execSilenceDeadline s
  | .panelAck a => Sys2Proof.Machine.execPanelAck a s
  | .panelAckTimeout => Sys2Proof.Machine.execPanelAckTimeout s
  | .identifyAnswer a => Sys2Proof.Machine.execIdentifyAnswer a s
  | .identifyTimeout => Sys2Proof.Machine.execIdentifyTimeout s
  | .countdownSecond => Sys2Proof.Machine.execCountdownSecond s
  | .byteReceived byte stopBit => Sys2Proof.Machine.execByteReceived byte stopBit s

end Sys2Proof.Machine
end

