-- ==== Sys2Proof/Safety.lean ====
section
/-! DEFINITION. The laws the manual says the part keeps, as predicates of a state, and the vocabulary in which
statements say what a command does and what it leaves alone. -/

namespace Sys2Proof.Machine

/-! ### The laws of the blocks -/

/-- Every team's score lies between -9999 and +9999, and its counts are at most 255 (R1, R143). -/
def State.scoresInRange (s : State) : Prop :=
  ∀ t : TeamId, -9999 ≤ (s.team t).score ∧ (s.team t).score ≤ 9999 ∧ (s.team t).correct ≤ 255
    ∧ (s.team t).wrong ≤ 255 ∧ (s.team t).streak ≤ 255

/-- The pending award list holds at most 16 awards, and it is non-empty only while the award lock is held
(R149). -/
def State.awardsBehindLock (s : State) : Prop :=
  s.scores.pendingAwards.length ≤ 16 ∧ (s.lockHeld = false → s.scores.pendingAwards = [])

/-- The SCORE changed set holds no team twice; it is kept in ascending team order (R141, R154). -/
def State.changedAscending (s : State) : Prop := (s.scores.changed.map ScoreMark.team).Pairwise (· < ·)

/-- The context stack holds at most 3 contexts, and a third context is on it only if it was pushed by arming
a TIEBREAK cue (R157). -/
def State.stackBounded (s : State) : Prop :=
  s.stack.length ≤ 3 ∧ ∀ x rest, s.stack = x :: rest → rest.length = 2 → x.origin = .tiebreak

/-- No two BASE routes of one panel share a cell (R175). -/
def State.routesDisjoint (s : State) : Prop :=
  ∀ (m n : RouteId) (r q : Route), m ≠ n → s.route m = some r → s.route n = some q → r.clashes q = false

/-- No team has more than 8 assigned pads, and no two pads of one team share a seat (R11). -/
def State.padsLawful (s : State) : Prop :=
  (∀ t : TeamId, s.assignedCount t ≤ 8)
    ∧ ∀ (a b : PadAddr) (p : Place), a ≠ b → s.placeOf a = some p → s.placeOf b ≠ some p

/-- The reply queue holds at most 4 entries, an item is held only beside a full queue and never while RESTART
waits to take effect, and the transmitter is idle only with an empty queue (R192, R197). -/
def State.linkSound (s : State) : Prop :=
  s.link.queue.length ≤ 4
    ∧ (s.link.held.isSome = true → s.link.queue.length = 4 ∧ s.link.restarting = false)
    ∧ (s.link.transmitter = .entry → s.link.queue ≠ [])
    ∧ (s.link.transmitter = .idle → s.link.queue = [])

/-- The active context is in OPEN, SETTLING, FLOOR or CLOSING only while the desk line runs at SPRINT
(R96). -/
def State.liveAtSprint (s : State) : Prop :=
  ∀ c, s.engine.active = some c → c.phase.takesPresses = true → s.desk.speed = .sprint

/-- A ballot table has one entry for each team of its context's eligible set, so that a choice is held only
for an eligible team (R125, R126). -/
def Context.ballotFits (c : Context) : Prop :=
  ∀ b, c.ballot = some b → b.entries.map BallotEntry.team = c.eligible

/-- The ballots of the active context and of the saved ones fit (R125, R126). -/
def State.ballotsFit (s : State) : Prop :=
  (∀ c, s.engine.active = some c → c.ballotFits) ∧ ∀ x ∈ s.stack, x.context.ballotFits

/-- The windows of a context: the round deadline is there in OPEN and SETTLING alone, the answer deadline and
the flash instant in FLOOR alone, none of the three while held, and the answer remainder in a held FLOOR
alone (R86, R113, R167). -/
def Context.windowsSound (c : Context) : Prop :=
  (c.roundDeadline.isSome = true → (c.phase = .opened ∨ c.phase = .settling) ∧ c.held = false)
    ∧ (c.answerDeadline.isSome = true → c.phase = .floor ∧ c.held = false)
    ∧ (c.flashInstant.isSome = true → c.answerDeadline.isSome = true)
    ∧ (c.answerRemainder.isSome = true → c.phase = .floor ∧ c.held = true)

/-- The claim queue of a context: at most 8 claims, no team twice, no team locked out (R99, R117); empty
before the first claim and in a POLL, not empty in SETTLING; in FLOOR its first claim is the floor holder's,
and there is no holder in any other state (R99, R102, R110). -/
def Context.queueSound (c : Context) : Prop :=
  c.queue.length ≤ 8 ∧ (c.queue.map Claim.team).Nodup
    ∧ (∀ q ∈ c.queue, q.team ∉ c.lockout)
    ∧ (c.phase = .armed ∨ c.phase = .opening ∨ c.phase = .opened → c.queue = [])
    ∧ (c.phase = .settling → c.queue ≠ [])
    ∧ (c.isPoll = true → c.queue = [] ∧ c.phase ≠ .floor)
    ∧ (c.phase = .floor → ∃ q rest, c.queue = q :: rest ∧ c.holder = some q.team)
    ∧ (c.phase ≠ .floor → c.holder = none)

/-- A saved context is in ARMED or OPEN, not held, with its window paused (R157). -/
def Context.savedSound (c : Context) : Prop :=
  c.windowsSound ∧ c.queueSound ∧ (c.phase = .armed ∨ c.phase = .opened) ∧ c.held = false
    ∧ c.roundDeadline = none

/-- The round machinery is sound: the active context keeps the laws of its windows and its queue and is held
exactly while the silence monitor is HOLDING, and every saved context is fit to be resumed (R99, R110, R117,
R157, R166, R167). -/
def State.roundsSound (s : State) : Prop :=
  (∀ c, s.engine.active = some c → c.windowsSound ∧ c.queueSound ∧ c.held = s.holding)
    ∧ ∀ x ∈ s.stack, x.context.savedSound

/-- No request for a publish is left over between events (the model's own mark, log 18). -/
def State.noRequest (s : State) : Prop := s.board.request = false

/-! ### What a statement says of a command -/

/-- The blocks of the state, and the parts of the desk roster. -/
inductive Block where
  | clock
  | teams
  | pads
  | layout
  | desk
  | debounce
  | cues
  | engine
  | stack
  | scores
  | silence
  | board
  | notices
  | link
  | cause
  | strap
  | waiting
deriving DecidableEq, Repr

/-- A block stands in one state as it stands in another. -/
def Block.same (b : Block) (s t : State) : Prop :=
  match b with
  | .clock => t.clock = s.clock
  | .teams => t.roster.teams = s.roster.teams
  | .pads => t.roster.pads = s.roster.pads
  | .layout => t.roster.layout = s.roster.layout
  | .desk => t.desk = s.desk
  | .debounce => t.debounce = s.debounce
  | .cues => t.cues = s.cues
  | .engine => t.engine = s.engine
  | .stack => t.stack = s.stack
  | .scores => t.scores = s.scores
  | .silence => t.silence = s.silence
  | .board => t.board = s.board
  | .notices => t.notices = s.notices
  | .link => t.link = s.link
  | .cause => t.cause = s.cause
  | .strap => t.strap = s.strap
  | .waiting => t.pending = s.pending

/-- Every block but those named is as it was: the frame of a command. -/
def unchangedBut (touched : List Block) (s t : State) : Prop := ∀ b : Block, b ∉ touched → b.same s t

/-- The link port executes a frame that completes now: no RESTART waits to take effect, no item is held and
the queue has room (R192, R197); no hold is on, and no request for a publish is left over. -/
def State.ready (s : State) : Prop :=
  s.link.restarting = false ∧ s.link.held = none ∧ s.link.queue.length < 4 ∧ s.holding = false
    ∧ s.noRequest

/-- The silence monitor after a valid frame that ends no hold (R165). -/
def SilenceMonitor.heard (now : ClockValue) : SilenceMonitor → SilenceMonitor
  | .disarmed => .disarmed
  | .watching period _ _ => watchFrom now period
  | .holding period last => .holding period last

/-- The link port once an entry has joined the queue: the assembler is HUNTING, and an idle transmitter has
begun to send (R189, R192). -/
def LinkPort.joined (e : QueueEntry) (l : LinkPort) : LinkPort :=
  { l with
      assembler := .hunting
      queue := l.queue ++ [e]
      transmitter := if l.transmitter = .idle then .entry else l.transmitter }

/-- A command frame was executed and answered: its reply is at the back of the queue, and the silence monitor
has been told (R165, R191, R192). -/
def answered (kind : Byte) (a : Answer) (s t : State) : Prop :=
  t.link = s.link.joined (.reply { kind := kind, answer := a }) ∧ t.silence = s.silence.heard s.clock

/-- The command completes: exec answers a next state, in which its reply waits, with the effect named; every
block but the link port, the silence monitor and those named is as it was. -/
def completes (i : Instr) (s : State) (kind : Byte) (a : Answer) (touched : List Block)
    (effect : State → Prop) : Prop :=
  ∃ t, exec i s = .next t ∧ answered kind a s t ∧ unchangedBut (.link :: .silence :: touched) s t ∧ effect t

/-- The event completes: exec answers a next state with the effect named, and every block but those named is
as it was. -/
def happens (i : Instr) (s : State) (touched : List Block) (effect : State → Prop) : Prop :=
  ∃ t, exec i s = .next t ∧ unchangedBut touched s t ∧ effect t

/-- The notice unit with the pending flags of some kinds set. -/
def NoticeUnit.withPending (n : NoticeUnit) (ks : List NoticeKind) : NoticeUnit :=
  { n with waiting := ks.foldl (fun f k => f.put k true) n.waiting }

/-- A request for a publish is taken at the end of an event: a publish starts on a line at rest, and on a busy
line the publish-again flag is set (R181). -/
def publishAsked (s : State) : State :=
  match s.board.operation with
  | .idle => startPublish s
  | .publish _ _ _ _ => { s with board := { s.board with again := true } }
  | .scan _ => { s with board := { s.board with again := true } }

/-- What the board unit does at the end of an event with an automatic trigger (R182). -/
def afterTrigger (auto : Bool) (s : State) : State := if auto then publishAsked s else s

/-- The pending flags of some kinds are set, and nothing else of the notice unit and the board has changed but
for the publish the event asks for where auto-publish is ON, which renders the state the event leaves
(R181, R182). -/
def signals (ks : List NoticeKind) (s t : State) : Prop :=
  (∀ k ∈ ks, t.notices.waiting.get k = true)
    ∧ t = afterTrigger s.board.auto { t with board := s.board, notices := s.notices.withPending ks }

/-- The desk line controller after a round change: a switch is requested where SPRINT is needed on a ROAM
line with none in progress (R28, R76). -/
def DeskLine.judged (needed : Bool) (d : DeskLine) : DeskLine :=
  if needed ∧ d.speed = .roam ∧ d.switch = none then
    { d with switch := some { completed := 0, echoed := [] } }
  else d

/-- The need for SPRINT a state of the engine makes, with the speed setting (R27). -/
def needFor (setting : SpeedSetting) (active : Option Context) : Bool :=
  (match active with
    | some c => c.phase.needsSprint
    | none => false) || decide (setting = .sprint)

/-- The active context becomes this one, and a round change is signalled: ROUND pending with any other kinds
named, and the desk line judges its need again (R76). -/
def roundChangesTo (active : Option Context) (ks : List NoticeKind) (s t : State) : Prop :=
  t.engine.active = active ∧ t.desk = s.desk.judged (needFor s.desk.setting active)
    ∧ signals (.round :: ks) s t

/-! ### What arrives on the control link -/

/-- The frame or rejection an event of the control link brings at once (R189, R190); the gap of a truncated
frame counts only within a frame and is not listed here. -/
def arriving (i : Instr) : Option HeldItem :=
  match i.frameCommand, i with
  | some c, _ => some (.frame (.command c))
  | none, .badKindFrame kind => some (.frame (.badKind kind))
  | none, .checkReject => some (.rejection .check)
  | none, .lengthReject => some (.rejection .length)
  | none, _ => none

/-- The part receives bytes one after another, each with its stop bit. -/
def receives : List Byte → State → Host.Outcome State Fault Refusal
  | [], s => .next s
  | b :: bs, s =>
    match exec (.byteReceived b true) s with
    | .next t => receives bs t
    | .fault f => .fault f
    | .refused r => .refused r

/-! ### The course of a cycle on the desk line -/

/-- The discovery probe that ends the polls of a ROAM or switch cycle: it goes to the first address after the
old pointer that is not PRESENT, which the pointer takes; with all 64 pads PRESENT there is none (R24, R25). -/
def probeSent (s t : State) : Prop :=
  ((∀ a, (t.pad a).presence = .present) ∧ t.desk.stage = .finished ∧ t.desk.pointer = s.desk.pointer)
    ∨ ∃ k : Fin 64, (t.pad (s.desk.pointer + k + 1)).presence ≠ .present
        ∧ (∀ j : Fin 64, j < k → (t.pad (s.desk.pointer + j + 1)).presence = .present)
        ∧ t.desk.stage = .probing (t.pollOf (s.desk.pointer + k + 1))
        ∧ t.desk.pointer = s.desk.pointer + k + 1

/-- The polls of the pads left are begun: the next is sent, and after the last the probe, but none in a SPRINT
cycle (R24, R26, R28).  The lamp state of a poll is worked out as it is sent (R38). -/
def pollsGoOn (rest : List PadAddr) (s t : State) : Prop :=
  match rest with
  | a :: more => t.desk.stage = .polling (t.pollOf a) more ∧ t.desk.pointer = s.desk.pointer
  | [] =>
    if t.desk.cycleKind = .sprint then t.desk.stage = .finished ∧ t.desk.pointer = s.desk.pointer
    else probeSent s t

/-- A ROAM-cadence cycle has begun: a switch cycle where SPRINT is needed, its record new or kept, and otherwise a ROAM
cycle with no record left (R24, R28, R32). -/
def roamCycleBegun (s t : State) : Prop :=
  (if s.sprintNeeded = true ∧ (s.desk.speed = .roam ∨ s.desk.switch ≠ none) then
      t.desk.cycleKind = .switching
        ∧ t.desk.switch = some (s.desk.switch.getD { completed := 0, echoed := [] })
    else t.desk.cycleKind = .roam ∧ t.desk.switch = none)
    ∧ t.desk.speed = s.desk.speed ∧ t.desk.setting = s.desk.setting
    ∧ t.desk.sprintCount = s.desk.sprintCount ∧ t.desk.changed = s.desk.changed
    ∧ pollsGoOn (s.padsWith .present) s t

/-- The transaction on the line has ended, and the cycle goes on (R24, R25, R26). -/
def cycleAdvances (s t : State) : Prop :=
  match s.desk.stage with
  | .polling _ rest => pollsGoOn rest s t
  | .probing _ => t.desk.stage = .finished ∧ t.desk.pointer = s.desk.pointer
  | .atStart => False
  | .finished => False
  | .draining _ => False

end Sys2Proof.Machine
end

