-- ==== Sys2Proof/Certificates/Slice0/Obligations.lean ====
section
/-! DEFINITION. The statements for the provers: one proposition each, over every state and every operand its
hypotheses admit. -/

open Sys2Proof Sys2Proof.Machine

/-! ### The machine as a whole -/

/-- A step runs the command at the front of the queue on the state with the queue's rest. -/
def Obligations.StepRunsFrontCommand : Prop :=
  ∀ (s : State) (c : Instr) (rest : List Instr), s.pending = c :: rest →
    step s = exec c { s with pending := rest }

/-- On an empty queue a step is one tick of the theatre clock, modulo 2^32, and nothing else: the model's
choice (log 1). -/
def Obligations.IdleStepTicks : Prop :=
  ∀ s : State, s.pending = [] → step s = .next { s with clock := s.clock + 1#32 }

/-- Every command and event answers a next state, no fault and no refusal, and leaves the queue of commands as it
was; that a reset keeps the queue is the model's choice (log 21). The model's own: log 3 and 21. -/
def Obligations.EveryCommandAnswers : Prop :=
  ∀ (c : Instr) (s : State), ∃ t, exec c s = .next t ∧ t.pending = s.pending

/-- The values a power-on or line reset leaves (R19, R20, R41, R45, R55, R57, R72, R141, R157, R164, R172, R187,
R193, R198), with the start-up scan at panel 0 (R174). -/
def resetValues (strap : PinLevel) (cause : ResetCause) (s t : State) : Prop :=
  t.clock = 0#32
    ∧ (∀ n, t.team n = { state := .unused, tag := none, score := 0, correct := 0, wrong := 0, streak := 0,
                         last := none })
    ∧ (∀ a, t.pad a = { presence := .absent, assignment := .byDefault, misses := 0, lagging := false,
                        batteryLow := false, lampOverride := none, keys := ⟨false, false, false, false, false⟩,
                        candidate := none })
    ∧ t.roster.layout = .grid16
    ∧ t.desk.speed = .roam ∧ t.desk.setting = .auto ∧ t.desk.switch = none ∧ t.desk.cycleKind = .roam
    ∧ t.desk.stage = .atStart ∧ t.desk.pointer = 0 ∧ t.desk.sprintCount = 0#32 ∧ t.desk.changed = []
    ∧ t.debounce = 2
    ∧ (∀ x, t.cueSlot x = .empty) ∧ t.cues.pointer = 0 ∧ t.cues.wrapped = []
    ∧ t.engine.active = none ∧ t.engine.tiePointer = 0 ∧ t.stack = []
    ∧ t.scores = { lock := .free, pendingAwards := [], changed := [], lastEnd := none }
    ∧ t.silence = .disarmed
    ∧ (∀ p, t.panel p = { presence := .absent, cells := none, shown := none })
    ∧ (∀ n, t.route n = none) ∧ t.board.auto = false ∧ t.board.operation = .scan 0 ∧ t.board.again = false
    ∧ t.board.lastResult = none ∧ t.board.completed = 0
    ∧ (∀ k, t.notices.waiting.get k = decide (k = .link))
    ∧ (∀ k, t.notices.enabled.get k = decide (k ≠ .queue ∧ k ≠ .pad ∧ k ≠ .cue))
    ∧ t.notices.started = true ∧ t.notices.overrun = false ∧ t.notices.overruns = 0
    ∧ t.link.assembler = .hunting ∧ t.link.queue = [] ∧ t.link.held = none ∧ t.link.transmitter = .idle
    ∧ t.link.restarting = false ∧ t.link.rate = (match strap with | .low => .slow | .high => .fast)
    ∧ t.cause = cause ∧ t.strap = strap ∧ t.pending = s.pending

/-- POWER_ON_RESET and LINE_RESET complete in every state, with the reset values. The model's own: log 6 and 21.
-/
def Obligations.ResetsLeaveTheseValues : Prop :=
  ∀ (strap : PinLevel) (s : State),
    (∃ t, exec (.powerOnReset strap) s = .next t ∧ resetValues strap .power s t)
      ∧ ∃ t, exec (.lineReset strap) s = .next t ∧ resetValues strap .line s t

/-- What RESTART leaves when it takes effect (R19, R20, R40, R57, R72, R141, R153, R164, R172, R185, R193, R197):
a held lock has ended with its awards applied, the other blocks keep or reset each field as listed.  A ROAM cycle has
started from the pads and the pointer as they were kept, or, with a poll on the line, waits for the close of its
slot. -/
def restartValues (s t : State) : Prop :=
  (s.lockHeld = false → t.roster.teams = s.roster.teams)
    ∧ (s.lockHeld = true → t.roster.teams = (applyAwards s.scores.pendingAwards s).roster.teams)
    ∧ (∀ a, t.pad a = { s.pad a with lagging := false, candidate := none })
    ∧ t.roster.layout = s.roster.layout ∧ t.clock = s.clock ∧ t.debounce = s.debounce
    ∧ t.desk.speed = .roam ∧ t.desk.setting = .auto ∧ t.desk.switch = none ∧ t.desk.cycleKind = .roam
    ∧ t.desk.sprintCount = s.desk.sprintCount ∧ t.desk.changed = []
    ∧ (s.desk.stage.pollOnLine = none → pollsGoOn (s.padsWith .present) s t)
    ∧ (∀ p, s.desk.stage.pollOnLine = some p → t.desk.stage = .draining p ∧ t.desk.pointer = s.desk.pointer)
    ∧ t.cues = { s.cues with wrapped := [] }
    ∧ t.engine.active = none ∧ t.engine.tiePointer = s.engine.tiePointer ∧ t.stack = []
    ∧ t.scores = { lock := .free, pendingAwards := [], changed := [], lastEnd := none }
    ∧ t.silence = .disarmed
    ∧ (∀ p, t.panel p = { s.panel p with shown := none })
    ∧ t.board.routes = s.board.routes ∧ t.board.auto = s.board.auto ∧ t.board.operation = .scan 0
    ∧ t.board.again = false ∧ t.board.lastResult = none ∧ t.board.completed = 0
    ∧ (∀ k, t.notices.waiting.get k = decide (k = .link)) ∧ t.notices.enabled = s.notices.enabled
    ∧ t.notices.started = true ∧ t.notices.overrun = false ∧ t.notices.overruns = 0
    ∧ t.link = { assembler := .hunting, queue := [], held := none, transmitter := .idle, restarting := false,
                 rate := s.link.rate }
    ∧ t.cause = .restart ∧ t.strap = s.strap ∧ t.pending = s.pending

/-- RESTART_EFFECT completes once RESTART has been executed, no notice is being sent and at most its own reply
is in the queue; otherwise nothing happens. -/
def restartTakesEffectWhenDue : Prop :=
  ∀ s : State, s.noRequest →
    (s.link.restarting = true ∧ s.link.queue.length ≤ 1 ∧ (∀ n, s.link.transmitter ≠ .notice n) →
      ∃ t, exec .restartEffect s = .next t ∧ restartValues s t)
    ∧ ((s.link.restarting = false ∨ 2 ≤ s.link.queue.length ∨ ∃ n, s.link.transmitter = .notice n) →
      exec .restartEffect s = .next s)

/-! ### Frames on the control link -/

/-- A command frame on a link port that is ready is executed and answered with one reply of its kind, whatever
it carries. A payload that does not fit its layout is refused with BAD_VALUE, and a command answered REFUSED or
RETRY has changed nothing but the link port and the silence monitor's count. The model's own: log 5. -/
def Obligations.EveryFrameIsAnswered : Prop :=
  ∀ (i : Instr) (c : Command) (s : State), i.frameCommand = some c → s.ready →
    ∃ a t, exec i s = .next t
      ∧ t.link.queue = s.link.queue ++ [.reply { kind := c.code, answer := a }]
      ∧ t.link.assembler = .hunting
      ∧ (c.payload = none → a.result = .refused .badValue)
      ∧ ((∃ r, a.result = .refused r) ∨ a.result = .retry →
          answered c.code a s t ∧ unchangedBut [.link, .silence] s t)

/-- Frames and rejections that complete when they cannot be taken, a truncated frame's rejection included: discarded
without a trace while RESTART waits to take effect, discarded on overrun with LINK pending while an item is held,
and held while the queue is full (R192, R197). The model's own: log 5 and 22. -/
def Obligations.FullQueueHoldsThenOverruns : Prop :=
  ∀ (i : Instr) (x : HeldItem) (s : State), s.noRequest →
    arriving i = some x
      ∨ (i = .truncatedReject ∧ x = .rejection .truncated ∧ s.link.assembler ≠ .hunting) →
    (s.link.restarting = true →
      exec i s = .next { s with link := { s.link with assembler := .hunting } })
    ∧ (s.link.restarting = false → s.link.held.isSome = true →
      exec i s = .next { s with
        link := { s.link with assembler := .hunting }
        notices := { (s.notices.withPending [.link]) with
          overrun := true, overruns := if s.notices.overruns < 255 then s.notices.overruns + 1 else
            s.notices.overruns } })
    ∧ (s.link.restarting = false → s.link.held = none → 4 ≤ s.link.queue.length →
      exec i s = .next { s with link := { s.link with assembler := .hunting, held := some x } })

/-- CHECK_REJECT, LENGTH_REJECT, TRUNCATED_REJECT and BAD_KIND_FRAME complete on a link port with room: one
rejection, or one refusal with BAD_KIND, joins the queue, and nothing else changes, the silence monitor
included. A gap with no frame in hand is nothing. The model's own: log 5 and 22. -/
def Obligations.RejectionsJoinTheQueue : Prop :=
  ∀ s : State, s.noRequest →
    (s.link.restarting = false → s.link.held = none → s.link.queue.length < 4 →
      exec .checkReject s = .next { s with link := s.link.joined (.reject .check) }
      ∧ exec .lengthReject s = .next { s with link := s.link.joined (.reject .length) }
      ∧ (∀ bytes damaged, s.link.assembler = .inFrame bytes damaged →
          exec .truncatedReject s = .next { s with link := s.link.joined (.reject .truncated) })
      ∧ ∀ kind, exec (.badKindFrame kind) s
          = .next { s with link := s.link.joined (.reply { kind := kind, answer := refuse .badKind }) })
    ∧ (s.link.assembler = .hunting → exec .truncatedReject s = .next s)

/-- BYTE_RECEIVED by the assembler's condition: in HUNTING a byte other than A5h is discarded and A5h begins a
frame; in IN_FRAME a bad length byte is a LENGTH rejection, a byte short of the end is collected, and the last
byte is a CHECK rejection or the frame's completion: a command does what its command does, and a kind that is no
command kind what BAD_KIND_FRAME does. The model's own: log 5. -/
def Obligations.BytesAreAssembled : Prop :=
  ∀ (b : Byte) (stop : Bool) (s : State), s.noRequest →
    (s.link.assembler = .hunting → b ≠ 0xA5#8 → exec (.byteReceived b stop) s = .next s)
    ∧ (s.link.assembler = .hunting → b = 0xA5#8 →
        exec (.byteReceived b stop) s
          = .next { s with link := { s.link with assembler := .inFrame [] !stop } })
    ∧ (∀ damaged, s.link.assembler = .inFrame [] damaged → b.toNat = 0 ∨ 250 < b.toNat →
        exec (.byteReceived b stop) s = exec .lengthReject s)
    ∧ ∀ (bytes : List Byte) (damaged : Bool) (n : Byte) (rest : List Byte),
        s.link.assembler = .inFrame bytes damaged → bytes ++ [b] = n :: rest → 1 ≤ n.toNat → n.toNat ≤ 250 →
        (rest.length < n.toNat + 3 → exec (.byteReceived b stop) s
          = .next { s with link := { s.link with assembler := .inFrame (n :: rest) (damaged || !stop) } })
        ∧ (rest.length = n.toNat + 3 → (damaged || !stop) = true ∨
            rest.drop (n.toNat + 1) ≠ [highByte (crc16 (n :: rest.take (n.toNat + 1))),
              lowByte (crc16 (n :: rest.take (n.toNat + 1)))] →
            exec (.byteReceived b stop) s = exec .checkReject s)
        ∧ ∀ kind body, rest.length = n.toNat + 3 → (damaged || !stop) = false →
            rest.take (n.toNat + 1) = kind :: body →
            rest.drop (n.toNat + 1) = [highByte (crc16 (n :: kind :: body)), lowByte (crc16 (n :: kind :: body))] →
            (decodeFrame kind body = .badKind kind →
              exec (.byteReceived b stop) s = exec (.badKindFrame kind) s)
            ∧ ∀ i c, i.frameCommand = some c → decodeFrame kind body = .command c →
              exec (.byteReceived b stop) s = exec i s

/-- The bytes of a command's frame, received one after another by a HUNTING assembler, do exactly what the
command does. The model's own: log 5. -/
def Obligations.FrameBytesRunTheCommand : Prop :=
  ∀ (i : Instr) (c : Command) (payload : List Byte) (s : State), i.wellFormed = true →
    i.frameCommand = some c → c.payload = some payload → s.link.assembler = .hunting → s.noRequest →
    receives (frameBytes c.code payload) s = exec i s

/-- Decoding the payload a well-formed command is written as gives that command back, every operand at every
value (R188, R190). The model's own: log 26. -/
def Obligations.DecodeOfEncodeIsTheCommand : Prop :=
  ∀ (i : Instr) (c : Command) (payload : List Byte), i.wellFormed = true →
    i.frameCommand = some c → c.payload = some payload → decodeFrame c.code payload = .command c

/-- REPLY_SENT: the entry on the line leaves the queue and the transmitter goes on with the next; from a full
queue a held rejection joins, a held frame of no command kind is answered with BAD_KIND, and a held command is
executed as if it completed now, while the assembler keeps the bytes it has collected; with no entry on the line
nothing happens. The model's own: log 3 and 5. -/
def Obligations.SentEntryLeavesTheQueue : Prop :=
  ∀ s : State, s.noRequest →
    (∀ e rest, s.link.transmitter = .entry → s.link.queue = e :: rest → s.link.queue.length < 4 ∨ s.link.held = none →
      exec .replySent s = .next { s with link := { s.link with
        queue := rest, transmitter := if rest = [] then .idle else .entry } })
    ∧ (∀ e rest r, s.link.transmitter = .entry → s.link.queue = e :: rest → 4 ≤ s.link.queue.length →
        s.link.held = some (.rejection r) →
      exec .replySent s = .next { s with link := { s.link with queue := rest ++ [.reject r], held := none } })
    ∧ (∀ e rest kind, s.link.transmitter = .entry → s.link.queue = e :: rest → 4 ≤ s.link.queue.length →
        s.link.held = some (.frame (.badKind kind)) →
      exec .replySent s = .next { s with link := { s.link with
        queue := rest ++ [.reply { kind := kind, answer := refuse .badKind }], held := none } })
    ∧ (∀ e rest i c, s.link.transmitter = .entry → s.link.queue = e :: rest → s.link.queue.length = 4 →
        i.frameCommand = some c → s.link.held = some (.frame (.command c)) → s.link.restarting = false →
      ∃ t, exec i { s with link := { s.link with queue := rest, held := none } } = .next t
        ∧ exec .replySent s = .next { t with link := { t.link with assembler := s.link.assembler } })
    ∧ (s.link.transmitter ≠ .entry → exec .replySent s = .next s)

/-- RESTART is executed and answered OK, and from then on no frame is executed and no notice begun; a payload
byte of any value does (R187, R197). -/
def restartIsAnsweredAndWaits : Prop :=
  ∀ s : State, s.ready →
    ∃ t, exec (.restart (.fits .none)) s = .next t
      ∧ t.link = { s.link.joined (.reply { kind := 0x2B#8, answer := ok [] }) with restarting := true }
      ∧ t.silence = s.silence.heard s.clock ∧ unchangedBut [.link, .silence] s t

/-- RESTART is answered, waits for its reply, and then takes effect, a ROAM cycle starting at once or at the close of
the slot of a poll on the line (R40, R197). The kept queue of commands and the wait for the slot are the model's
choices. The model's own: log 6, 15, 21 and 30. -/
def Obligations.RestartWaitsThenTakesEffect : Prop := restartTakesEffectWhenDue ∧ restartIsAnsweredAndWaits

/-! ### Notices -/

/-- The blocks that keep a set or a count for a notice kind (R193). -/
def keeperOf : NoticeKind → List Block
  | .pad => [.desk]
  | .score => [.scores]
  | .cue => [.cues]
  | .board => [.board]
  | .hold | .floor | .round | .queue | .lock | .link => []

/-- What is kept for a notice kind is empty in the second state, and the rest of its keeper is as it was. -/
def keptEmptied (k : NoticeKind) (s t : State) : Prop :=
  match k with
  | .pad => t.desk = { s.desk with changed := [] }
  | .score => t.scores = { s.scores with changed := [] }
  | .cue => t.cues = { s.cues with wrapped := [] }
  | .board => t.board = { s.board with completed := 0 }
  | .link => t.notices.started = false ∧ t.notices.overrun = false ∧ t.notices.overruns = 0
  | .hold | .floor | .round | .queue | .lock => True

/-- The LINK reason set and the overrun count are as they were (R193). -/
def linkKept (s t : State) : Prop :=
  t.notices.started = s.notices.started ∧ t.notices.overrun = s.notices.overrun
    ∧ t.notices.overruns = s.notices.overruns

/-- The HOLD notice carries the condition, HELD while HOLDING and ENDED otherwise, and the period (R166); with the monitor
DISARMED, which no run comes to with HOLD pending, ENDED alone (log 20). -/
def holdNoticeCarries (s : State) : Prop :=
  (∀ period last, s.silence = .holding period last → noticeContent .hold s = [.name 0, .u8 period])
    ∧ (∀ period last deadline, s.silence = .watching period last deadline →
      noticeContent .hold s = [.name 1, .u8 period])
    ∧ (s.silence = .disarmed → noticeContent .hold s = [.name 1])

/-- The FLOOR notice carries six optional items: the holder, the pad and capture time of its claim, the answer window, the
answer deadline, the answer time left, and the team of the first contested claim behind the holder (R112, R113).  The
absence of each is the model's choice (log 12). -/
def floorNoticeCarries (s : State) : Prop :=
  (s.engine.active = none → noticeContent .floor s = List.replicate 6 (.presence false))
    ∧ ∀ c, s.engine.active = some c →
      ∃ holder claim window deadline left contested : List Item,
        noticeContent .floor s = holder ++ claim ++ window ++ deadline ++ left ++ contested
        ∧ (∀ t, c.phase = .floor → c.holder = some t → holder = [.presence true, .u8 (t.val + 1)])
        ∧ (c.phase ≠ .floor ∨ c.holder = none → holder = [.presence false])
        ∧ (∀ t q rest, c.phase = .floor → c.holder = some t → c.queue = q :: rest →
          claim = [.presence true, .u8 q.pad.val, .clock q.capture])
        ∧ (c.phase ≠ .floor ∨ c.holder = none ∨ c.queue = [] → claim = [.presence false])
        ∧ (∀ f, c.floorFields = some f → window = [.presence true, .u8 f.answerWindow])
        ∧ (c.floorFields = none → window = [.presence false])
        ∧ (∀ d, c.answerDeadline = some d → deadline = [.presence true, .clock d]
          ∧ left = [.presence true, .i32 (max (clockDiff s.clock d) 0)])
        ∧ (c.answerDeadline = none → deadline = [.presence false]
          ∧ (∀ n, c.answerRemainder = some n → left = [.presence true, .i32 n])
          ∧ (c.answerRemainder = none → left = [.presence false]))
        ∧ (∀ head before q after, c.phase = .floor → c.queue = head :: before ++ q :: after →
          (∀ x ∈ before, x.contested = false) → q.contested = true →
          contested = [.presence true, .u8 (q.team.val + 1)])
        ∧ (c.phase ≠ .floor ∨ (∀ x ∈ c.queue.tail, x.contested = false) → contested = [.presence false])

/-- The ROUND notice carries the state, the source slot and the question, and the outcome and cause; in IDLE the state alone
(R76). -/
def roundNoticeCarries (s : State) : Prop :=
  (s.engine.active = none →
      noticeContent .round s = [.name 0, .presence false, .presence false, .presence false])
    ∧ ∀ c, s.engine.active = some c →
      noticeContent .round s = [.name c.phase.code, .presence true, .slot c.source, .presence true,
        .i16 c.cue.question] ++ optItems endingItems c.ending

/-- The QUEUE notice carries the claims in order, with capture times and contested flags; none in IDLE and in a POLL context
(R108). -/
def queueNoticeCarries (s : State) : Prop :=
  (∀ c, s.engine.active = some c → c.isPoll = false → noticeContent .queue s = .count c.queue.length ::
      c.queue.flatMap fun q => [.u8 (q.team.val + 1), .clock q.capture, .flag q.contested])
    ∧ ((∀ c, s.engine.active = some c → c.isPoll = true) → noticeContent .queue s = [.count 0])

/-- The notices of the score unit: SCORE carries the changed set with the live scores and the saturated marks, LOCK the last
end cause and whether the lock is HELD (R154). -/
def scoreNoticesCarry (s : State) : Prop :=
  noticeContent .score s = .count s.scores.changed.length :: s.scores.changed.flatMap (fun m =>
      [.u8 (m.team.val + 1), .i16 (s.team m.team).score, .flag m.saturated])
    ∧ (∀ e, s.scores.lastEnd = some e → noticeContent .lock s = [.name e.code, .flag s.lockHeld])
    ∧ (s.lockHeld = true ↔ ∃ time snapshot, s.scores.lock = .held time snapshot)

/-- PAD carries the changed set with presence, LAGGING and battery-low flags (R34), BOARD the last result and the completed
count (R183), CUE the wrapped page set and the cue pointer (R67), LINK the reason set and the overrun count (R193). -/
def lineNoticesCarry (s : State) : Prop :=
  noticeContent .pad s = .count s.desk.changed.length :: s.desk.changed.flatMap (fun a =>
      [.u8 a.val, .name (s.pad a).presence.code, .flag (s.pad a).lagging, .flag (s.pad a).batteryLow])
    ∧ noticeContent .board s = optItems BoardResult.items s.board.lastResult ++ [.u8 s.board.completed]
    ∧ noticeContent .cue s = .count s.cues.wrapped.length :: s.cues.wrapped.map (fun p => .u8 p.val)
        ++ [.slot s.cues.pointer]
    ∧ noticeContent .link s = [.mask ((if s.notices.started then 1 else 0) + if s.notices.overrun then 2 else 0),
        .u8 s.notices.overruns]

/-- The content of each kind of notice, read from the state. -/
def noticesCarryTheState : Prop :=
  ∀ s : State, holdNoticeCarries s ∧ floorNoticeCarries s ∧ roundNoticeCarries s ∧ queueNoticeCarries s
    ∧ scoreNoticesCarry s ∧ lineNoticesCarry s

/-- NOTICE_BEGIN completes when a kind is enabled and pending, none of higher priority is, and the link is free:
the content is read from the state, the flag cleared and what is kept for the kind emptied, the LINK reasons and the
overrun count by LINK alone. NOTICE_END frees the transmitter. Without their occasion neither does anything. -/
def noticesGoOut : Prop :=
  ∀ s : State, s.noRequest →
    (∀ k, s.notices.eligible k = true →
        (∀ j : NoticeKind, j.code.toNat < k.code.toNat → s.notices.eligible j = false) →
        s.link.queue = [] → s.link.held = none → s.link.transmitter = .idle → s.link.restarting = false →
      happens .noticeBegin s (.link :: .notices :: keeperOf k) fun t =>
        t.link = { s.link with transmitter := .notice { kind := k, data := noticeContent k s } }
          ∧ t.notices.waiting = s.notices.waiting.put k false ∧ t.notices.enabled = s.notices.enabled
          ∧ keptEmptied k s t ∧ (k ≠ .link → linkKept s t))
    ∧ ((∀ k, s.notices.eligible k = false) ∨ s.link.queue ≠ [] ∨ s.link.held ≠ none
        ∨ s.link.transmitter ≠ .idle ∨ s.link.restarting = true → exec .noticeBegin s = .next s)
    ∧ (∀ n, s.link.transmitter = .notice n →
        exec .noticeEnd s = .next { s with link := { s.link with
          transmitter := if s.link.queue = [] then .idle else .entry } })
    ∧ ((∀ n, s.link.transmitter ≠ .notice n) → exec .noticeEnd s = .next s)

/-- NOTICE_BEGIN and NOTICE_END send the notice of highest priority, which carries what its rule says of the state (R34,
R67, R76, R108, R112, R154, R166, R183, R193, R194). The model's own: log 3, 12 and 20. -/
def Obligations.NoticesBeginAndEnd : Prop := noticesGoOut ∧ noticesCarryTheState

/-- NOTICE_ENABLE sets or clears the enable flags of the kinds named, OFF also discards what is pending for them
with the sets and counts kept, and NOTICE_CLEAR discards without touching the enable flags. The reply carries
the flags of all ten kinds; a kind that is none of the ten is refused. The model's own: log 12. -/
def Obligations.NoticeFlagsAreSetAndDiscarded : Prop :=
  ∀ s : State, s.ready →
    (∀ target ks, noticeKindsOf target = some ks →
      (∃ a, completes (.noticeEnable (.fits { target := target, on := true })) s 0x2C#8 a [.notices] fun t =>
        a = ok (flagItems t) ∧ t.notices.waiting = s.notices.waiting
          ∧ (∀ k, t.notices.enabled.get k = (decide (k ∈ ks) || s.notices.enabled.get k))
          ∧ linkKept s t)
      ∧ (∃ a, completes (.noticeEnable (.fits { target := target, on := false })) s 0x2C#8 a
          (.notices :: ks.flatMap keeperOf) fun t =>
        a = ok (flagItems t)
          ∧ (∀ k, t.notices.enabled.get k = (decide (k ∉ ks) && s.notices.enabled.get k))
          ∧ (∀ k, t.notices.waiting.get k = (decide (k ∉ ks) && s.notices.waiting.get k))
          ∧ (∀ k ∈ ks, keptEmptied k s t) ∧ (.link ∉ ks → linkKept s t))
      ∧ (∃ a, completes (.noticeClear (.fits target)) s 0x2D#8 a (.notices :: ks.flatMap keeperOf) fun t =>
        a = ok (flagItems t) ∧ t.notices.enabled = s.notices.enabled
          ∧ (∀ k, t.notices.waiting.get k = (decide (k ∉ ks) && s.notices.waiting.get k))
          ∧ (∀ k ∈ ks, keptEmptied k s t) ∧ (.link ∉ ks → linkKept s t)))
    ∧ ∀ target on, noticeKindsOf target = none →
        completes (.noticeEnable (.fits { target := target, on := on })) s 0x2C#8 (refuse .badValue) []
          (fun _ => True)
        ∧ completes (.noticeClear (.fits target)) s 0x2D#8 (refuse .badValue) [] (fun _ => True)

/-! ### The laws of the blocks, kept by every step -/

/-- Scores stay within -9999 to +9999 and counts within 0 to 255 (R1, R143). -/
def scoresStayInRange : Prop :=
  ∀ s t : State, s.scoresInRange → step s = .next t → t.scoresInRange

/-- Awards wait only behind a held lock, at most 16 of them (R149). -/
def awardsStayBehindTheLock : Prop :=
  ∀ s t : State, s.awardsBehindLock → step s = .next t → t.awardsBehindLock

/-- The SCORE changed set comes to hold no team twice (R141, R154). -/
def changedTeamsStayDistinct : Prop :=
  ∀ s t : State, s.changedAscending → step s = .next t → t.changedAscending

/-- The score unit keeps its three laws (R143, R149, R154). -/
def Obligations.ScoreUnitStaysLawful : Prop :=
  scoresStayInRange ∧ awardsStayBehindTheLock ∧ changedTeamsStayDistinct

/-- The context stack keeps its bound of 3, and its third place its origin (R157). -/
def Obligations.StackStaysBounded : Prop :=
  ∀ s t : State, s.stackBounded → step s = .next t → t.stackBounded

/-- BASE routes never come to share a cell (R175), and no event leaves a request for a publish behind (the model's
own mark, log 18). -/
def Obligations.RoutesStayDisjoint : Prop :=
  ∀ s t : State, s.routesDisjoint → s.noRequest → step s = .next t → t.routesDisjoint ∧ t.noRequest

/-- No team comes to have more than 8 pads or two pads at one seat (R11). -/
def Obligations.PadsStayLawful : Prop :=
  ∀ s t : State, s.padsLawful → step s = .next t → t.padsLawful

/-- The reply queue, held item and transmitter stay consistent (R192, R194). -/
def Obligations.LinkStaysSound : Prop :=
  ∀ s t : State, s.linkSound → step s = .next t → t.linkSound

/-- The windows, the claim queue and the holder of every context stay sound, and the active context is held
exactly in a hold (R99, R110, R157, R166, R167). -/
def Obligations.RoundsStaySound : Prop :=
  ∀ s t : State, s.roundsSound → step s = .next t → t.roundsSound

/-- OPEN, SETTLING, FLOOR and CLOSING are left before the line returns to ROAM (R96).  The saved contexts are sound,
which RoundsStaySound states of every step. -/
def Obligations.LiveRoundsStayAtSprint : Prop :=
  ∀ s t : State, s.liveAtSprint → s.roundsSound → step s = .next t → t.liveAtSprint

/-- A ballot keeps one entry for each eligible team (R125, R126). -/
def Obligations.BallotsStayFit : Prop :=
  ∀ s t : State, s.ballotsFit → step s = .next t → t.ballotsFit

/-- The machine after reset keeps every law. The model's own: log 8. -/
def Obligations.LawsHoldAtReset : Prop :=
  State.reset.scoresInRange ∧ State.reset.awardsBehindLock ∧ State.reset.changedAscending
    ∧ State.reset.stackBounded
    ∧ State.reset.routesDisjoint ∧ State.reset.noRequest ∧ State.reset.padsLawful ∧ State.reset.linkSound
    ∧ State.reset.roundsSound ∧ State.reset.liveAtSprint ∧ State.reset.ballotsFit

/-! ### Operands and clock values -/

/-- Clock values are compared by their signed difference modulo 2^32 (R42). The model's own: log 23. -/
def Obligations.ClockValuesCompareBySignedDifference : Prop :=
  ∀ a b : ClockValue,
    -(2 ^ 31 : Int) ≤ clockDiff a b ∧ clockDiff a b < 2 ^ 31
      ∧ (clockDiff a b - ((b.toNat : Int) - a.toNat)) % (2 ^ 32 : Int) = 0
      ∧ (earlier a b = true ↔ 0 < clockDiff a b) ∧ (a = b ↔ clockDiff a b = 0)
      ∧ (clockDiff a b < 0 → clockDiff a b ≠ -(2 ^ 31 : Int) → earlier b a = true)
      ∧ (reached a b = true ↔ clockDiff a b ≤ 0)
      ∧ (ticksLeft a b : Int) = max (clockDiff a b) 0

/-- The numbers of operands stand for what R188 gives them, and no others are taken. -/
def Obligations.OperandsReadTheirRanges : Prop :=
  (∀ (b : Byte) (t : TeamId), teamOf b = some t ↔ b.toNat = t.val + 1)
    ∧ (∀ (b : Byte) (a : PadAddr), padOf b = some a ↔ b.toNat = a.val)
    ∧ (∀ (b : Byte) (n : Seat), seatOf b = some n ↔ b.toNat = n.val + 1)
    ∧ (∀ (b : Byte) (x : SlotId), slotOf b = some x ↔ b.toNat = 16 * (pageOfSlot x).val + x.val % 16)
    ∧ (∀ (b : Byte) (p : PanelId), panelOf b = some p ↔ b.toNat = p.val)
    ∧ (∀ (b : Byte) (n : RouteId), routeOf b = some n ↔ b.toNat = n.val)
    ∧ (∀ (b : Byte) (low high n : Nat), within low high b = some n ↔ b.toNat = n ∧ low ≤ n ∧ n ≤ high)
    ∧ ∀ (h : Half) (low high z : Int), signedWithin low high h = some z ↔ h.toInt = z ∧ low ≤ z ∧ z ≤ high

/-! ### Commands of the desk roster, the desk line and the press capture unit -/

/-- TEAM_SET writes the state and the tag given, leaves an omitted part and every other team alone, and answers
with both as they stand.  It is refused with BAD_VALUE for a bad value and with FLOOR_HELD where it would take
the floor holder out of play. -/
def teamSetWritesStateAndTag : Prop :=
  ∀ (s : State) (args : TeamSetArgs), s.ready →
    (∀ t state tag, teamOf args.team = some t → newStateOf args.state = some state →
        newTagOf args.tag = some tag → ¬(leavesPlay state = true ∧ s.holder = some t) →
        (s.teamPresent t = true → leavesPlay state = true →
          ∀ c, s.engine.active = some c → c.hasClaim t = false) →
      completes (.teamSet (.fits args)) s 0x01#8
        (ok (.name (state.getD (s.team t).state).code :: optItems glyphsItems (tag.getD (s.team t).tag)))
        [.teams] fun u =>
          (u.team t = { s.team t with state := state.getD (s.team t).state, tag := tag.getD (s.team t).tag })
            ∧ ∀ n, n ≠ t → u.team n = s.team n)
    ∧ (∀ t state tag, teamOf args.team = some t → newStateOf args.state = some state →
        newTagOf args.tag = some tag → leavesPlay state = true → s.holder = some t →
      completes (.teamSet (.fits args)) s 0x01#8 (refuse .floorHeld) [] fun _ => True)
    ∧ (teamOf args.team = none ∨ newStateOf args.state = none ∨ newTagOf args.tag = none →
      completes (.teamSet (.fits args)) s 0x01#8 (refuse .badValue) [] fun _ => True)

/-- A team that TEAM_SET moves out of PRESENT loses its claim by the course of CLAIM_DROP: in SETTLING and FLOOR
the engine, the stack, the scores and the desk line come out as CLAIM_DROP leaves them on the changed team
table. -/
def benchingDropsTheClaim : Prop :=
  ∀ (s : State) (args : TeamSetArgs) (t : TeamId) (state : Option TeamState)
    (tag : Option (Option (List Glyph))) (c : Context), s.ready →
    teamOf args.team = some t → newStateOf args.state = some state → newTagOf args.tag = some tag →
    s.teamPresent t = true → leavesPlay state = true → s.engine.active = some c → c.hasClaim t = true →
    c.holder ≠ some t → c.isPoll = false → c.phase = .settling ∨ c.phase = .floor →
    ∃ u v, exec (.teamSet (.fits args)) s = .next u
      ∧ exec (.claimDrop (.fits args.team)) (s.setTeam t ((s.team t).withStateTag state tag)) = .next v
      ∧ u.roster = v.roster ∧ u.engine = v.engine ∧ u.stack = v.stack ∧ u.scores = v.scores
      ∧ u.desk = v.desk ∧ u.notices = v.notices ∧ u.board = v.board ∧ u.clock = s.clock
      ∧ u.cues = s.cues ∧ u.debounce = s.debounce
      ∧ (u.team t).state ≠ .present ∧ ∀ d, u.engine.active = some d → d.hasClaim t = false

/-- In any other state of the round the claim is removed and nothing further follows. -/
def benchingRemovesAKeptClaim : Prop :=
  ∀ (s : State) (args : TeamSetArgs) (t : TeamId) (state : Option TeamState)
    (tag : Option (Option (List Glyph))) (c : Context), s.ready →
    teamOf args.team = some t → newStateOf args.state = some state → newTagOf args.tag = some tag →
    s.teamPresent t = true → leavesPlay state = true → s.engine.active = some c → c.hasClaim t = true →
    c.holder ≠ some t → c.phase ≠ .settling → c.phase ≠ .floor →
    completes (.teamSet (.fits args)) s 0x01#8
      (ok (.name (state.getD (s.team t).state).code :: optItems glyphsItems (tag.getD (s.team t).tag)))
      [.teams, .board, .notices, .engine] fun u =>
        (u.team t = { s.team t with state := state.getD (s.team t).state, tag := tag.getD (s.team t).tag })
          ∧ (∀ n, n ≠ t → u.team n = s.team n)
          ∧ u.engine = { s.engine with active := some { c with queue := c.queue.filter fun q => q.team != t } }
          ∧ signals [.queue] s u

/-- TEAM_SET writes what it is given, and benching a team removes its claim (R3, R4). The model's own: log 9 and
12. -/
def Obligations.TeamSetActs : Prop :=
  teamSetWritesStateAndTag ∧ benchingDropsTheClaim ∧ benchingRemovesAKeptClaim

/-- PAD_ASSIGN gives a pad its override or releases it, and refuses a bad value, a full team and a taken seat in
that order. Only that pad's assignment changes, and its candidate where its team or seat does (R12, R13, R15).
The model's own: log 12. -/
def Obligations.PadAssignGivesThePlace : Prop :=
  ∀ (s : State) (args : PadAssignArgs), s.ready →
    (∀ a team seat t n, args.target = .place team seat → padOf args.pad = some a → teamOf team = some t →
        seatOf seat = some n →
        (8 ≤ (s.otherPadsOfTeam t a).length →
          completes (.padAssign (.fits args)) s 0x02#8 (refuse .teamFull) [] fun _ => True)
        ∧ ((s.otherPadsOfTeam t a).length < 8 → (∃ b, b ≠ a ∧ s.placeOf b = some ⟨t, n⟩) →
          completes (.padAssign (.fits args)) s 0x02#8 (refuse .seatTaken) [] fun _ => True)
        ∧ ((s.otherPadsOfTeam t a).length < 8 → (∀ b, b ≠ a → s.placeOf b ≠ some ⟨t, n⟩) →
          completes (.padAssign (.fits args)) s 0x02#8
            (ok (optItems placeItems (s.placeOf a) ++ placeItems ⟨t, n⟩)) [.pads] fun u =>
              u.pad a = { s.pad a with
                assignment := .override ⟨t, n⟩
                candidate := if s.placeOf a = some ⟨t, n⟩ then (s.pad a).candidate else none }
              ∧ ∀ b, b ≠ a → u.pad b = s.pad b))
    ∧ (∀ a, args.target = .release → padOf args.pad = some a →
        completes (.padAssign (.fits args)) s 0x02#8 (ok (optItems placeItems (s.placeOf a))) [.pads] fun u =>
          u.pad a = { s.pad a with
            assignment := .released
            candidate := if s.placeOf a = none then (s.pad a).candidate else none }
          ∧ ∀ b, b ≠ a → u.pad b = s.pad b)
    ∧ (padOf args.pad = none ∨ (∃ team seat, args.target = .place team seat
          ∧ (teamOf team = none ∨ seatOf seat = none)) →
        completes (.padAssign (.fits args)) s 0x02#8 (refuse .badValue) [] fun _ => True)

/-- LAYOUT_SET needs an IDLE engine and an empty stack, and gives every pad its default under the new mode;
PAD_FORGET needs a LOST pad, and makes it ABSENT (R14, R15, R16). -/
def layoutSetAndPadForgetAct : Prop :=
  ∀ (s : State) (b : Byte), s.ready →
    (∀ m, layoutOf b = some m → s.engine.active = none → s.stack = [] →
      completes (.layoutSet (.fits b)) s 0x03#8 (ok []) [.pads, .layout] fun t =>
        t.roster.layout = m ∧ ∀ a, t.placeOf a = defaultPlace m a
          ∧ t.pad a = { s.pad a with
              assignment := .byDefault
              candidate := if defaultPlace m a = s.placeOf a then (s.pad a).candidate else none })
    ∧ (layoutOf b = none → completes (.layoutSet (.fits b)) s 0x03#8 (refuse .badValue) [] fun _ => True)
    ∧ (layoutOf b ≠ none → s.engine.active ≠ none ∨ s.stack ≠ [] →
      completes (.layoutSet (.fits b)) s 0x03#8 (refuse .wrongState) [] fun _ => True)
    ∧ (∀ a, padOf b = some a → (s.pad a).presence = .lost →
      completes (.padForget (.fits b)) s 0x04#8 (ok []) [.pads] fun t =>
        t.pad a = { s.pad a with presence := .absent, misses := 0, batteryLow := false }
          ∧ ∀ n, n ≠ a → t.pad n = s.pad n)
    ∧ (∀ a, padOf b = some a → (s.pad a).presence ≠ .lost →
      completes (.padForget (.fits b)) s 0x04#8 (refuse .wrongState) [] fun _ => True)
    ∧ (padOf b = none → completes (.padForget (.fits b)) s 0x04#8 (refuse .badValue) [] fun _ => True)

/-- The layout modes give the default teams and seats of R9, counted from 1. -/
def layoutModesGiveTheirDefaults : Prop :=
  ∀ (a : PadAddr) (t : TeamId) (n : Seat),
    (defaultPlace .grid16 a = some ⟨t, n⟩ ↔ t.val + 1 = a.val / 4 + 1 ∧ n.val + 1 = a.val % 4 + 1)
    ∧ (defaultPlace .grid8 a = some ⟨t, n⟩ ↔ t.val + 1 = a.val / 8 + 1 ∧ n.val + 1 = a.val % 8 + 1)
    ∧ (defaultPlace .split a = some ⟨t, n⟩ ↔
        (a.val < 32 → t.val + 1 = a.val / 4 + 1 ∧ n.val + 1 = a.val % 4 + 1)
        ∧ (32 ≤ a.val → t.val + 1 = 9 + (a.val - 32) / 8 ∧ n.val + 1 = a.val % 8 + 1))
    ∧ defaultPlace .free a = none

/-- LAYOUT_SET and PAD_FORGET act as R14 to R16 say, with the defaults of R9. -/
def Obligations.LayoutAndForgetAct : Prop := layoutSetAndPadForgetAct ∧ layoutModesGiveTheirDefaults

/-- The queries and KEEPALIVE complete in every state their rules admit, answer what they read, and change nothing
but the link port and the silence monitor's count. -/
def queriesReportAndChangeNothing : Prop :=
  ∀ s : State, s.ready →
    (∀ b t, teamOf b = some t →
      completes (.queryTeam (.fits b)) s 0x05#8 (ok (teamReport s t)) [] fun _ => True)
    ∧ (∀ b a, padOf b = some a →
      completes (.queryPad (.fits b)) s 0x06#8 (ok (padReport s a)) [] fun _ => True)
    ∧ completes (.queryDesk (.fits .none)) s 0x09#8 (ok (deskReport s)) [] (fun _ => True)
    ∧ completes (.queryClock (.fits .none)) s 0x0B#8 (ok [.clock s.clock, .u8 s.debounce]) [] (fun _ => True)
    ∧ (∀ b x, slotOf b = some x →
      completes (.queryCue (.fits (.slot b))) s 0x0F#8 (ok (slotReport s x)) [] fun _ => True)
    ∧ (∀ b p, pageOf b = some p →
      completes (.queryCue (.fits (.page b))) s 0x0F#8 (ok (pageReport s p)) [] fun _ => True)
    ∧ (s.engine.active = none → completes (.queryRound (.fits .none)) s 0x15#8
        (ok [.name 0, .u8 (s.engine.tiePointer.val + 1), .u8 s.stack.length]) [] fun _ => True)
    ∧ (∀ c, s.engine.active = some c →
      completes (.queryRound (.fits .none)) s 0x15#8 (ok (roundReport s c)) [] fun _ => True)
    ∧ (∀ c, s.engine.active = some c → c.isPoll = false →
      completes (.queryQueue (.fits .none)) s 0x18#8 (ok (queueReport s c)) [] fun _ => True)
    ∧ (∀ c f b, s.engine.active = some c → c.pollFields = some f → c.ballot = some b →
      completes (.queryBallot (.fits .none)) s 0x1A#8 (ok (ballotReport s c f b)) [] fun _ => True)
    ∧ completes (.queryAwards (.fits .none)) s 0x1E#8 (ok (awardsReport s)) [] (fun _ => True)
    ∧ completes (.queryStack (.fits .none)) s 0x22#8
        (ok ([.u8 s.stack.length] ++ .count s.stack.length :: savedReports s.stack ++ silenceItems s.silence)) []
        (fun _ => True)
    ∧ completes (.queryBoard (.fits none)) s 0x28#8 (ok (boardReport s)) [] (fun _ => True)
    ∧ (∀ b p, panelOf b = some p → completes (.queryBoard (.fits (some b))) s 0x28#8
        (ok (optItems (listItems cellItems) (s.panel p).shown)) [] fun _ => True)
    ∧ completes (.identify (.fits .none)) s 0x29#8 (ok (identifyReport s)) [] (fun _ => True)
    ∧ completes (.keepalive (.fits .none)) s 0x2A#8 (ok []) [] (fun _ => True)

/-- The queries of a value out of range are refused with BAD_VALUE, and those of the claim queue or the ballot
without a context of their kind with WRONG_STATE (R17, R18, R69, R70, R123, R140, R184). -/
def queriesAreRefused : Prop :=
  ∀ (s : State) (b : Byte), s.ready →
    (teamOf b = none → completes (.queryTeam (.fits b)) s 0x05#8 (refuse .badValue) [] fun _ => True)
    ∧ (padOf b = none → completes (.queryPad (.fits b)) s 0x06#8 (refuse .badValue) [] fun _ => True)
    ∧ (slotOf b = none → completes (.queryCue (.fits (.slot b))) s 0x0F#8 (refuse .badValue) [] fun _ => True)
    ∧ (pageOf b = none → completes (.queryCue (.fits (.page b))) s 0x0F#8 (refuse .badValue) [] fun _ => True)
    ∧ ((∀ c, s.engine.active = some c → c.isPoll = true) →
      completes (.queryQueue (.fits .none)) s 0x18#8 (refuse .wrongState) [] fun _ => True)
    ∧ ((∀ c, s.engine.active = some c → c.isPoll = false) →
      completes (.queryBallot (.fits .none)) s 0x1A#8 (refuse .wrongState) [] fun _ => True)
    ∧ (panelOf b = none → completes (.queryBoard (.fits (some b))) s 0x28#8 (refuse .badValue) [] fun _ => True)

/-- The pads of a team: those whose effective assignment names it (R6, R11). -/
def padsAssigned (s : State) (t : TeamId) : List PadAddr :=
  (List.finRange 64).filter fun a => decide ((s.placeOf a).map Place.team = some t)

/-- The PRESENT teams placed before a team in the live rank order (R7). -/
def teamsAhead (s : State) (t : TeamId) : List TeamId :=
  (List.finRange 16).filter fun u => decide ((s.team u).state = .present
    ∧ ((s.team t).score < (s.team u).score ∨ ((s.team u).score = (s.team t).score ∧ u < t)))

/-- QUERY_TEAM reports the record of a team, its pad counts and its place in the live rank order (R6, R7, R17). -/
def teamsAreReported : Prop :=
  ∀ (s : State) (t : TeamId),
    let r := s.team t
    let inState := fun p : PadPresence =>
      ((padsAssigned s t).filter fun a => decide ((s.pad a).presence = p)).length
    teamReport s t =
      [.u8 (t.val + 1), .name r.state.code]
        ++ optItems (fun l => .count l.length :: l.map fun g => .u8 g.val) r.tag
        ++ [.i16 r.score, .u8 r.correct, .u8 r.wrong, .u8 r.streak]
        ++ optItems (fun a => [.i16 a.points, .name a.cause.code]) r.last
        ++ [.u8 (padsAssigned s t).length, .u8 (inState .present), .u8 (inState .lost)]
        ++ optItems (fun n => [.u8 n])
            (if r.state = .present then some ((teamsAhead s t).length + 1) else none)

/-- A number of pads with a presence, by address. -/
def padsIn (s : State) (p : PadPresence) : List PadAddr :=
  (List.finRange 64).filter fun a => decide ((s.pad a).presence = p)

/-- The keys of a bitmap as bits from BUZZ up (R188). -/
def keyBits (k : Keys) : Nat :=
  (if k.buzz then 1 else 0) + (if k.a then 2 else 0) + (if k.b then 4 else 0) + (if k.c then 8 else 0)
    + if k.d then 16 else 0

/-- QUERY_PAD reports the record of a pad, its default and effective places and the lamp state it will be sent, and
QUERY_DESK the desk line (R11, R18, R36). -/
def padsAreReported : Prop :=
  ∀ (s : State) (a : PadAddr),
    let r := s.pad a
    let place := fun p : Place => [Item.u8 (p.team.val + 1), .u8 (p.seat.val + 1)]
    (r.assignment = .byDefault → s.placeOf a = defaultPlace s.roster.layout a)
    ∧ (∀ p, r.assignment = .override p → s.placeOf a = some p)
    ∧ (r.assignment = .released → s.placeOf a = none)
    ∧ padReport s a =
      [.u8 a.val, .name s.roster.layout.code, .name r.presence.code, .u8 r.misses, .flag r.lagging,
          .flag r.batteryLow, .name r.assignment.code]
        ++ optItems place (defaultPlace s.roster.layout a) ++ optItems place (s.placeOf a)
        ++ optItems (fun l => [.name l.code]) r.lampOverride
        ++ [.name (s.lampFor a).code, .mask (keyBits r.keys)]
        ++ optItems (fun c => [.mask (keyBits c.changed), .u8 c.agreeing]) r.candidate
    ∧ deskReport s =
      [.name (if s.desk.speed = .roam then 0 else 1), .name s.desk.setting.code,
          .flag (needFor .auto s.engine.active)]
        ++ optItems (fun w => .u8 w.completed ::
            (let left := (padsIn s .present).filter fun b => !w.echoed.contains b
            .count left.length :: left.map fun b => .u8 b.val)) s.desk.switch
        ++ [.u8 s.desk.pointer.val, .clock s.desk.sprintCount, .u8 (padsIn s .absent).length,
            .u8 (padsIn s .present).length, .u8 (padsIn s .lost).length]
        ++ (let lagging := (List.finRange 64).filter fun b => (s.pad b).lagging
          [.u8 lagging.length, .count lagging.length] ++ lagging.map fun b => .u8 b.val)

/-- A cue record carries the fields of R58 and then each field of R59 as an optional item (R188). -/
def cuesAreWritten : Prop :=
  ∀ c : Cue,
    let common := [.name c.part.kind.code, .i16 c.question, .i16 c.correctPoints, .i16 c.wrongPoints,
      .i16 c.roundWindow] ++ optItems teamsItems c.eligible
    let floor := fun f : FloorFields => [Item.presence true, .u8 f.answerWindow, .presence true, .flag f.rebound,
      .presence true, .name f.expiry.code]
    let absent := fun n => List.replicate n (Item.presence false)
    (∀ f n, c.part = .buzz f n → cueItems c = common ++ floor f ++ [.presence true, .u8 n] ++ absent 5)
    ∧ (∀ f, c.part = .tiebreak f → cueItems c = common ++ floor f ++ absent 6)
    ∧ (∀ p, c.part = .poll p → cueItems c = common ++ absent 4 ++ [.presence true, .u8 p.options]
        ++ optItems (fun o => [.name o.code]) p.correct
        ++ [.presence true, .name p.policy.code, .presence true, .u8 p.places, .presence true, .u8 p.placePoints])

/-- QUERY_CUE reports a slot, or the 16 slots of a page, with the pointer and the wrapped page set (R69, R70). -/
def cuesAreReported : Prop :=
  ∀ s : State,
    let pointer := .slot s.cues.pointer :: .count s.cues.wrapped.length :: s.cues.wrapped.map fun p => Item.u8 p.val
    (∀ x, slotReport s x = .name (s.cueSlot x).code :: optItems cueItems (s.cueSlot x).record
        ++ [.flag (decide (s.cues.pointer = x))] ++ pointer)
    ∧ ∀ p : Page, pageReport s p =
      (((List.finRange 64).filter fun x => decide (x.val / 16 = p.val)).flatMap fun x =>
        .name (s.cueSlot x).code
          :: optItems (fun c => [.name c.part.kind.code, .i16 c.question]) (s.cueSlot x).record) ++ pointer

/-- The round time left as R86 reports it: while the window runs, the deadline less the clock or 0, and otherwise the round
time remaining. -/
def timeLeft (now : ClockValue) (c : Context) : Option Int :=
  match c.roundDeadline with
  | some d => some (max (clockDiff now d) 0)
  | none => c.roundRemaining.map fun n => (n : Int)

/-- QUERY_ROUND reports the active context (R86, R97). -/
def roundsAreReported : Prop :=
  ∀ (s : State) (c : Context),
    roundReport s c =
      [.name c.phase.code, .flag c.held, .slot c.source] ++ cueItems c.cue
        ++ teamsItems c.eligible ++ teamsItems c.lockout ++ teamsItems c.overflow
        ++ [.u8 c.queue.length] ++ optItems teamItem c.holder
        ++ [.name (match c.roundDeadline, c.roundRemaining with
            | some _, _ => 1
            | none, some _ => 2
            | none, none => 0)]
        ++ optItems (fun z => [.i32 z]) (timeLeft s.clock c)
        ++ optItems (fun d => [.clock d]) c.roundDeadline
        ++ optItems (fun d => [.i32 (max (clockDiff s.clock d) 0), .clock d]) c.answerDeadline
        ++ optItems (fun d => [.clock d]) c.openInstant ++ optItems (fun d => [.clock d]) c.closeInstant
        ++ [.flag c.flashing] ++ optItems endingItems c.ending
        ++ [.u8 (s.engine.tiePointer.val + 1), .u8 s.stack.length]

/-- QUERY_QUEUE reports the claims with the cycles each has been queued, and whether the head is settled (R99, R109,
R123). -/
def queuesAreReported : Prop :=
  ∀ (s : State) (c : Context),
    let queued := fun q : Claim => (s.desk.sprintCount - q.joinCycle).toNat
    queueReport s c =
      .name c.phase.code :: optItems teamItem c.holder
        ++ optItems (fun d => [.clock d, .i32 (max (clockDiff s.clock d) 0)]) c.answerDeadline
        ++ [.flag c.flashing] ++ .count c.queue.length :: (c.queue.zipIdx.flatMap fun x =>
            [.u8 (x.2 + 1), .u8 (x.1.team.val + 1), .u8 x.1.pad.val, .clock x.1.capture, .clock x.1.joinCycle,
              .i32 (queued x.1), .flag x.1.contested])
        ++ optItems (fun q => [.flag (decide (s.debounce + 1 ≤ queued q))]) c.queue.head?
        ++ teamsItems c.overflow ++ teamsItems c.lockout
        ++ [.u8 (s.engine.tiePointer.val + 1), .clock s.desk.sprintCount, .u8 (s.debounce + 1)]

/-- QUERY_BALLOT reports the ballot table, in CLOSING with the cycles completed since the close, and after REVEAL with the
skipped flags (R132, R140). -/
def ballotsAreReported : Prop :=
  ∀ (s : State) (c : Context) (f : PollFields) (b : Ballot),
    ballotReport s c f b =
      [.name c.phase.code, .flag c.held, .u8 f.options, .name f.policy.code]
        ++ optItems (fun o => [.name o.code]) f.correct ++ optItems (fun d => [.clock d]) c.closeInstant
        ++ optItems (fun e => [.name (if e = .called then 1 else 0)]) b.closeCause
        ++ optItems (fun n => [.clock n]) b.startCount ++ [.u8 (s.debounce + 1)]
        ++ optItems (fun n => [.u8 (s.desk.sprintCount - n).toNat])
            (if c.phase = .closing then b.startCount else none)
        ++ .count b.entries.length :: (b.entries.flatMap fun e =>
            [.u8 (e.team.val + 1), .name (s.team e.team).state.code]
              ++ optItems (fun v => [.name v.choice.code]) e.vote ++ optItems (fun v => [.clock v.capture]) e.vote
              ++ optItems (fun v => [.clock v.firstCapture]) e.vote ++ [.u8 e.changes]
              ++ if c.phase = .revealed then [.presence true, .flag e.skipped] else [.presence false])
        ++ optItems (fun x : Tallies => optItems (fun n => [.u8 n]) x.counts[0]?
            ++ optItems (fun n => [.u8 n]) x.counts[1]? ++ optItems (fun n => [.u8 n]) x.counts[2]?
            ++ optItems (fun n => [.u8 n]) x.counts[3]? ++ [.u8 x.noChoice]) b.tallies
        ++ optItems (fun o => [.name o.code]) b.revealed ++ teamsItems b.places
        ++ [.u8 (s.engine.tiePointer.val + 1)]

/-- QUERY_AWARDS reports the lock with its lapse time and time left, the waiting awards, the snapshot with the rank order
formed from it, the changed set and the last end cause (R156); that the live scores are left out is the model's choice
(log 31). -/
def awardsAreReported : Prop :=
  ∀ s : State,
    let pending := .count s.scores.pendingAwards.length :: (s.scores.pendingAwards.flatMap fun a =>
        [Item.u8 (a.team.val + 1), .i16 a.points, .name a.cause.code]
          ++ optItems (fun n : Nat => [.i16 n]) a.question ++ optItems (fun n => [.u8 n]) a.bonus)
      ++ [.u8 s.scores.pendingAwards.length]
    let changed := .count s.scores.changed.length :: (s.scores.changed.flatMap fun m =>
        [Item.u8 (m.team.val + 1), .flag m.saturated])
      ++ optItems (fun e => [.name e.code]) s.scores.lastEnd
    (s.scores.lock = .free →
      awardsReport s = [.name 0, .presence false] ++ pending ++ [.presence false] ++ changed)
    ∧ ∀ time snapshot, s.scores.lock = .held time snapshot →
      awardsReport s = [.name 1, .presence true, .clock time, .i32 (clockDiff s.clock time)] ++ pending
        ++ [.presence true] ++ ((List.finRange 16).map fun t => .i16 (look snapshot t))
        ++ teamsItems s.boardRanks ++ changed

/-- QUERY_STACK reports the saved contexts from the top down and the silence monitor (R170). -/
def stacksAreReported : Prop :=
  ∀ s : State,
    savedReports s.stack = (s.stack.zipIdx.flatMap fun x =>
      let c := x.1.context
      [.u8 (s.stack.length - x.2), .name x.1.origin.code, .name c.phase.code, .slot c.source,
          .name c.cue.part.kind.code, .i16 c.cue.question]
        ++ optItems (fun n : Nat => [.i32 n]) c.roundRemaining
        ++ teamsItems c.eligible ++ teamsItems c.lockout ++ teamsItems c.overflow
        ++ optItems (fun b => [.u8 (b.entries.filter fun e => decide (e.vote ≠ none)).length]) c.ballot)
    ∧ (s.silence = .disarmed → silenceItems s.silence = [.name 0, .presence false])
    ∧ (∀ period last deadline, s.silence = .watching period last deadline →
      silenceItems s.silence = [.name 1, .presence true, .u8 period])
    ∧ ∀ period last, s.silence = .holding period last →
      silenceItems s.silence = [.name 2, .presence true, .u8 period]

/-- QUERY_BOARD reports the panels, the line operation, each route held with all its fields and whether its condition holds,
and the last result (R175, R183, R184). -/
def boardsAreReported : Prop :=
  ∀ s : State,
    boardReport s =
      ((List.finRange 4).flatMap fun p => .name (s.panel p).presence.code
          :: optItems (fun n => [.u8 n]) (s.panel p).cells ++ [.flag (decide ((s.panel p).shown = none))])
        ++ [.name (match s.board.operation with
            | .idle => 0
            | .publish _ _ _ _ => 1
            | .scan _ => 2), .flag s.board.again, .flag s.board.auto]
        ++ listItems (fun x : RouteId × Route => [.u8 x.1.val] ++ x.2.source.items
              ++ [.u8 x.2.panel.val, .u8 x.2.first, .u8 x.2.width, .name x.2.align.code, .name x.2.fill.code,
                .name x.2.look.code]
              ++ (match x.2.layer with
                | .base => [.name 0]
                | .overlay k => [.name 1, .name k.code])
              ++ (match x.2.source with
                | .text l => .presence true :: .count l.length :: l.map fun g => .u8 g.val
                | _ => [.presence false])
              ++ match x.2.layer with
                | .base => [.presence false]
                | .overlay k => [.presence true, .flag (s.conditionHolds k)])
            ((List.finRange 32).filterMap fun n => (s.route n).map fun r => (n, r))
        ++ optItems BoardResult.items s.board.lastResult ++ [.u8 s.board.completed]
    ∧ (∀ results total, BoardResult.items (.publish results total) = .name 0 :: results.flatMap (fun
          | .skipped => [.name 0]
          | .nothing => [.name 1]
          | .sent n => [.name 2, .u8 n]
          | .fault n => [.name 3, .u8 n]) ++ [.u8 total])
    ∧ ∀ results, BoardResult.items (.scan results) = .name 1 :: results.flatMap fun r =>
        .name r.presence.code :: optItems (fun n => [.u8 n]) r.cells

/-- IDENTIFY reports the part: its codes, its revision letter, which is a free value (log 14), its capacities, the link rate
and the cause of the last reset (R196). -/
def partsAreIdentified : Prop :=
  ∃ revision : Byte, ∀ s : State, identifyReport s =
    [.byte 0x57#8, .byte 0x24#8, .byte revision, .u8 16, .u8 64, .u8 8, .u8 64, .u8 8, .u8 3, .u8 16, .u8 4,
      .u8 32, .u8 4, .i32 (if s.link.rate = .slow then 115200 else 460800), .name s.cause.code]

/-- Optional items, lists and sets of teams are laid out as R188 says. -/
def itemsAreLaidOut : Prop :=
  (∀ (α : Type) (f : α → List Item) (a : α), optItems f none = [.presence false]
      ∧ optItems f (some a) = .presence true :: f a)
    ∧ (∀ (α : Type) (f : α → List Item) (l : List α), listItems f l = .count l.length :: l.flatMap f)
    ∧ (∀ t, teamItem t = [.u8 (t.val + 1)])
    ∧ ∀ l : List TeamId, teamsItems l = .count l.length :: l.map fun t => .u8 (t.val + 1)

/-- The reports of the queries carry the state, item by item. -/
def reportsCarryTheState : Prop :=
  itemsAreLaidOut ∧ teamsAreReported ∧ padsAreReported ∧ cuesAreWritten ∧ cuesAreReported ∧ roundsAreReported
    ∧ queuesAreReported ∧ ballotsAreReported ∧ awardsAreReported ∧ stacksAreReported ∧ boardsAreReported
    ∧ partsAreIdentified

/-- Every query completes, reporting or refused, and changes nothing, and what each reports is read from the state (R6, R7,
R17, R18, R36, R43, R69, R70, R86, R97, R123, R140, R156, R170, R184, R196). The model's own: log 12, 14, 17 and
31. -/
def Obligations.QueriesReportOrAreRefused : Prop :=
  queriesReportAndChangeNothing ∧ queriesAreRefused ∧ reportsCarryTheState

/-- DESK_SPEED sets the speed setting and has the need judged again (R35); LAMP_SET sets or clears the override
of one pad or of all (R39); CAPTURE_SET sets the debounce count outside play (R56). -/
def settingsAreTakenOrRefused : Prop :=
  ∀ (s : State) (b : Byte), s.ready →
    (∀ v, settingOf b = some v →
      ∃ d, d = ({ s.desk with setting := v } : DeskLine).judged (needFor v s.engine.active)
        ∧ completes (.deskSpeed (.fits b)) s 0x07#8
            (ok [.name v.code, .name (speedCode s.desk.speed), .flag d.switch.isSome]) [.desk]
            fun t => t.desk = d)
    ∧ (settingOf b = none → completes (.deskSpeed (.fits b)) s 0x07#8 (refuse .badValue) [] fun _ => True)
    ∧ (∀ choice l a, lampChoiceOf choice = some l → padOf b = some a →
      completes (.lampSet (.fits { pads := .one b, choice := choice })) s 0x08#8
        (ok (optItems (fun o => [.name o.code]) (s.pad a).lampOverride)) [.pads] fun t =>
          t.pad a = { s.pad a with lampOverride := l } ∧ ∀ n, n ≠ a → t.pad n = s.pad n)
    ∧ (∀ choice l, lampChoiceOf choice = some l →
      completes (.lampSet (.fits { pads := .all, choice := choice })) s 0x08#8 (ok [.u8 s.overrideCount]) [.pads]
        fun t => ∀ n, t.pad n = { s.pad n with lampOverride := l })
    ∧ (∀ pads choice, lampChoiceOf choice = none ∨ (pads = .one b ∧ padOf b = none) →
      completes (.lampSet (.fits { pads := pads, choice := choice })) s 0x08#8 (refuse .badValue) [] fun _ => True)
    ∧ (∀ n, within 1 4 b = some n → s.debounceFixed = false →
      completes (.captureSet (.fits b)) s 0x0A#8 (ok [.u8 s.debounce, .u8 n]) [.debounce] fun t =>
        t.debounce = n)
    ∧ (∀ n, within 1 4 b = some n → s.debounceFixed = true →
      completes (.captureSet (.fits b)) s 0x0A#8 (refuse .wrongState) [] fun _ => True)
    ∧ (within 1 4 b = none → completes (.captureSet (.fits b)) s 0x0A#8 (refuse .badValue) [] fun _ => True)

/-- Rows 3 to 11 of the lamp policy, for a PRESENT team under the active context: the first row that applies
(R37). -/
def lampByRows (c : Context) (t : TeamId) (l : Lamp) : Prop :=
  let chosen := ∃ b e v, c.ballot = some b ∧ (b.entries.find? fun e => e.team == t) = some e ∧ e.vote = some v
  (c.phase ≠ .opened ∧ c.phase ≠ .settling ∧ c.phase ≠ .floor → l = .off)
    ∧ (c.phase = .opened ∨ c.phase = .settling ∨ c.phase = .floor →
      (t ∉ c.eligible → l = .off)
      ∧ (t ∈ c.eligible → c.isPoll = false →
        (c.holder = some t → l = if c.flashing then .fast else .on)
        ∧ (c.holder ≠ some t → (∃ q ∈ c.queue, q.team = t) → l = .on)
        ∧ (c.holder ≠ some t → (∀ q ∈ c.queue, q.team ≠ t) →
          (t ∈ c.lockout → l = .off)
          ∧ (t ∉ c.lockout → c.phase ≠ .floor → l = .slow)
          ∧ (t ∉ c.lockout → c.phase = .floor → l = .off)))
      ∧ (t ∈ c.eligible → c.isPoll = true →
        (t ∈ c.lockout → l = .off)
        ∧ (t ∉ c.lockout → c.phase = .opened → (chosen → l = .on) ∧ (¬chosen → l = .slow))
        ∧ (t ∉ c.lockout → c.phase ≠ .opened → l = .off)))

/-- The lamp state sent to a pad is its override if one is set, and otherwise that of the lamp policy; a poll carries
it, with the speed flag of its cycle (R21, R28, R37, R38). -/
def lampsFollowThePolicy : Prop :=
  ∀ (s : State) (a : PadAddr),
    (∀ l, (s.pad a).lampOverride = some l → s.lampFor a = l)
    ∧ ((s.pad a).lampOverride = none →
      (s.placeOf a = none → s.lampFor a = .off)
      ∧ ∀ p, s.placeOf a = some p →
        ((s.team p.team).state ≠ .present → s.lampFor a = .off)
        ∧ ((s.team p.team).state = .present →
          (s.engine.active = none → s.lampFor a = .off)
          ∧ ∀ c, s.engine.active = some c → lampByRows c p.team (s.lampFor a)))
    ∧ s.pollOf a = { address := a, flag := if s.desk.cycleKind = .roam then .roam else .sprint, lamp := s.lampFor a }

/-- DESK_SPEED, LAMP_SET and CAPTURE_SET set what they name or are refused, and the lamp state sent to a pad is its
override or that of the lamp policy (R35, R37, R39, R56). The model's own: log 12 and 17. -/
def Obligations.DeskSpeedLampAndCaptureSettingsAct : Prop := settingsAreTakenOrRefused ∧ lampsFollowThePolicy

/-! ### Commands of the cue store -/

/-- Check 3 of R60: the fields R59 requires of the kind are there, and those it marks "—" are not. -/
def kindFieldsAsRequired (r : CueFields) : Prop :=
  (r.kind.toNat ≠ 1 → r.answerWindow ≠ none ∧ r.rebound ≠ none ∧ r.expiryVerdict ≠ none
      ∧ r.optionCount = none ∧ r.correctOption = none ∧ r.changePolicy = none ∧ r.speedPlaces = none
      ∧ r.speedPoints = none)
    ∧ (r.kind.toNat = 1 → r.answerWindow = none ∧ r.rebound = none ∧ r.expiryVerdict = none
      ∧ r.optionCount ≠ none ∧ r.changePolicy ≠ none ∧ r.speedPlaces ≠ none ∧ r.speedPoints ≠ none)
    ∧ (r.streakBonus ≠ none ↔ r.kind.toNat = 0)

/-- Check 4 of R60: every field present lies in its range in R58 or R59.  An eligible list with no entry fails it
(log 24). -/
def fieldsInRange (r : CueFields) : Prop :=
  1 ≤ r.question.toInt ∧ r.question.toInt ≤ 999 ∧ 0 ≤ r.correctPoints.toInt ∧ r.correctPoints.toInt ≤ 500
    ∧ -500 ≤ r.wrongPoints.toInt ∧ r.wrongPoints.toInt ≤ 0
    ∧ (r.roundWindow.toInt = 0 ∨ 5 ≤ r.roundWindow.toInt ∧ r.roundWindow.toInt ≤ 600)
    ∧ (∀ l, r.eligible = some l → l ≠ [] ∧ ∀ b ∈ l, 1 ≤ b.toNat ∧ b.toNat ≤ 16)
    ∧ (∀ b, r.answerWindow = some b → 3 ≤ b.toNat ∧ b.toNat ≤ 60)
    ∧ (∀ b, r.expiryVerdict = some b → b.toNat ≤ 1) ∧ (∀ b, r.streakBonus = some b → b.toNat ≤ 100)
    ∧ (∀ b, r.optionCount = some b → 2 ≤ b.toNat ∧ b.toNat ≤ 4
        ∧ ∀ o, r.correctOption = some o → o.toNat < b.toNat)
    ∧ (∀ b, r.changePolicy = some b → b.toNat ≤ 1) ∧ (∀ b, r.speedPlaces = some b → b.toNat ≤ 3)
    ∧ (∀ b, r.speedPoints = some b → b.toNat ≤ 200)

/-- A CUE_LOAD passes a check of R60, by its position; the kinds are BUZZ 0, POLL 1 and TIEBREAK 2. -/
def passesCheck (a : CueLoadArgs) : Nat → Prop
  | 1 => a.slot.toNat < 64
  | 2 => a.record.kind.toNat ≤ 2
  | 3 => kindFieldsAsRequired a.record
  | 4 => fieldsInRange a.record
  | 5 => ∀ l, a.record.eligible = some l → l.Nodup ∧ l.length ≤ 16
  | 6 => a.record.kind.toNat = 2 → a.record.eligible = none
  | 7 => a.record.kind.toNat = 1 → (a.record.speedPlaces = some 0#8 ↔ a.record.speedPoints = some 0#8)
  | _ => True

/-- The floor fields of a record are those of the frame (R59). -/
def floorFieldsTaken (r : CueFields) (f : FloorFields) : Prop :=
  r.answerWindow.map BitVec.toNat = some f.answerWindow ∧ r.rebound = some f.rebound
    ∧ r.expiryVerdict.map BitVec.toNat = some f.expiry.code

/-- A cue record holds the fields of the frame, the eligible list in its loaded order (R58, R59). -/
def recordTaken (r : CueFields) (c : Cue) : Prop :=
  (c.question : Int) = r.question.toInt ∧ c.correctPoints = r.correctPoints.toInt
    ∧ c.wrongPoints = r.wrongPoints.toInt ∧ (c.roundWindow : Int) = r.roundWindow.toInt
    ∧ c.eligible.map (List.map fun t => t.val + 1) = r.eligible.map (List.map BitVec.toNat)
    ∧ (r.kind.toNat = 0 → ∃ f n, c.part = .buzz f n ∧ floorFieldsTaken r f
        ∧ r.streakBonus.map BitVec.toNat = some n)
    ∧ (r.kind.toNat = 2 → ∃ f, c.part = .tiebreak f ∧ floorFieldsTaken r f)
    ∧ (r.kind.toNat = 1 → ∃ p, c.part = .poll p ∧ r.optionCount.map BitVec.toNat = some p.options
        ∧ r.correctOption.map BitVec.toNat = p.correct.map Letter.code
        ∧ r.changePolicy.map BitVec.toNat = some p.policy.code
        ∧ r.speedPlaces.map BitVec.toNat = some p.places ∧ r.speedPoints.map BitVec.toNat = some p.placePoints)

/-- The checks of CUE_LOAD are made in their order, and the first that fails is the one reported; a record that passes
them all is taken as it stands (R60, R61). -/
def loadsAreChecked : Prop :=
  ∀ a : CueLoadArgs,
    (∀ n, checkLoad a = .error n ↔ 1 ≤ n ∧ n ≤ 7 ∧ ¬passesCheck a n ∧ ∀ m, m < n → passesCheck a m)
    ∧ ((∀ n, n ≤ 7 → passesCheck a n) → ∃ x c, checkLoad a = .ok (x, c))
    ∧ ∀ x c, checkLoad a = .ok (x, c) → a.slot.toNat = x.val ∧ recordTaken a.record c

/-- CUE_LOAD puts a record that passes every check of R60 into its slot as LOADED, and is refused with the
position of the first check that fails, 0 for a payload that does not fit its layout. -/
def cueLoadPlacesTheRecord : Prop :=
  ∀ (s : State) (a : CueLoadArgs), s.ready →
    (∀ x c, checkLoad a = .ok (x, c) →
      completes (.cueLoad (.fits a)) s 0x0C#8
        (ok (.name (s.cueSlot x).code :: optItems (fun c => [.i16 c.question]) (s.cueSlot x).record)) [.cues]
        fun t => t.cueSlot x = .loaded c ∧ (∀ y, y ≠ x → t.cueSlot y = s.cueSlot y)
          ∧ t.cues.pointer = s.cues.pointer ∧ t.cues.wrapped = s.cues.wrapped)
    ∧ (∀ n, checkLoad a = .error n →
      completes (.cueLoad (.fits a)) s 0x0C#8 { result := .refused .badValue, data := [.u8 n] } [] fun _ => True)
    ∧ completes (.cueLoad .misfit) s 0x0C#8 { result := .refused .badValue, data := [.u8 0] } [] fun _ => True

/-- CUE_ERASE empties the slots of its target and answers how many held a record. -/
def cueEraseEmptiesItsTarget : Prop :=
  ∀ (s : State) (target : EraseTarget), s.ready →
    (∀ covers, eraseSlots target = some covers →
      completes (.cueErase (.fits target)) s 0x0D#8
        (ok [.u8 ((List.finRange 64).filter fun x => covers x && (s.cueSlot x).record.isSome).length]) [.cues]
        fun t => (∀ x, t.cueSlot x = if covers x = true then .empty else s.cueSlot x)
          ∧ t.cues.pointer = s.cues.pointer ∧ t.cues.wrapped = s.cues.wrapped)
    ∧ (eraseSlots target = none →
      completes (.cueErase (.fits target)) s 0x0D#8 (refuse .badValue) [] fun _ => True)
    ∧ (∀ b x, target = .slot b → b.toNat = x.val → ∃ covers, eraseSlots target = some covers
        ∧ ∀ y : SlotId, covers y = true ↔ y = x)
    ∧ (∀ b (p : Page), target = .page b → b.toNat = p.val → ∃ covers, eraseSlots target = some covers
        ∧ ∀ y : SlotId, covers y = true ↔ y.val / 16 = p.val)
    ∧ (target = .all → ∃ covers, eraseSlots target = some covers ∧ ∀ y : SlotId, covers y = true)

/-- CUE_LOAD fills a slot with a record that passes the checks of R60, made in their order, and CUE_ERASE empties its
target (R60 to R62). The model's own: log 12 and 24. -/
def Obligations.CueLoadAndEraseAct : Prop :=
  loadsAreChecked ∧ cueLoadPlacesTheRecord ∧ cueEraseEmptiesItsTarget

/-- CUE_POINT moves the cue pointer to a slot in any state, and nothing else; a slot out of range is refused with
BAD_VALUE (R63). -/
def Obligations.CuePointMovesThePointer : Prop :=
  ∀ (s : State) (b : Byte), s.ready →
    (∀ x : SlotId, b.toNat = x.val →
      completes (.cuePoint (.fits b)) s 0x0E#8
        (ok [.slot s.cues.pointer, .slot x, .name (s.cueSlot x).code]) [.cues] fun t =>
          t.cues = { s.cues with pointer := x })
    ∧ (64 ≤ b.toNat → completes (.cuePoint (.fits b)) s 0x0E#8 (refuse .badValue) [] fun _ => True)

/-! ### Commands of the round engine -/

/-- A context at arming (R73, R80). -/
def armedFrom (x : SlotId) (cue : Cue) (eligible : List TeamId) (c : Context) : Prop :=
  c.cue = cue ∧ c.source = x ∧ c.phase = .armed ∧ c.held = false ∧ c.eligible = eligible ∧ c.lockout = []
    ∧ c.queue = [] ∧ c.overflow = []
    ∧ c.roundRemaining = (if cue.roundWindow = 0 then none else some (cue.roundWindow * 4000))
    ∧ c.roundDeadline = none ∧ c.openInstant = none ∧ c.answerDeadline = none ∧ c.answerRemainder = none
    ∧ c.flashInstant = none ∧ c.holder = none ∧ c.closeInstant = none ∧ c.ending = none
    ∧ c.flashing = false
    ∧ (c.isPoll = false → c.ballot = none)
    ∧ (c.isPoll = true → ∃ b, c.ballot = some b
        ∧ b.entries = eligible.map (fun t => { team := t, vote := none, changes := 0, skipped := false })
        ∧ b.closeCause = none ∧ b.startCount = none ∧ b.revealed = none ∧ b.tallies = none ∧ b.places = [])

/-- The slot armed becomes PLAYED and the pointer goes to the next slot of its page, slot 15 being followed by
slot 00, whose page then joins the wrapped page set (R65). -/
def slotPlayed (x : SlotId) (cue : Cue) (s t : State) : Prop :=
  t.cueSlot x = .played cue ∧ (∀ y, y ≠ x → t.cueSlot y = s.cueSlot y)
    ∧ t.cues.pointer.val = (if x.val % 16 = 15 then x.val - 15 else x.val + 1)
    ∧ t.cues.wrapped = (if x.val % 16 = 15 then insertAsc (pageOfSlot x) s.cues.wrapped else s.cues.wrapped)

/-- The notice kinds an arming sets: CUE where the pointer wraps, then ROUND (R65, R76). -/
def armingKinds (x : SlotId) : List NoticeKind := if x.val % 16 = 15 then [.cue] else []

/-- An active context becomes another, and a round change is signalled after other kinds (R76). -/
def roundChangesAfter (active : Option Context) (ks : List NoticeKind) (s t : State) : Prop :=
  t.engine.active = active ∧ t.desk = s.desk.judged (needFor s.desk.setting active)
    ∧ signals (ks ++ [.round]) s t

/-- ROUND_ARM of a slot out of range is refused with BAD_VALUE. -/
def roundArmChecksTheSlot : Prop :=
  ∀ (s : State) (b : Byte), s.ready → slotOf b = none →
    completes (.roundArm (.fits (some b))) s 0x10#8 (refuse .badValue) [] fun _ => True

/-- ROUND_ARM with the engine IDLE or its context CLOSED or REVEALED: a new context from the slot named, or from
the pointer's, replaces what was active.  Without a record it is refused with EMPTY_CUE, and without teams with
NO_TEAMS or NO_TIE. -/
def roundArmArmsACue : Prop :=
  ∀ (s : State) (slot : Option Byte) (x : SlotId), s.ready → s.slotToArm slot = some x →
    (∀ cue, (s.cueSlot x).record = some cue → s.atRest = true → teamsRefusal s cue = none →
      completes (.roundArm (.fits slot)) s 0x10#8
        (ok ([.slot x, .i16 cue.question, .name cue.part.kind.code] ++ teamsItems (s.eligibleFor cue)
          ++ [.name 1]))
        [.board, .notices, .desk, .cues, .engine] fun t =>
          (∃ c, armedFrom x cue (s.eligibleFor cue) c ∧ roundChangesAfter (some c) (armingKinds x) s t)
            ∧ slotPlayed x cue s t ∧ t.engine.tiePointer = s.engine.tiePointer)
    ∧ (∀ cue a, (s.cueSlot x).record = some cue → s.atRest = true → teamsRefusal s cue = some a →
        completes (.roundArm (.fits slot)) s 0x10#8 a [] fun _ => True)
    ∧ ((s.cueSlot x).record = none →
        completes (.roundArm (.fits slot)) s 0x10#8 { result := .refused .emptyCue, data := [.slot x] } []
          fun _ => True)

/-- The refusal of a cue without teams: a TIEBREAK cue with fewer than two teams at the top gets NO_TIE with the highest
live score and the one team that holds it, or absent; any other cue with no eligible team gets NO_TEAMS with the set of
teams its list names, or absent for a cue with no list (R77, R160).  A cue with its teams gets none. -/
def cuesNeedTeams : Prop :=
  ∀ (s : State) (cue : Cue),
    (∀ f, cue.part = .tiebreak f →
      (s.topTeams = [] →
        teamsRefusal s cue = some ⟨.refused .noTie, [.presence false]⟩)
      ∧ (∀ t, s.topTeams = [t] → teamsRefusal s cue
          = some ⟨.refused .noTie, [.presence true, .i16 (s.team t).score, .u8 (t.val + 1)]⟩)
      ∧ (2 ≤ s.topTeams.length → teamsRefusal s cue = none))
    ∧ ((∀ f, cue.part ≠ .tiebreak f) →
      (s.eligibleFor cue ≠ [] → teamsRefusal s cue = none)
      ∧ (s.eligibleFor cue = [] →
        (cue.eligible = none →
          teamsRefusal s cue = some ⟨.refused .noTeams, [.presence false]⟩)
        ∧ ∀ l, cue.eligible = some l → ∃ named : List TeamId,
            named.Pairwise (· < ·) ∧ (∀ t, t ∈ named ↔ t ∈ l)
              ∧ teamsRefusal s cue = some ⟨.refused .noTeams,
                  .presence true :: .count named.length :: named.map fun t => .u8 (t.val + 1)⟩))

/-- ROUND_ARM arms the cue of its slot, or is refused as R77 says, without teams with the answers of R77 and R160 (R64,
R77, R80, R160). The model's own: log 12. -/
def Obligations.RoundArmMakesAContext : Prop := roundArmChecksTheSlot ∧ roundArmArmsACue ∧ cuesNeedTeams

/-- ROUND_ARM of a TIEBREAK cue over an ARMED or OPEN context pushes that context with its window paused, and of
any other cue, or over any other state of play, it is refused with WRONG_STATE; a full stack refuses first, and
then too few teams at the top (R77, R161). The model's own: log 12. -/
def Obligations.InterjectionPushesTheContext : Prop :=
  ∀ (s : State) (slot : Option Byte) (x : SlotId) (cue : Cue) (c : Context), s.ready →
    s.slotToArm slot = some x → (s.cueSlot x).record = some cue → s.engine.active = some c →
    (∀ f, cue.part = .tiebreak f → c.phase = .armed ∨ c.phase = .opened → s.stack.length < 3 →
        2 ≤ s.topTeams.length →
      completes (.roundArm (.fits slot)) s 0x10#8
        (ok ([.slot x, .i16 cue.question, .name 2] ++ teamsItems s.topTeams ++ [.name 1]
          ++ [.u8 (s.stack.length + 1)]))
        [.board, .notices, .desk, .cues, .engine, .stack] fun t =>
          (∃ d, armedFrom x cue s.topTeams d ∧ roundChangesAfter (some d) (armingKinds x) s t)
            ∧ slotPlayed x cue s t ∧ t.engine.tiePointer = s.engine.tiePointer
            ∧ ∃ saved, t.stack = { context := saved, origin := .tiebreak } :: s.stack
                ∧ saved = { c with
                    roundRemaining := (match c.roundDeadline with
                      | some d => some (clockDiff s.clock d).toNat
                      | none => c.roundRemaining)
                    roundDeadline := none })
    ∧ (∀ f, cue.part = .tiebreak f → c.phase = .armed ∨ c.phase = .opened → 3 ≤ s.stack.length →
      completes (.roundArm (.fits slot)) s 0x10#8 (refuse .stackFull) [] fun _ => True)
    ∧ (∀ f a, cue.part = .tiebreak f → c.phase = .armed ∨ c.phase = .opened → s.stack.length < 3 →
        teamsRefusal s cue = some a →
      completes (.roundArm (.fits slot)) s 0x10#8 a [] fun _ => True)
    ∧ (s.atRest = false → (∀ f, cue.part ≠ .tiebreak f) ∨ (c.phase ≠ .armed ∧ c.phase ≠ .opened) →
      completes (.roundArm (.fits slot)) s 0x10#8 (refuse .wrongState) [] fun _ => True)

/-- A rank order places every PRESENT team, by score from the highest, equal scores by ascending team number (R7). -/
def ranks (score : TeamId → Int) (order : List TeamId) (s : State) : Prop :=
  (∀ t, t ∈ order ↔ (s.team t).state = .present)
    ∧ order.Pairwise fun t u => score u < score t ∨ (score t = score u ∧ t < u)

/-- The live rank order is that of the live scores; the board rank order is that of the scores the board renders, the
snapshot while the award lock is HELD and the live scores otherwise (R7, R148). -/
def ranksFollowTheScores : Prop :=
  ∀ s : State,
    ranks (fun t => (s.team t).score) s.liveRanks s ∧ ranks s.boardScore s.boardRanks s
      ∧ (s.scores.lock = .free → ∀ t, s.boardScore t = (s.team t).score)
      ∧ ∀ time snapshot, s.scores.lock = .held time snapshot → ∀ t, s.boardScore t = look snapshot t

/-- A TIEBREAK question is for the PRESENT teams with the highest live score among PRESENT teams, at least two of
them (R160), and any other for the PRESENT teams its list allows, at least one (R78). -/
def eligibleTeamsArePresent : Prop :=
  ∀ (s : State) (cue : Cue),
    (∀ t, t ∈ s.topTeams ↔ (s.team t).state = .present
        ∧ ∀ u, (s.team u).state = .present → (s.team u).score ≤ (s.team t).score)
    ∧ (∀ f, cue.part = .tiebreak f → s.eligibleFor cue = s.topTeams)
    ∧ ((∀ f, cue.part ≠ .tiebreak f) →
        ∀ t, t ∈ s.eligibleFor cue ↔ (s.team t).state = .present ∧ ∀ l, cue.eligible = some l → t ∈ l)
    ∧ (∀ f, cue.part = .tiebreak f → (teamsRefusal s cue = none ↔ 2 ≤ s.topTeams.length))
    ∧ ((∀ f, cue.part ≠ .tiebreak f) → (teamsRefusal s cue = none ↔ s.eligibleFor cue ≠ []))
    ∧ (s.eligibleFor cue).Pairwise (· < ·)

/-- The eligible set of a question is made of PRESENT teams, those tied at the top for a TIEBREAK cue and those its list
allows for any other, and the rank orders place the PRESENT teams by score (R7, R78, R160). -/
def Obligations.EligibleTeamsAreThePresentOnes : Prop := eligibleTeamsArePresent ∧ ranksFollowTheScores

/-- A context in OPEN with its window started: the deadline is the reading plus the time left, and a window whose
time has run out, or that the question has not, is not started (R84, R86). -/
def openedAt (now : ClockValue) (c : Context) : Context :=
  { c with
      phase := .opened
      openInstant := some now
      roundDeadline := (match c.roundRemaining with
        | some (n + 1) => some (now + BitVec.ofNat 32 (n + 1))
        | some 0 => c.roundDeadline
        | none => c.roundDeadline) }

/-- ROUND_OPEN takes an ARMED context to OPEN on a line at SPRINT and to OPENING on a line at ROAM, and is refused
with WRONG_STATE in any other state (R82, R84). -/
def roundOpenOpensOrWaits : Prop :=
  ∀ s : State, s.ready →
    (∀ c, s.engine.active = some c → c.phase = .armed → c.held = false →
      (s.desk.speed = .sprint →
        completes (.roundOpen (.fits .none)) s 0x11#8 (ok [.name 3]) [.board, .notices, .desk, .engine] fun t =>
          roundChangesTo (some (openedAt s.clock c)) [] s t ∧ t.engine.tiePointer = s.engine.tiePointer)
      ∧ (s.desk.speed = .roam →
        completes (.roundOpen (.fits .none)) s 0x11#8 (ok [.name 2]) [.board, .notices, .desk, .engine] fun t =>
          roundChangesTo (some { c with phase := .opening }) [] s t
            ∧ t.engine.tiePointer = s.engine.tiePointer))
    ∧ ((∀ c, s.engine.active = some c → c.phase ≠ .armed) →
      completes (.roundOpen (.fits .none)) s 0x11#8 (refuse .wrongState) [] fun _ => True)

/-- A context as it enters CLOSED (R75): the window is stopped at the time left, the answer deadline, remainder and
flash instant are gone, there is no holder, and a POLL has its tallies from the teams PRESENT now (R134). -/
def closedAs (s : State) (e : Ending) (c d : Context) : Prop :=
  d.phase = .closed ∧ d.ending = some e ∧ d.cue = c.cue ∧ d.source = c.source ∧ d.held = c.held
    ∧ d.eligible = c.eligible ∧ d.lockout = c.lockout ∧ d.queue = c.queue ∧ d.overflow = c.overflow
    ∧ d.roundDeadline = none
    ∧ d.roundRemaining = (match c.roundDeadline with
        | some x => some (clockDiff s.clock x).toNat
        | none => c.roundRemaining)
    ∧ d.openInstant = c.openInstant ∧ d.closeInstant = c.closeInstant
    ∧ d.answerDeadline = none ∧ d.answerRemainder = none ∧ d.flashInstant = none ∧ d.holder = none
    ∧ d.flashing = false
    ∧ (c.isPoll = false → d.ballot = c.ballot)
    ∧ (∀ f b, c.pollFields = some f → c.ballot = some b →
        d.ballot = some { b with tallies := some (tallyOf f.options
          (b.entries.filter fun e => s.teamPresent e.team)) })

/-- ROUND_ABORT closes a context in play with ABORTED, ROUND_CLEAR drops one that is CLOSED or REVEALED, and each is
refused with WRONG_STATE in the other's states and in IDLE (R93, R94). -/
def abortClosesAndClearDrops : Prop :=
  ∀ s : State, s.ready →
    (∀ c, s.engine.active = some c → c.phase.needsSprint = true →
      completes (.roundAbort (.fits .none)) s 0x13#8 (ok [.name c.phase.code])
        [.board, .notices, .desk, .engine] fun t =>
          (∃ d, closedAs s ⟨.aborted, .aborted⟩ c d ∧ roundChangesTo (some d) [] s t)
            ∧ t.engine.tiePointer = s.engine.tiePointer)
    ∧ (∀ c, s.engine.active = some c → c.phase = .closed ∨ c.phase = .revealed →
      completes (.roundClear (.fits .none)) s 0x14#8 (ok []) [.board, .notices, .desk, .engine] fun t =>
        roundChangesTo none [] s t ∧ t.engine.tiePointer = s.engine.tiePointer)
    ∧ (s.atRest = true →
      completes (.roundAbort (.fits .none)) s 0x13#8 (refuse .wrongState) [] fun _ => True)
    ∧ (s.engine.active = none ∨ s.atRest = false →
      completes (.roundClear (.fits .none)) s 0x14#8 (refuse .wrongState) [] fun _ => True)

/-- ROUND_OPEN, ROUND_ABORT and ROUND_CLEAR act by the state of the engine (R82, R93, R94). -/
def Obligations.RoundOpenAbortAndClearAct : Prop := roundOpenOpensOrWaits ∧ abortClosesAndClearDrops

/-- A POLL context in CLOSING: its window stopped at 0, its close instant, cause and closing start count set
(R131). -/
def closingAs (s : State) (cause : EndCause) (instant : ClockValue) (c : Context) : Context :=
  { c with
      phase := .closing
      roundRemaining := c.roundRemaining.map fun _ => 0
      roundDeadline := none
      closeInstant := some instant
      ballot := c.ballot.map fun b =>
        { b with closeCause := some cause, startCount := some s.desk.sprintCount } }

/-- A context whose window is stopped at 0 (R87, R92). -/
def windowAtZero (c : Context) : Context :=
  { c with roundRemaining := c.roundRemaining.map fun _ => 0, roundDeadline := none }

/-- The event ends with the notice unit in a given state, once the publish it asks for through an automatic trigger
has been taken on the state it leaves (R181, R182). -/
def endsWith (n : NoticeUnit) (s t : State) : Prop :=
  t = afterTrigger s.board.auto { t with board := s.board, notices := n }

/-- A context as a grant to the head of its queue leaves it (R110, R113). -/
def grantedAs (now : ClockValue) (head : Claim) (rest : List Claim) (c d : Context) : Prop :=
  d.phase = .floor ∧ d.holder = some head.team ∧ d.queue = { head with contested := false } :: rest
    ∧ d.answerDeadline = some (now + BitVec.ofNat 32 (c.answerSeconds * 4000))
    ∧ d.flashing = decide (c.answerSeconds ≤ 5)
    ∧ d.flashInstant = (if c.answerSeconds ≤ 5 then none
        else some (now + BitVec.ofNat 32 (c.answerSeconds * 4000) - 20000#32))
    ∧ d.roundDeadline = none
    ∧ d.roundRemaining = (match c.roundDeadline with
        | some x => some (clockDiff now x).toNat
        | none => c.roundRemaining)
    ∧ d.cue = c.cue ∧ d.source = c.source ∧ d.held = c.held ∧ d.eligible = c.eligible ∧ d.lockout = c.lockout
    ∧ d.overflow = c.overflow ∧ d.ballot = c.ballot ∧ d.openInstant = c.openInstant
    ∧ d.answerRemainder = c.answerRemainder ∧ d.closeInstant = c.closeInstant ∧ d.ending = c.ending

/-- The tie pointer after a grant: past the holder where a second claim has the same capture time, and otherwise
as it was (R111). -/
def tieAfterGrant (pointer : TeamId) (head : Claim) (rest : List Claim) : TeamId :=
  match rest.head? with
  | some second => if second.capture = head.capture then head.team + 1 else pointer
  | none => pointer

/-- The head of a queue has been queued for the debounce count plus 1 SPRINT cycles (R109). -/
def hasSettled (s : State) (head : Claim) : Prop :=
  s.debounce + 1 ≤ (s.desk.sprintCount - head.joinCycle).toNat

/-- A context in a state of play with its window started from the time left, if any (R86, R119). -/
def backIn (phase : Phase) (now : ClockValue) (c : Context) : Context :=
  { c with
      phase := phase
      roundDeadline := (match c.roundRemaining with
        | some (n + 1) => some (now + BitVec.ofNat 32 (n + 1))
        | some 0 => c.roundDeadline
        | none => c.roundDeadline) }

/-- The engine enters CLOSED from a context, the tie pointer as it was (R75). -/
def closesRound (e : Ending) (c : Context) (s t : State) : Prop :=
  ∃ d, closedAs s e c d ∧ t.engine = { active := some d, tiePointer := s.engine.tiePointer }
    ∧ t.desk = s.desk.judged (needFor s.desk.setting (some d))

/-- A floor pass over an unheld context from which the holder's claim is gone: the four cases of R119, with what each
does to the engine and the desk line, and the notices pending after it. -/
def floorPassed (cause : EndCause) (c : Context) (n : NoticeUnit) (s t : State) : Prop :=
  let p := { c with holder := none, flashInstant := none, flashing := false }
  (∀ head rest, c.queue = head :: rest → hasSettled s head →
      (∃ d, grantedAs s.clock head rest p d ∧ t.engine.active = some d)
        ∧ t.engine.tiePointer = tieAfterGrant s.engine.tiePointer head rest ∧ t.desk = s.desk
        ∧ endsWith (n.withPending [.queue, .floor]) s t)
    ∧ (∀ head rest, c.queue = head :: rest → ¬hasSettled s head →
      t.engine = { active := some (backIn .settling s.clock p), tiePointer := s.engine.tiePointer }
        ∧ t.desk = s.desk.judged true ∧ endsWith (n.withPending [.queue, .round]) s t)
    ∧ (c.queue = [] → (∀ u ∈ c.eligible, (s.team u).state = .present → u ∈ c.lockout) →
      closesRound ⟨.allOut, cause⟩ p s t ∧ endsWith (n.withPending [.queue, .round]) s t)
    ∧ (c.queue = [] → (∃ u ∈ c.eligible, (s.team u).state = .present ∧ u ∉ c.lockout) →
        c.allowsRebound = true → c.roundRemaining ≠ some 0 →
      t.engine = { active := some (backIn .opened s.clock p), tiePointer := s.engine.tiePointer }
        ∧ t.desk = s.desk.judged true ∧ endsWith (n.withPending [.queue, .round]) s t)
    ∧ (c.queue = [] → (∃ u ∈ c.eligible, (s.team u).state = .present ∧ u ∉ c.lockout) →
        c.allowsRebound = false ∨ c.roundRemaining = some 0 →
      closesRound ⟨if c.roundRemaining = some 0 then .timeUp else .allOut, cause⟩ p s t
        ∧ endsWith (n.withPending [.queue, .round]) s t)

/-- An award was handed to the score unit (R146): the team table and the score unit stand as it left them. -/
def awardHandedOver (a : Award) (s t : State) : Prop :=
  t.roster = (handOver a s).roster ∧ t.scores = (handOver a s).scores

/-- A verdict was applied to the floor holder, with the cause of the pass (R116, R117, R118). -/
def verdictTaken (cause : EndCause) (v : Verdict) (holder : TeamId) (c : Context) (s t : State) : Prop :=
  let c := { c with answerDeadline := none }
  let right : Award := { team := holder, points := c.cue.correctPoints, cause := .correct,
                         question := some c.cue.question, bonus := c.cue.part.streakBonus }
  let wrong : Award := { team := holder, points := c.cue.wrongPoints, cause := .wrong,
                         question := some c.cue.question, bonus := none }
  match v with
  | .correct => awardHandedOver right s t ∧ closesRound ⟨.won holder, .judged⟩ c s t
      ∧ endsWith ((handOver right s).notices.withPending [.round]) s t
  | .wrong => awardHandedOver wrong s t
      ∧ floorPassed cause { c with queue := c.queue.filter fun q => q.team != holder,
                                   lockout := insertAsc holder c.lockout } (handOver wrong s).notices s t
  | .void => t.roster = s.roster ∧ t.scores = s.scores
      ∧ floorPassed cause { c with queue := c.queue.filter fun q => q.team != holder } s.notices s t

/-- The expiry verdict of a cue as a verdict (R114). -/
def expiryAs : ExpiryVerdict → Verdict
  | .wrong => .wrong
  | .void => .void

/-- CALL_TIME in OPEN closes a BUZZ or TIEBREAK question with TIME_UP and cause CALLED and puts a POLL question
in CLOSING; in FLOOR it ends the answer window with the expiry verdict; elsewhere it is refused with NOT_TIMED
(R92). The model's own: log 12, 20 and 33. -/
def Obligations.CallTimeEndsTheWindow : Prop :=
  ∀ s : State, s.ready →
    (∀ c, s.engine.active = some c → c.phase = .opened → c.isPoll = false →
      completes (.callTime (.fits .none)) s 0x12#8 (ok [.name 7, .presence false])
        [.board, .notices, .desk, .engine] fun t =>
          (∃ d, closedAs s ⟨.timeUp, .called⟩ (windowAtZero c) d ∧ roundChangesTo (some d) [] s t)
            ∧ t.engine.tiePointer = s.engine.tiePointer)
    ∧ (∀ c, s.engine.active = some c → c.phase = .opened → c.isPoll = true →
      completes (.callTime (.fits .none)) s 0x12#8 (ok [.name 6, .presence true, .clock s.clock])
        [.board, .notices, .desk, .engine] fun t =>
          roundChangesTo (some (closingAs s .called s.clock c)) [] s t
            ∧ t.engine.tiePointer = s.engine.tiePointer)
    ∧ (∀ c f holder, s.engine.active = some c → c.phase = .floor → c.holder = some holder →
        c.floorFields = some f → c.held = false →
      ∃ a, completes (.callTime (.fits .none)) s 0x12#8 a [.teams, .scores, .board, .notices, .desk, .engine]
        fun t => a = ok [phaseItem t.engine.active, .presence false]
          ∧ verdictTaken .called (expiryAs f.expiry) holder c s t)
    ∧ (s.engine.active = none ∨ (∃ c, s.engine.active = some c ∧ c.phase ≠ .opened ∧ c.phase ≠ .floor) →
      completes (.callTime (.fits .none)) s 0x12#8 (refuse .notTimed) [] fun _ => True)

/-- JUDGE for the floor holder applies its verdict and answers with the verdict, the points of the award, the
state and the holder after it; a bad value is refused with BAD_VALUE and a verdict for any other team, or with
no floor held, with STALE (R115). The model's own: log 12, 16 and 33. -/
def Obligations.JudgeAppliesTheVerdict : Prop :=
  ∀ (s : State) (args : JudgeArgs), s.ready →
    (∀ c t v, teamOf args.team = some t → verdictOf args.verdict = some v → s.engine.active = some c →
        c.phase = .floor → c.holder = some t → c.held = false →
      ∃ a, completes (.judge (.fits args)) s 0x16#8 a [.teams, .scores, .board, .notices, .desk, .engine]
        fun u => verdictTaken .judged v t c s u
          ∧ a = ok (.name v.code :: optItems (fun z => [.i16 z])
              (match v with
                | .correct => some c.cue.correctPoints
                | .wrong => some c.cue.wrongPoints
                | .void => none)
            ++ phaseItem u.engine.active :: optItems teamItem (u.engine.active.bind Context.holder)))
    ∧ (teamOf args.team = none ∨ verdictOf args.verdict = none →
      completes (.judge (.fits args)) s 0x16#8
        { result := .refused .badValue, data := optItems teamItem s.holder } [] fun _ => True)
    ∧ (∀ t v, teamOf args.team = some t → verdictOf args.verdict = some v →
        (∀ c, s.engine.active = some c → c.phase ≠ .floor ∨ c.holder ≠ some t) →
      completes (.judge (.fits args)) s 0x16#8
        { result := .refused .stale, data := optItems teamItem s.holder } [] fun _ => True)

/-- ANSWER_DEADLINE_EXPIRY in FLOOR, with the answer deadline reached, applies the expiry verdict to the holder
and passes the floor with cause EXPIRED; without a deadline reached nothing happens (R114). The model's own: log
2, 20 and 33. -/
def Obligations.AnswerExpiryPassesTheFloor : Prop :=
  ∀ s : State, s.noRequest →
    (∀ c f holder d, s.engine.active = some c → c.phase = .floor → c.holder = some holder →
        c.floorFields = some f → c.held = false → c.answerDeadline = some d → clockDiff s.clock d ≤ 0 →
      happens .answerDeadlineExpiry s [.teams, .scores, .board, .notices, .desk, .engine] fun t =>
        verdictTaken .expired (expiryAs f.expiry) holder c s t)
    ∧ ((∀ c d, s.engine.active = some c → c.phase = .floor → c.answerDeadline = some d →
          0 < clockDiff s.clock d) → exec .answerDeadlineExpiry s = .next s)

/-- CLAIM_DROP removes a claim: behind the head or the holder nothing further follows, a new head is tested
and granted the floor where it has settled, and an emptied queue reopens the question, or closes it where its
time has run out (R120, R121, R91). -/
def claimDropActs : Prop :=
  ∀ (s : State) (b : Byte) (c : Context), s.ready → s.engine.active = some c → c.held = false →
    c.isPoll = false →
    (∀ t left, teamOf b = some t → c.phase = .settling ∨ c.phase = .floor → c.holder ≠ some t →
        c.hasClaim t = true → left = (c.queue.filter fun q => q.team != t) →
      ∃ a, completes (.claimDrop (.fits b)) s 0x17#8 a [.board, .notices, .desk, .engine] fun u =>
        a = ok [phaseItem u.engine.active, .u8 left.length]
          ∧ (∀ head rest, c.queue = head :: rest → c.phase = .floor ∨ head.team ≠ t →
              u.engine = { s.engine with active := some { c with queue := left } } ∧ u.desk = s.desk
                ∧ signals [.queue] s u)
          ∧ (∀ head rest next more, c.queue = head :: rest → c.phase = .settling → head.team = t →
              left = next :: more →
              (hasSettled s next → (∃ d, grantedAs s.clock next more { c with queue := left } d
                  ∧ u.engine.active = some d)
                ∧ u.engine.tiePointer = tieAfterGrant s.engine.tiePointer next more
                ∧ u.desk = s.desk.judged true ∧ signals [.queue, .floor, .round] s u)
              ∧ (¬hasSettled s next →
                u.engine = { s.engine with active := some { c with queue := left } } ∧ u.desk = s.desk
                  ∧ signals [.queue] s u))
          ∧ (c.phase = .settling → left = [] →
              (c.roundRemaining ≠ some 0 → u.engine.tiePointer = s.engine.tiePointer
                ∧ roundChangesAfter (some { c with queue := [], phase := .opened }) [.queue] s u)
              ∧ (c.roundRemaining = some 0 →
                closesRound ⟨.timeUp, .expired⟩ { c with queue := [], phase := .opened } s u
                  ∧ signals [.queue, .round] s u)))
    ∧ (∀ t, teamOf b = some t → c.phase = .floor → c.holder = some t →
      completes (.claimDrop (.fits b)) s 0x17#8 (refuse .floorHeld) [] fun _ => True)
    ∧ (∀ t, teamOf b = some t → c.phase = .opened ∨ c.phase = .settling ∨ c.phase = .floor →
        c.holder ≠ some t → c.hasClaim t = false →
      completes (.claimDrop (.fits b)) s 0x17#8 (refuse .notQueued) [] fun _ => True)

/-- CLAIM_DROP of a team out of range is refused with BAD_VALUE, and with no BUZZ or TIEBREAK context in OPEN,
SETTLING or FLOOR with WRONG_STATE (R120). -/
def claimDropNeedsAQueue : Prop :=
  ∀ (s : State) (b : Byte), s.ready →
    (teamOf b = none → completes (.claimDrop (.fits b)) s 0x17#8 (refuse .badValue) [] fun _ => True)
    ∧ (∀ t, teamOf b = some t → (∀ c, s.engine.active = some c → c.isPoll = true
          ∨ (c.phase ≠ .opened ∧ c.phase ≠ .settling ∧ c.phase ≠ .floor)) →
      completes (.claimDrop (.fits b)) s 0x17#8 (refuse .wrongState) [] fun _ => True)

/-- CLAIM_DROP acts on the claims of a question being played, and is refused elsewhere (R91, R120, R121). The
model's own: log 12. -/
def Obligations.ClaimDropRemovesTheClaim : Prop := claimDropActs ∧ claimDropNeedsAQueue

/-- A grant is decided between claims of equal capture time exactly when a second claim has the head's capture time:
the tie pointer then goes to the team after the holder, 16 being followed by 1, and is otherwise left (R111). -/
def tiePointerMovesPastTheWinner : Prop :=
  ∀ (pointer : TeamId) (head second : Claim) (rest : List Claim),
    (second.capture = head.capture →
      (tiePointerAfter pointer head (second :: rest)).val + 1
        = if head.team.val + 1 = 16 then 1 else head.team.val + 1 + 1)
    ∧ (second.capture ≠ head.capture → tiePointerAfter pointer head (second :: rest) = pointer)
    ∧ tiePointerAfter pointer head [] = pointer

/-- A claim joins a queue directly ahead of the first claim it precedes, by an earlier capture time or, for equal
times, by the count from the tie pointer; in FLOOR the scan starts behind the first claim (R100). -/
def claimsArePlacedByTheScan : Prop :=
  ∀ (pointer : TeamId) (q : Claim) (queue : List Claim),
    (∀ phase, phase ≠ .floor → placeClaim pointer phase q queue = insertClaim pointer q queue)
    ∧ (∀ head rest, queue = head :: rest → placeClaim pointer .floor q queue = head :: insertClaim pointer q rest)
    ∧ (∃ front back, queue = front ++ back ∧ insertClaim pointer q queue = front ++ q :: back
        ∧ (∀ m ∈ front, ¬(0 < clockDiff q.capture m.capture ∨ (q.capture = m.capture
            ∧ (q.team.val + 16 - pointer.val) % 16 < (m.team.val + 16 - pointer.val) % 16)))
        ∧ ∀ m more, back = m :: more → (0 < clockDiff q.capture m.capture ∨ (q.capture = m.capture
            ∧ (q.team.val + 16 - pointer.val) % 16 < (m.team.val + 16 - pointer.val) % 16)))

/-- Claims are placed by the scan, and the tie pointer moves past the winner of a tie (R100, R111). -/
def Obligations.ClaimsAreOrderedAndTiesRotate : Prop := tiePointerMovesPastTheWinner ∧ claimsArePlacedByTheScan

/-- REVEAL of a POLL context CLOSED with TIME_UP hands over the awards of its ballot and enters REVEALED with the
option revealed, the entries of absent teams skipped, the tallies formed again and the speed places recorded
(R135 to R138). -/
def revealAwardsTheBallot : Prop :=
  ∀ (s : State) (option : Option Byte) (c : Context) (f : PollFields) (b : Ballot) (e : Ending), s.ready →
    s.engine.active = some c → c.pollFields = some f → c.ballot = some b → c.ending = some e →
    c.phase = .closed → e.outcome = .timeUp →
    (∀ o : Letter, (∃ x, option = some x ∧ letterOf x = some o ∧ o.code < f.options)
        ∨ (option = none ∧ f.correct = some o) →
      ∃ a, completes (.reveal (.fits option)) s 0x19#8 a [.teams, .scores, .board, .notices, .desk, .engine]
        fun t =>
          let entries := b.entries.map fun x => { x with skipped := !s.teamPresent x.team }
          let awards := revealAwards s c f b o
          a = ok ([.name o.code, .flag option.isSome]
              ++ talliesItems (tallyOf f.options (entries.filter fun x => !x.skipped))
              ++ listItems (fun x => [.u8 (x.team.val + 1), .i16 x.points, .name x.cause.code]) awards
              ++ teamsItems ((entries.filter fun x => x.skipped).map BallotEntry.team) ++ [.name 8])
            ∧ t.roster = (handOverAll awards s).roster ∧ t.scores = (handOverAll awards s).scores
            ∧ (∃ d, d = { c with
                  phase := .revealed
                  ending := some { outcome := .revealed, cause := e.cause }
                  ballot := some { b with
                    entries := entries
                    revealed := some o
                    places := speedPlaces s.engine.tiePointer o f.places entries
                    tallies := some (tallyOf f.options (entries.filter fun x => !x.skipped)) } }
                ∧ t.engine = { active := some d, tiePointer := s.engine.tiePointer }
                ∧ t.desk = s.desk.judged (needFor s.desk.setting (some d)))
            ∧ endsWith ((handOverAll awards s).notices.withPending [.round]) s t)
    ∧ ((∃ x o, option = some x ∧ letterOf x = some o ∧ f.options ≤ o.code) ∨ (option = none ∧ f.correct = none) →
      completes (.reveal (.fits option)) s 0x19#8 { result := .refused .badValue, data := [.u8 f.options] } []
        fun _ => True)

/-- The awards of a REVEAL: one for each entry of a PRESENT team with a choice, in ballot order, then the speed
places, in place order (R136, R137). -/
def revealAwardsFollowTheChoices : Prop :=
  ∀ (s : State) (c : Context) (f : PollFields) (b : Ballot) (o : Letter),
    ∃ first speed, revealAwards s c f b o = first ++ speed
      ∧ first.map Award.team
          = (b.entries.filter fun e => s.teamPresent e.team && e.vote.isSome).map BallotEntry.team
      ∧ (∀ x ∈ first, x.question = some c.cue.question ∧ x.bonus = none
          ∧ ∃ e ∈ b.entries, ∃ v, e.team = x.team ∧ e.vote = some v
            ∧ (v.choice = o → x.points = c.cue.correctPoints ∧ x.cause = .revealRight)
            ∧ (v.choice ≠ o → x.points = c.cue.wrongPoints ∧ x.cause = .revealWrong))
      ∧ speed.map Award.team = speedPlaces s.engine.tiePointer o f.places
          (b.entries.map fun e => { e with skipped := !s.teamPresent e.team })
      ∧ (∀ x ∈ speed, x.points = f.placePoints ∧ x.cause = .speed ∧ x.question = some c.cue.question
          ∧ ∃ e ∈ b.entries, e.team = x.team ∧ s.teamPresent e.team = true ∧ ∃ v, e.vote = some v ∧ v.choice = o)

/-- One correct entry takes a speed place before another: by its choice capture time, and for equal times by the count
from the tie pointer (R137). -/
def fasterThan (pointer : TeamId) (x y : BallotEntry) : Prop :=
  ∃ v w, x.vote = some v ∧ y.vote = some w
    ∧ (0 < clockDiff v.capture w.capture ∨ (v.capture = w.capture
      ∧ (x.team.val + 16 - pointer.val) % 16 < (y.team.val + 16 - pointer.val) % 16))

/-- The speed places go to the first entries not skipped whose choice is correct, in the order of R137, as many as the
cue has places or as there are such entries.  The capture times of a question lie within half the range of the
clock, where R42 orders them. -/
def speedPlacesFollowTheTimes : Prop :=
  ∀ (pointer : TeamId) (o : Letter) (places : Nat) (entries : List BallotEntry) (first : ClockValue),
    (∀ e ∈ entries, ∀ v, e.vote = some v → (v.capture - first).toNat < 2 ^ 31) →
    ∃ order : List BallotEntry,
      order.Perm (entries.filter fun e => !e.skipped && decide (e.vote.map Vote.choice = some o))
      ∧ order.Pairwise (fun x y => ¬fasterThan pointer y x)
      ∧ speedPlaces pointer o places entries = (order.take places).map BallotEntry.team

/-- The tallies count the entries of each choice, and those with none (R134). -/
def talliesCountTheChoices : Prop :=
  ∀ (options : Nat) (entries : List BallotEntry),
    (∀ o : Letter, (tallyOf options entries).counts[o.code]? =
        if o.code < options then some (entries.filter fun e => decide (e.vote.map Vote.choice = some o)).length
        else none)
    ∧ (tallyOf options entries).noChoice = (entries.filter fun e => decide (e.vote = none)).length

/-- REVEAL of an option that is none of A to D is refused with BAD_VALUE, and with no POLL context CLOSED with
TIME_UP it is refused with WRONG_STATE (R135). -/
def revealNeedsAClosedPoll : Prop :=
  ∀ s : State, s.ready →
    (∀ x, letterOf x = none → completes (.reveal (.fits (some x))) s 0x19#8 (refuse .badValue) [] fun _ => True)
    ∧ (∀ option, (∀ x, option = some x → letterOf x ≠ none) →
        (∀ c e, s.engine.active = some c → c.isPoll = true → c.ending = some e →
          c.phase ≠ .closed ∨ e.outcome ≠ .timeUp) →
      completes (.reveal (.fits option)) s 0x19#8 (refuse .wrongState) [] fun _ => True)

/-- REVEAL hands over the awards of the ballot, which follow the choices and the speed order, answers with them and the
tallies, or is refused (R134 to R138). The model's own: log 12. -/
def Obligations.RevealAwardsTheVotes : Prop :=
  revealAwardsTheBallot ∧ revealAwardsFollowTheChoices ∧ speedPlacesFollowTheTimes ∧ talliesCountTheChoices
    ∧ revealNeedsAClosedPoll

/-! ### Commands of the score unit -/

/-- Applying an award (R143): the clamped score, the last award, SCORE pending, and the team in the changed set, marked
saturated if it was or this application is; no other team joins or changes its mark. -/
def awardChangesItsTeam : Prop :=
  ∀ (s : State) (a : Award),
    let t := applyOne a s
    let sum := (s.team a.team).score + a.points
    ((-9999 ≤ sum ∧ sum ≤ 9999 → (t.team a.team).score = sum)
      ∧ (sum < -9999 → (t.team a.team).score = -9999) ∧ (9999 < sum → (t.team a.team).score = 9999))
    ∧ (t.team a.team).last = some { points := a.points, cause := a.cause }
    ∧ (t.team a.team).state = (s.team a.team).state ∧ (t.team a.team).tag = (s.team a.team).tag
    ∧ (∀ n, n ≠ a.team → t.team n = s.team n)
    ∧ (∀ m : ScoreMark, m.team ≠ a.team → (m ∈ t.scores.changed ↔ m ∈ s.scores.changed))
    ∧ (∃ m ∈ t.scores.changed, m.team = a.team)
    ∧ (s.changedAscending → ∀ m ∈ t.scores.changed, m.team = a.team → (m.saturated = true ↔
        sum < -9999 ∨ 9999 < sum ∨ ∃ m₀ ∈ s.scores.changed, m₀.team = a.team ∧ m₀.saturated = true))
    ∧ t.scores.lock = s.scores.lock ∧ t.scores.pendingAwards = s.scores.pendingAwards
    ∧ t.notices = s.notices.withPending [.score]
    ∧ t.board = (if s.board.auto = true then { s.board with request := true } else s.board)

/-- The counts and the streak by the cause of the award applied, 255 not being raised (R144). -/
def Obligations.CountsFollowTheCause : Prop :=
  ∀ (s : State) (a : Award),
    let before := s.team a.team
    let after := (applyOne a s).team a.team
    let up := fun n : Nat => if n = 255 then 255 else n + 1
    s.scoresInRange →
    (a.cause = .correct →
      after.correct = up before.correct ∧ after.wrong = before.wrong ∧ after.streak = up before.streak)
    ∧ (a.cause = .wrong → after.correct = before.correct ∧ after.wrong = up before.wrong ∧ after.streak = 0)
    ∧ (a.cause = .revealRight →
      after.correct = up before.correct ∧ after.wrong = before.wrong ∧ after.streak = before.streak)
    ∧ (a.cause = .revealWrong →
      after.correct = before.correct ∧ after.wrong = up before.wrong ∧ after.streak = before.streak)
    ∧ (a.cause = .streak ∨ a.cause = .speed ∨ a.cause = .manual →
      after.correct = before.correct ∧ after.wrong = before.wrong ∧ after.streak = before.streak)

/-- An award is handed over by the state of the lock (R145, R146, R152): FREE, it is applied, with its STREAK award
where the raised streak is a multiple of 3 and there are bonus points; HELD with room, it joins the list and
nothing else changes; HELD with 16 awards, the lock ends with cause FULL and the award is applied. -/
def awardsAreHandedOverByTheLock : Prop :=
  ∀ (s : State) (a : Award),
    (s.scores.lock = .free →
      (∀ n, a.cause = .correct → a.bonus = some n → (s.team a.team).streak < 255 →
          ((s.team a.team).streak + 1) % 3 = 0 → 0 < n →
        handOver a s = applyOne { team := a.team, points := n, cause := .streak, question := a.question,
                                  bonus := none } (applyOne a s))
      ∧ (a.cause ≠ .correct ∨ a.bonus = none ∨ a.bonus = some 0 ∨ 255 ≤ (s.team a.team).streak
          ∨ ((s.team a.team).streak + 1) % 3 ≠ 0 → handOver a s = applyOne a s))
    ∧ (∀ time snapshot, s.scores.lock = .held time snapshot → s.scores.pendingAwards.length < 16 →
      handOver a s = { s with scores := { s.scores with pendingAwards := s.scores.pendingAwards ++ [a] } })
    ∧ (∀ time snapshot, s.scores.lock = .held time snapshot → 16 ≤ s.scores.pendingAwards.length →
      (handOver a s).roster = (applyAwards (s.scores.pendingAwards ++ [a]) s).roster
        ∧ (handOver a s).scores.lock = .free ∧ (handOver a s).scores.pendingAwards = []
        ∧ (handOver a s).scores.lastEnd = some .full
        ∧ (handOver a s).notices.waiting.get .lock = true ∧ (handOver a s).notices.waiting.get .score = true)

/-- An award is handed over by the state of the lock, and applied as R143 says (R143, R145, R146, R152). -/
def Obligations.AwardsReachTheirTeams : Prop := awardChangesItsTeam ∧ awardsAreHandedOverByTheLock

/-- SCORE_ADJUST applies a MANUAL award of the delta, or of the difference to the value set, whatever the lock, and
answers with the score before, the points, the score after and whether it saturated (R147). -/
def Obligations.ScoreAdjustAppliesAManualAward : Prop :=
  ∀ (s : State) (args : ScoreAdjustArgs), s.ready →
    (∀ t points, teamOf args.team = some t →
        ((∃ v : Half, args.change = .delta v ∧ -9999 ≤ v.toInt ∧ v.toInt ≤ 9999 ∧ points = v.toInt)
          ∨ ∃ v : Half, args.change = .set v ∧ -9999 ≤ v.toInt ∧ v.toInt ≤ 9999
              ∧ points = v.toInt - (s.team t).score) →
      ∃ after, completes (.scoreAdjust (.fits args)) s 0x1B#8
        (ok [.i16 (s.team t).score, .i16 points, .i16 after,
          .flag (decide ((s.team t).score + points < -9999 ∨ 9999 < (s.team t).score + points))])
        [.teams, .scores, .board, .notices] fun u =>
          after = (u.team t).score
            ∧ u.team t = { s.team t with
                score := max (-9999) (min 9999 ((s.team t).score + points))
                last := some { points := points, cause := .manual } }
            ∧ (∀ n, n ≠ t → u.team n = s.team n)
            ∧ u.scores.lock = s.scores.lock ∧ u.scores.pendingAwards = s.scores.pendingAwards
            ∧ u.scores.lastEnd = s.scores.lastEnd
            ∧ (∃ m ∈ u.scores.changed, m.team = t)
            ∧ signals [.score] s u)
    ∧ (teamOf args.team = none
        ∨ (∃ v : Half, (args.change = .delta v ∨ args.change = .set v) ∧ (v.toInt < -9999 ∨ 9999 < v.toInt)) →
      completes (.scoreAdjust (.fits args)) s 0x1B#8 (refuse .badValue) [] fun _ => True)

/-- SCORE_LOCK takes a FREE lock with its lapse time and the snapshot of the 16 live scores; a lapse outside 1 to 60 s
is refused first, then a lock already HELD (R148). -/
def Obligations.ScoreLockTakesTheSnapshot : Prop :=
  ∀ (s : State) (b : Byte), s.ready →
    (1 ≤ b.toNat → b.toNat ≤ 60 → s.scores.lock = .free →
      ∃ time, time = s.clock + BitVec.ofNat 32 (b.toNat * 4000)
        ∧ completes (.scoreLock (.fits b)) s 0x1C#8 (ok [.clock time]) [.scores, .board, .notices] fun t =>
          (∃ snapshot, t.scores = { s.scores with lock := .held time snapshot }
            ∧ ∀ n, look snapshot n = (s.team n).score) ∧ signals [] s t)
    ∧ (1 ≤ b.toNat → b.toNat ≤ 60 → s.scores.lock ≠ .free →
      completes (.scoreLock (.fits b)) s 0x1C#8 (refuse .lockHeld) [] fun _ => True)
    ∧ (b.toNat = 0 ∨ 60 < b.toNat →
      completes (.scoreLock (.fits b)) s 0x1C#8 (refuse .badValue) [] fun _ => True)

/-- SCORE_UNLOCK and LAPSE end a held lock in the same way: the waiting awards are applied in list order, the
list emptied and the lock FREE. The lapse, once reached, also sets the last end cause and LOCK pending; with the
lock FREE the command is refused with NOT_HELD and the lapse is nothing (R150, R151). The model's own: log 2, 12
and 29. -/
def Obligations.UnlockAndLapseEndTheLock : Prop :=
  ∀ (s : State) (time : ClockValue) (snapshot : Vector Int 16),
    (s.ready → s.scores.lock = .held time snapshot →
      ∃ a, completes (.scoreUnlock (.fits .none)) s 0x1D#8 a [.teams, .scores, .board, .notices] fun t =>
        a = ok (.u8 s.scores.pendingAwards.length :: marksItems t.scores.changed)
          ∧ t.roster = (applyAwards s.scores.pendingAwards s).roster
          ∧ t.scores = { (applyAwards s.scores.pendingAwards s).scores with lock := .free, pendingAwards := [] }
          ∧ endsWith (applyAwards s.scores.pendingAwards s).notices s t)
    ∧ (s.ready → s.scores.lock = .free →
      completes (.scoreUnlock (.fits .none)) s 0x1D#8 (refuse .notHeld) [] fun _ => True)
    ∧ (s.noRequest → s.scores.lock = .held time snapshot → clockDiff s.clock time ≤ 0 →
      happens .lapse s [.teams, .scores, .board, .notices] fun t =>
        t.roster = (applyAwards s.scores.pendingAwards s).roster
          ∧ t.scores = { (applyAwards s.scores.pendingAwards s).scores with
              lock := .free, pendingAwards := [], lastEnd := some .lapsed }
          ∧ endsWith ((applyAwards s.scores.pendingAwards s).notices.withPending [.lock]) s t)
    ∧ (s.noRequest → s.scores.lock = .free ∨ (s.scores.lock = .held time snapshot ∧ 0 < clockDiff s.clock time) →
      exec .lapse s = .next s)

/-! ### Commands of the context stack and the silence monitor -/

/-- A context with its round window paused (R86). -/
def pausedAt (now : ClockValue) (c : Context) : Context :=
  { c with
      roundRemaining := (match c.roundDeadline with
        | some d => some (clockDiff now d).toNat
        | none => c.roundRemaining)
      roundDeadline := none }

/-- A saved context as ROUND_RESUME brings it back: ARMED stays ARMED, OPEN enters OPEN on a line at SPRINT and
OPENING on a line at ROAM (R162). -/
def backFromStack (now : ClockValue) (speed : LineSpeed) (c : Context) : Context :=
  match c.phase, speed with
  | .opened, .sprint => openedAt now c
  | .opened, .roam => { c with phase := .opening }
  | _, _ => c

/-- ROUND_SUSPEND pushes an ARMED or OPEN context with its window paused while the stack holds fewer than 2;
ROUND_RESUME pops the top of the stack into an engine at rest. Both are refused as R158 and R162 say. The
model's own: log 12. -/
def Obligations.SuspendPushesAndResumePops : Prop :=
  ∀ s : State, s.ready →
    (∀ c, s.engine.active = some c → c.phase = .armed ∨ c.phase = .opened → s.stack.length < 2 →
      completes (.roundSuspend (.fits .none)) s 0x1F#8
        (ok ([.slot c.source, .name c.phase.code] ++ optItems ticksItem (pausedAt s.clock c).roundRemaining
          ++ [.u8 (s.stack.length + 1)])) [.board, .notices, .desk, .engine, .stack] fun t =>
          t.stack = { context := pausedAt s.clock c, origin := .suspend } :: s.stack
            ∧ roundChangesTo none [] s t ∧ t.engine.tiePointer = s.engine.tiePointer)
    ∧ (∀ c, s.engine.active = some c → c.phase = .armed ∨ c.phase = .opened → 2 ≤ s.stack.length →
      completes (.roundSuspend (.fits .none)) s 0x1F#8 (refuse .stackFull) [] fun _ => True)
    ∧ (∀ c, s.engine.active = some c → c.phase = .floor →
      completes (.roundSuspend (.fits .none)) s 0x1F#8 (refuse .floorHeld) [] fun _ => True)
    ∧ ((∀ c, s.engine.active = some c → c.phase ≠ .armed ∧ c.phase ≠ .opened ∧ c.phase ≠ .floor) →
      completes (.roundSuspend (.fits .none)) s 0x1F#8 (refuse .wrongState) [] fun _ => True)
    ∧ (∀ x rest, s.atRest = true → s.stack = x :: rest → x.context.held = false →
        x.context.phase = .armed ∨ x.context.phase = .opened →
      completes (.roundResume (.fits .none)) s 0x20#8
        (ok ([.slot x.context.source, .i16 x.context.cue.question,
            .name (backFromStack s.clock s.desk.speed x.context).phase.code]
          ++ optItems ticksItem x.context.roundRemaining ++ [.u8 rest.length]))
        [.board, .notices, .desk, .engine, .stack] fun t =>
          t.stack = rest ∧ roundChangesTo (some (backFromStack s.clock s.desk.speed x.context)) [] s t
            ∧ t.engine.tiePointer = s.engine.tiePointer)
    ∧ (s.atRest = true → s.stack = [] →
      completes (.roundResume (.fits .none)) s 0x20#8 (refuse .stackEmpty) [] fun _ => True)
    ∧ (s.atRest = false →
      completes (.roundResume (.fits .none)) s 0x20#8 (refuse .wrongState) [] fun _ => True)

/-- A context as a hold begins (R166, R167): held, its round window paused, and in FLOOR its answer window paused
with the flash instant gone. -/
def heldFrom (now : ClockValue) (c : Context) : Context :=
  let c := { pausedAt now c with held := true }
  match c.phase, c.answerDeadline with
  | .floor, some d =>
    { c with answerRemainder := some (clockDiff now d).toNat, answerDeadline := none, flashInstant := none }
  | _, _ => c

/-- SILENCE_ARM arms a DISARMED monitor with a period of 2 to 60 s, and nothing rearms it; SILENCE_DEADLINE,
once reached, begins a hold of the active context, and is nothing otherwise (R164, R166, R167). The model's own:
log 2. -/
def Obligations.SilenceIsArmedAndBeginsAHold : Prop :=
  ∀ s : State,
    (∀ b : Byte, s.ready → 2 ≤ b.toNat → b.toNat ≤ 60 → s.silence = .disarmed →
      ∃ t, exec (.silenceArm (.fits b)) s = .next t
        ∧ t.link = s.link.joined (.reply { kind := 0x21#8, answer := ok [.u8 b.toNat] })
        ∧ t.silence = .watching b.toNat s.clock (s.clock + BitVec.ofNat 32 (b.toNat * 4000))
        ∧ unchangedBut [.link, .silence] s t)
    ∧ (∀ b : Byte, s.ready → 2 ≤ b.toNat → b.toNat ≤ 60 → s.silence ≠ .disarmed →
      completes (.silenceArm (.fits b)) s 0x21#8 (refuse .alreadyArmed) [] fun _ => True)
    ∧ (∀ b : Byte, s.ready → b.toNat < 2 ∨ 60 < b.toNat →
      completes (.silenceArm (.fits b)) s 0x21#8 (refuse .badValue) [] fun _ => True)
    ∧ (∀ period last deadline, s.noRequest → s.silence = .watching period last deadline →
        clockDiff s.clock deadline ≤ 0 →
      happens .silenceDeadline s [.silence, .board, .notices, .engine] fun t =>
        t.silence = .holding period last ∧ signals [.hold] s t
          ∧ t.engine = { s.engine with active := s.engine.active.map (heldFrom s.clock) })
    ∧ (s.noRequest → (∀ period last deadline, s.silence = .watching period last deadline →
        0 < clockDiff s.clock deadline) → exec .silenceDeadline s = .next s)

/-- A held context as the hold ends, before its settle test: unheld, its round window started in OPEN and SETTLING,
its answer window in FLOOR set again from the remainder (R168, steps 1 to 3). -/
def unheldAs (now : ClockValue) (c : Context) : Context :=
  match c.phase with
  | .opened => backIn .opened now { c with held := false }
  | .settling => backIn .settling now { c with held := false }
  | .floor =>
    match c.answerRemainder with
    | none => { c with held := false }
    | some n =>
      { c with
          held := false
          answerDeadline := some (now + BitVec.ofNat 32 n)
          answerRemainder := none
          flashInstant := some (now + BitVec.ofNat 32 n - 20000#32)
          flashing := c.flashing || decide (n ≤ 20000) }
  | .armed | .opening | .closing | .closed | .revealed => { c with held := false }

/-- A valid frame in a hold ends the hold before its command acts: the command does what it does on the state in
which the monitor is WATCHING again, HOLD is pending and the held context has been released, with a settled head
of a SETTLING queue granted the floor (R165, R168). The model's own: log 25. -/
def Obligations.AFrameEndsTheHold : Prop :=
  ∀ (i : Instr) (c : Command) (s : State) (period : Nat) (last : ClockValue), i.frameCommand = some c →
    s.silence = .holding period last → s.link.restarting = false → s.link.held = none →
    s.link.queue.length < 4 →
    ∃ u, exec i s = exec i u
      ∧ u.silence = .watching period s.clock (s.clock + BitVec.ofNat 32 (period * 4000))
      ∧ u.board = (if s.board.auto = true then { s.board with request := true } else s.board)
      ∧ u.roster = s.roster ∧ u.clock = s.clock ∧ u.debounce = s.debounce ∧ u.cues = s.cues
      ∧ u.stack = s.stack ∧ u.scores = s.scores ∧ u.link = s.link ∧ u.cause = s.cause ∧ u.strap = s.strap
      ∧ u.pending = s.pending
      ∧ (s.engine.active = none → u.engine = s.engine ∧ u.desk = s.desk
          ∧ u.notices = s.notices.withPending [.hold])
      ∧ (∀ d, s.engine.active = some d → d.held = true →
          (d.phase = .settling → ∀ head rest, d.queue = head :: rest → ¬hasSettled s head) →
        u.engine = { s.engine with active := some (unheldAs s.clock d) } ∧ u.desk = s.desk
          ∧ u.notices = s.notices.withPending [.hold])
      ∧ (∀ d head rest, s.engine.active = some d → d.held = true → d.phase = .settling →
          d.queue = head :: rest → hasSettled s head →
        (∃ e, grantedAs s.clock head rest (unheldAs s.clock d) e ∧ u.engine.active = some e)
          ∧ u.engine.tiePointer = tieAfterGrant s.engine.tiePointer head rest
          ∧ u.desk = s.desk.judged true ∧ u.notices = s.notices.withPending [.floor, .round, .hold])

/-! ### Commands and events of the board unit -/

/-- The board unit once an operation is complete (R174, R180, R183). -/
def operationDone (result : BoardResult) (b : Board) : Board :=
  { b with
      operation := .idle
      again := false
      lastResult := some result
      completed := if b.completed < 255 then b.completed + 1 else b.completed }

/-- The panel record a scan leaves: PRESENT with a cell count of 8 to 32, and otherwise ABSENT, its image UNKNOWN
(R174). -/
def panelFound (answer : Option Nat) : PanelRecord :=
  match answer with
  | none => { presence := .absent, cells := none, shown := none }
  | some n =>
    if 8 ≤ n ∧ n ≤ 32 then { presence := .present, cells := some n, shown := none }
    else { presence := .absent, cells := none, shown := none }

/-- What follows the identify of a panel: the next panel is asked, and after panel 3 the scan is complete, and a publish
starts where auto-publish is ON or the publish-again flag was set (R174, R181). -/
def identifyFollowed (p : PanelId) (answer : Option Nat) (i : Instr) (s : State) : Prop :=
  let b := { s.board with panels := put s.board.panels p (panelFound answer) }
  let results := (List.finRange 4).map fun q =>
    { presence := (look b.panels q).presence, cells := (look b.panels q).cells }
  let ended := { s with board := operationDone (.scan results) b, notices := s.notices.withPending [.board] }
  (∀ q : PanelId, q.val = p.val + 1 → exec i s = .next { s with board := { b with operation := .scan q } })
    ∧ (p.val = 3 → exec i s = .next (if s.board.auto = true ∨ s.board.again = true then startPublish ended else ended))

/-- BOARD_SCAN starts a scan on a line at rest and is answered RETRY on a busy one; each identify ends with the
answer taken or with its 10 ms, an answer that is not taken changes nothing, and without a scan in progress the
events of the identify are nothing (R173, R174). The model's own: log 3, 11, 19, 34 and 35. -/
def Obligations.ScansFindThePanels : Prop :=
  ∀ s : State,
    (s.ready → s.board.operation = .idle →
      completes (.boardScan (.fits .none)) s 0x23#8 { result := .queued, data := [] } [.board] fun t =>
        t.board = { s.board with operation := .scan 0 })
    ∧ (s.ready → s.board.operation ≠ .idle →
      completes (.boardScan (.fits .none)) s 0x23#8 { result := .retry, data := [] } [] fun _ => True)
    ∧ (∀ p, s.noRequest → s.board.operation = .scan p →
      identifyFollowed p none .identifyTimeout s
        ∧ ∀ a : IdentifyReply,
          (a.checkGood = true ∧ a.panel.toNat = p.val →
            identifyFollowed p (some a.cells.toNat) (.identifyAnswer a) s)
          ∧ (¬(a.checkGood = true ∧ a.panel.toNat = p.val) → exec (.identifyAnswer a) s = .next s))
    ∧ (s.noRequest → (∀ p, s.board.operation ≠ .scan p) →
      exec .identifyTimeout s = .next s ∧ ∀ a, exec (.identifyAnswer a) s = .next s)

/-- A publish visits the panels left: an ABSENT one is skipped, one that shows the image needs nothing, and any other
is sent its update; after the last the publish is complete (R180). -/
def publishVisits (image : List (List Cell)) : Prop :=
  ∀ (s : State) (results : List PanelResult),
    (∀ p rest, (s.panel p).presence = .absent →
      visitPanels image (p :: rest) results s = visitPanels image rest (results ++ [.skipped]) s)
    ∧ (∀ p rest, (s.panel p).presence ≠ .absent → runsFor (s.panel p) ((image[p.val]?).getD []) = [] →
      visitPanels image (p :: rest) results s = visitPanels image rest (results ++ [.nothing]) s)
    ∧ (∀ p rest runs, (s.panel p).presence ≠ .absent → runsFor (s.panel p) ((image[p.val]?).getD []) = runs →
        runs ≠ [] →
      visitPanels image (p :: rest) results s
        = { s with board := { s.board with operation := .publish image p runs results } })
    ∧ (s.noRequest → s.board.again = false →
      visitPanels image [] results s = { s with
        board := operationDone (.publish results (results.map PanelResult.acknowledged).sum) s.board
        notices := s.notices.withPending [.board] })

/-- What follows an update: the panel record changes, and the publish goes on with the panels after it; a publish that
completes with the publish-again flag set starts another at once (R180, R181). -/
def updateFollowed (image : List (List Cell)) (p : PanelId) (result : PanelResult) (r : PanelRecord)
    (results : List PanelResult) (i : Instr) (s : State) : Prop :=
  let u := { s with board := { s.board with panels := put s.board.panels p r } }
  let t := visitPanels image ((List.finRange 4).filter fun q => decide (p < q)) (results ++ [result])
    { u with board := { u.board with again := false } }
  (s.board.again = false → exec i s = .next t)
    ∧ (s.board.again = true → t.board.operation = .idle → exec i s = .next (startPublish t))
    ∧ (s.board.again = true → t.board.operation ≠ .idle →
        exec i s = .next { t with board := { t.board with again := true } })

/-- PANEL_ACK with a good check from the panel addressed writes the runs into the shown image and makes the
panel PRESENT; PANEL_ACK_TIMEOUT makes it FAULT with its image UNKNOWN; any other answer changes nothing; without a
publish in progress neither is anything (R173, R180, R186). -/
def updatesEnd : Prop :=
  ∀ (s : State), s.noRequest →
    (∀ image, publishVisits image)
    ∧ (∀ image p runs results, s.board.operation = .publish image p runs results →
      let count := (runs.map fun r => r.cells.length).sum
      let broken := { s.panel p with presence := PanelPresence.fault, shown := none }
      updateFollowed image p (.fault count) broken results .panelAckTimeout s
        ∧ ∀ a : PanelAnswer,
          (a.checkGood = true ∧ a.panel.toNat = p.val →
            updateFollowed image p (.sent count)
              { s.panel p with presence := .present, shown := some (runs.foldl writeRun ((s.panel p).shown.getD [])) }
              results (.panelAck a) s)
          ∧ (¬(a.checkGood = true ∧ a.panel.toNat = p.val) → exec (.panelAck a) s = .next s))
    ∧ ((∀ image p runs results, s.board.operation ≠ .publish image p runs results) →
      exec .panelAckTimeout s = .next s ∧ ∀ a, exec (.panelAck a) s = .next s)

/-- An update carries every cell where the shown image is UNKNOWN; otherwise its runs are the longest stretches of
consecutive cells below the cell count that differ from the shown image, in ascending order (R180). -/
def updatesCarryTheDifferences : Prop :=
  ∀ (r : PanelRecord) (image : List Cell),
    (r.shown = none → runsFor r image = [{ first := 0, cells := image.take (r.cells.getD 0) }])
    ∧ ∀ shown, r.shown = some shown →
      let now := image.take (r.cells.getD 0)
      (∀ run ∈ runsFor r image, run.cells ≠ [] ∧ ∀ k x, run.cells[k]? = some x →
        now[run.first + k]? = some x ∧ ∃ y, shown[run.first + k]? = some y ∧ x ≠ y)
      ∧ (∀ (i : Nat) (x y : Cell), now[i]? = some x → shown[i]? = some y → x ≠ y →
        ∃ run ∈ runsFor r image, run.first ≤ i ∧ i < run.first + run.cells.length)
      ∧ (runsFor r image).Pairwise fun a b => a.first + a.cells.length < b.first

/-- An update carries what differs, and ends with its acknowledgement or with its 10 ms (R173, R180, R186). The
model's own: log 3, 19, 27 and 34. -/
def Obligations.UpdatesAreAcknowledgedOrFault : Prop := updatesEnd ∧ updatesCarryTheDifferences

/-- A publish starts: the board image of the state as it stands is rendered, the publish-again flag is cleared, and the
panels 0 to 3 are visited in that order with no results yet (R180, R181).  A request is taken by the line operation: at
rest a publish starts, and otherwise the publish-again flag is set (R181). -/
def publishesStart : Prop :=
  ∀ s : State,
    startPublish s = visitPanels s.boardImage [0, 1, 2, 3] [] { s with board := { s.board with again := false } }
    ∧ (s.noRequest → takeRequest s = s)
    ∧ (s.board.request = true →
      let taken := { s with board := { s.board with request := false } }
      (s.board.operation = .idle → takeRequest s = startPublish taken)
        ∧ (s.board.operation ≠ .idle →
          takeRequest s = { taken with board := { taken.board with again := true } }))

/-- BOARD_PUBLISH asks for a publish, BOARD_SET sets auto-publish and asks for one where it turns ON, and
COUNTDOWN_SECOND asks for one with auto-publish ON where a running countdown on a route held stands at a whole
second; otherwise it is nothing, as at a deadline that its expiry has removed (R176, R181, R182). -/
def publishesAreRequested : Prop :=
  ∀ s : State,
    (s.ready → completes (.boardPublish (.fits .none)) s 0x24#8
      { result := .queued, data := [.flag (decide (s.board.operation = .idle))] } [.board, .notices] fun t =>
        t = publishAsked { t with board := s.board, notices := s.notices })
    ∧ (∀ on, s.ready → completes (.boardSet (.fits on)) s 0x25#8 (ok []) [.board, .notices] fun t =>
        let u := { t with board := { s.board with auto := on }, notices := s.notices }
        (on = true → s.board.auto = false → t = publishAsked u)
          ∧ (on = false ∨ s.board.auto = true → t = u))
    ∧ (∀ c, s.noRequest → s.engine.active = some c →
      let due := (∃ n r d, s.route n = some r ∧ r.source = .roundTime ∧ c.roundDeadline = some d
            ∧ 0 ≤ clockDiff s.clock d ∧ clockDiff s.clock d % 4000 = 0)
        ∨ ∃ n r d, s.route n = some r ∧ r.source = .answerTime ∧ c.answerDeadline = some d
            ∧ 0 ≤ clockDiff s.clock d ∧ clockDiff s.clock d % 4000 = 0
      (due → s.board.auto = true → exec .countdownSecond s = .next (publishAsked s))
        ∧ (¬due ∨ s.board.auto = false → exec .countdownSecond s = .next s))
    ∧ (s.noRequest → s.engine.active = none → exec .countdownSecond s = .next s)

/-- The commands and the countdown watch ask for a publish, a request is taken by the line operation, and a publish that
starts renders the board image and visits the four panels (R176, R180, R181, R182). The model's own: log 10, 12, 18
and 32. -/
def Obligations.PublishesAreAskedFor : Prop := publishesAreRequested ∧ publishesStart

/-- ROUTE_SET places a route whose values lie in range, that fits its panel of 32 cells and, as a BASE route,
shares no cell with another; it is refused in that order. ROUTE_CLEAR empties one entry or all 32 and answers
how many held a route (R175, R176). -/
def routesArePlacedAndCleared : Prop :=
  ∀ (s : State) (a : RouteSetArgs), s.ready →
    (∀ n r, routeOf a.route = some n → routeOfArgs a = some r → r.first + r.width ≤ 32 →
        (∀ m q, m ≠ n → s.route m = some q → r.clashes q = false) →
      completes (.routeSet (.fits a)) s 0x26#8 (ok [.flag (s.route n).isSome]) [.board] fun t =>
        t.board = { s.board with routes := t.board.routes } ∧ t.route n = some r
          ∧ ∀ m, m ≠ n → t.route m = s.route m)
    ∧ (∀ n r, routeOf a.route = some n → routeOfArgs a = some r → 32 < r.first + r.width →
      completes (.routeSet (.fits a)) s 0x26#8 (refuse .range) [] fun _ => True)
    ∧ (∀ n r m q, routeOf a.route = some n → routeOfArgs a = some r → r.first + r.width ≤ 32 → m ≠ n →
        s.route m = some q → r.clashes q = true →
      completes (.routeSet (.fits a)) s 0x26#8 (refuse .overlap) [] fun _ => True)
    ∧ (routeOf a.route = none ∨ routeOfArgs a = none →
      completes (.routeSet (.fits a)) s 0x26#8 (refuse .badValue) [] fun _ => True)
    ∧ (∀ b n, routeOf b = some n →
      completes (.routeClear (.fits (.one b))) s 0x27#8 (ok [.u8 (if (s.route n).isSome then 1 else 0)]) [.board]
        fun t => t.board = { s.board with routes := t.board.routes } ∧ t.route n = none
          ∧ ∀ m, m ≠ n → t.route m = s.route m)
    ∧ (completes (.routeClear (.fits .all)) s 0x27#8
        (ok [.u8 ((List.finRange 32).filter fun n => (s.route n).isSome).length]) [.board]
        fun t => t.board = { s.board with routes := t.board.routes } ∧ ∀ m, t.route m = none)
    ∧ (∀ b, routeOf b = none →
      completes (.routeClear (.fits (.one b))) s 0x27#8 (refuse .badValue) [] fun _ => True)

/-- Ticks as whole seconds rounded up, 4,000 ticks to the second (R177). -/
def wholeSeconds (ticks : Nat) : Int := (ticks + 3999) / 4000

/-- What the sources of the teams and of the rank orders give (R177). -/
def teamSourcesGive : Prop :=
  ∀ s : State,
    (∀ t, s.sourceValue (.teamScore t) = .number (s.boardScore t))
    ∧ (∀ t g l, (s.team t).tag = some (g :: l) → s.sourceValue (.teamTag t) = .glyphs (g :: l))
    ∧ (∀ t, (s.team t).tag = none ∨ (s.team t).tag = some [] → s.sourceValue (.teamTag t) = .blank)
    ∧ (∀ (r : Fin 16) t, s.boardRanks[r.val]? = some t →
        s.sourceValue (.rankTeam r) = .number (t.val + 1)
          ∧ s.sourceValue (.rankScore r) = .number (s.boardScore t))
    ∧ (∀ r : Fin 16, s.boardRanks[r.val]? = none →
        s.sourceValue (.rankTeam r) = .blank ∧ s.sourceValue (.rankScore r) = .blank)
    ∧ ∀ l, s.sourceValue (.text l) = .glyphs l

/-- What the sources of the active context give; every one is blank in IDLE (R177). -/
def roundSourcesGive : Prop :=
  ∀ s : State,
    (s.engine.active = none → ∀ x : Source, x = .floorTeam ∨ x = .floorTag ∨ x = .question ∨ x = .roundTime
        ∨ x = .answerTime ∨ (∃ p, x = .queueTeam p) ∨ (∃ o, x = .tally o) → s.sourceValue x = .blank)
    ∧ ∀ c, s.engine.active = some c →
      (∀ t, c.holder = some t → s.sourceValue .floorTeam = .number (t.val + 1)
        ∧ (∀ g l, (s.team t).tag = some (g :: l) → s.sourceValue .floorTag = .glyphs (g :: l))
        ∧ ((s.team t).tag = none ∨ (s.team t).tag = some [] → s.sourceValue .floorTag = .blank)
        ∧ (∀ d, c.answerDeadline = some d →
          s.sourceValue .answerTime = .number (wholeSeconds (clockDiff s.clock d).toNat))
        ∧ (∀ n, c.answerDeadline = none → c.answerRemainder = some n →
          s.sourceValue .answerTime = .number (wholeSeconds n)))
      ∧ (c.holder = none → s.sourceValue .floorTeam = .blank ∧ s.sourceValue .floorTag = .blank
        ∧ s.sourceValue .answerTime = .blank)
      ∧ (∀ (p : Fin 3) q, c.isPoll = false → c.queue[p.val]? = some q →
        s.sourceValue (.queueTeam p) = .number (q.team.val + 1))
      ∧ (∀ p : Fin 3, c.isPoll = true ∨ c.queue[p.val]? = none → s.sourceValue (.queueTeam p) = .blank)
      ∧ s.sourceValue .question = .number c.cue.question
      ∧ (∀ d, c.roundDeadline = some d →
        s.sourceValue .roundTime = .number (wholeSeconds (clockDiff s.clock d).toNat))
      ∧ (∀ n, c.roundDeadline = none → c.roundRemaining = some n →
        s.sourceValue .roundTime = .number (wholeSeconds n))
      ∧ (c.roundDeadline = none → c.roundRemaining = none → s.sourceValue .roundTime = .blank)
      ∧ (∀ (o : Letter) b x n, c.phase = .closed ∨ c.phase = .revealed → c.ballot = some b → b.tallies = some x →
        x.counts[o.code]? = some n → s.sourceValue (.tally o) = .number n)
      ∧ (∀ o : Letter, (c.phase ≠ .closed ∧ c.phase ≠ .revealed)
          ∨ (∀ b x, c.ballot = some b → b.tallies = some x → x.counts[o.code]? = none) →
        s.sourceValue (.tally o) = .blank)

/-- The digits of a number: glyphs 0 to 9 with its value, 0 as one digit and no other leading zero (R178). -/
def spells (digits : List Glyph) (n : Nat) : Prop :=
  digits ≠ [] ∧ (∀ g ∈ digits, g.val < 10) ∧ digits.foldl (fun v g => 10 * v + g.val) 0 = n
    ∧ (digits.head? = some 0 → n = 0 ∧ digits.length = 1)

/-- Glyphs placed in a field of a width with Space elsewhere, or OVER throughout where they are too many (R178). -/
def placed (r : Route) (l : List Glyph) : List Glyph :=
  if r.width < l.length then List.replicate r.width 40
  else
    match r.align with
    | .left => l ++ List.replicate (r.width - l.length) 36
    | .right => List.replicate (r.width - l.length) 36 ++ l

/-- A field is rendered from its source's value, every cell with the route's attribute; a number has Minus before its
digits where it is negative, and with fill ZERO is extended behind the Minus by leading zeros to the width (R178). -/
def fieldsAreFilled : Prop :=
  ∀ (s : State) (r : Route), r.width ≤ 8 →
    let shows := fun l : List Glyph => s.fieldCells r = l.map fun g => { glyph := g, look := r.look }
    (s.sourceValue r.source = .blank → shows (List.replicate r.width 36))
    ∧ (∀ l, s.sourceValue r.source = .glyphs l → shows (placed r l))
    ∧ ∀ z digits, s.sourceValue r.source = .number z → spells digits z.natAbs →
      let sign : List Glyph := if z < 0 then [37] else []
      (r.fill = .blank ∨ r.width < (sign ++ digits).length → shows (placed r (sign ++ digits)))
      ∧ (r.fill = .zero → (sign ++ digits).length ≤ r.width →
        shows (sign ++ List.replicate (r.width - (sign ++ digits).length) 0 ++ digits))

/-- The field of a route covers a cell of a panel (R175). -/
def coversCell (r : Route) (p : PanelId) (i : Nat) : Prop :=
  r.panel = p ∧ r.first ≤ i ∧ i < r.first + r.width

/-- A cell of the image shows the overlay of lowest number whose condition holds, otherwise its BASE route, otherwise
Space STEADY; and the conditions hold as R179 lists them. -/
def imageShowsTheRoutes : Prop :=
  ∀ (s : State) (p : PanelId) (i : Nat), i < 32 →
    let cell := (s.boardImage[p.val]?).bind fun row => row[i]?
    let overlay := fun (n : RouteId) (r : Route) => s.route n = some r ∧ coversCell r p i
      ∧ ∃ k, r.layer = .overlay k ∧ s.conditionHolds k = true
    let base := fun (n : RouteId) (r : Route) => s.route n = some r ∧ coversCell r p i ∧ r.layer = .base
    (∀ n r, overlay n r → (∀ m q, m < n → ¬overlay m q) → cell = (s.fieldCells r)[i - r.first]?)
    ∧ (∀ n r, base n r → (∀ m q, ¬overlay m q) → (∀ m q, m < n → ¬base m q) →
      cell = (s.fieldCells r)[i - r.first]?)
    ∧ ((∀ m q, ¬overlay m q ∧ ¬base m q) → cell = some { glyph := 36, look := .steady })
    ∧ (s.conditionHolds .held = true ↔ ∃ period last, s.silence = .holding period last)
    ∧ (s.conditionHolds .floor = true ↔ ∃ c, s.engine.active = some c ∧ c.phase = .floor)
    ∧ (s.conditionHolds .closed = true ↔
        ∃ c, s.engine.active = some c ∧ (c.phase = .closed ∨ c.phase = .revealed))
    ∧ (s.conditionHolds .locked = true ↔ ∃ time snapshot, s.scores.lock = .held time snapshot)

/-- ROUTE_SET and ROUTE_CLEAR place and clear routes, and the image of the board shows the values of their sources in
their fields (R175 to R179). The model's own: log 12 and 26. -/
def Obligations.RoutesAreSetAndCleared : Prop :=
  routesArePlacedAndCleared ∧ teamSourcesGive ∧ roundSourcesGive ∧ fieldsAreFilled ∧ imageShowsTheRoutes

/-! ### Events of the timers and the desk line -/

/-- ROUND_DEADLINE_EXPIRY, with the round deadline reached, closes a BUZZ or TIEBREAK question in OPEN with TIME_UP, puts
a POLL in CLOSING at the deadline, and in SETTLING stops the window at 0 and no more; FLASH_INSTANT, reached, sets
the countdown-flash marker.  Neither is anything before its time (R87 to R90, R113). -/
def windowsRunOut : Prop :=
  ∀ (s : State) (c : Context), s.noRequest → s.engine.active = some c →
    (∀ d, c.roundDeadline = some d → clockDiff s.clock d ≤ 0 →
      (c.phase = .opened → c.isPoll = false →
        happens .roundDeadlineExpiry s [.board, .notices, .desk, .engine] fun t =>
          (∃ e, closedAs s ⟨.timeUp, .expired⟩ (windowAtZero c) e ∧ roundChangesTo (some e) [] s t)
            ∧ t.engine.tiePointer = s.engine.tiePointer)
      ∧ (c.phase = .opened → c.isPoll = true →
        happens .roundDeadlineExpiry s [.board, .notices, .desk, .engine] fun t =>
          roundChangesTo (some (closingAs s .expired d c)) [] s t ∧ t.engine.tiePointer = s.engine.tiePointer)
      ∧ (c.phase = .settling → exec .roundDeadlineExpiry s
          = .next { s with engine := { s.engine with active := some (windowAtZero c) } }))
    ∧ ((∀ d, c.roundDeadline = some d → 0 < clockDiff s.clock d) → exec .roundDeadlineExpiry s = .next s)
    ∧ (∀ d, c.flashInstant = some d → clockDiff s.clock d ≤ 0 → exec .flashInstant s
        = .next { s with engine := { s.engine with
            active := some { c with flashing := true, flashInstant := none } } })
    ∧ ((∀ d, c.flashInstant = some d → 0 < clockDiff s.clock d) → exec .flashInstant s = .next s)

/-- Without an active context the events of its windows are nothing. -/
def idleHasNoWindows : Prop :=
  ∀ s : State, s.noRequest → s.engine.active = none →
    exec .roundDeadlineExpiry s = .next s ∧ exec .flashInstant s = .next s

/-- ROUND_DEADLINE_EXPIRY and FLASH_INSTANT act at their time (R87 to R90, R113). The model's own: log 2 and 3.
-/
def Obligations.RoundDeadlineAndFlashAct : Prop := windowsRunOut ∧ idleHasNoWindows

/-- ROAM_CYCLE_START begins a ROAM cycle on a ROAM line between cycles, or a switch cycle where SPRINT is
needed, with a switch no longer needed cancelled; SPRINT_CYCLE_START begins a SPRINT cycle on a SPRINT line
between cycles. The PRESENT pads are polled in ascending order. Elsewhere neither is anything (R24, R26, R28,
R32). The model's own: log 3, 6 and 30. -/
def Obligations.CyclesStart : Prop :=
  ∀ s : State, s.noRequest →
    (s.desk.speed = .roam → s.desk.stage = .atStart ∨ (s.desk.stage = .finished ∧ s.desk.cycleKind = .roam) →
      happens .roamCycleStart s [.desk] fun t => roamCycleBegun s t)
    ∧ (s.desk.speed = .sprint → s.desk.stage = .atStart →
      happens .sprintCycleStart s [.desk] fun t =>
        t.desk.cycleKind = .sprint ∧ t.desk.speed = .sprint ∧ t.desk.switch = s.desk.switch
          ∧ t.desk.setting = s.desk.setting ∧ t.desk.sprintCount = s.desk.sprintCount
          ∧ t.desk.changed = s.desk.changed ∧ pollsGoOn (s.padsWith .present) s t)
    ∧ (s.desk.speed = .sprint ∨ (∃ p rest, s.desk.stage = .polling p rest) ∨ (∃ p, s.desk.stage = .probing p)
        ∨ (∃ p, s.desk.stage = .draining p) ∨ (s.desk.stage = .finished ∧ s.desk.cycleKind ≠ .roam) →
      exec .roamCycleStart s = .next s)
    ∧ (s.desk.speed = .roam ∨ s.desk.stage ≠ .atStart → exec .sprintCycleStart s = .next s)

/-- POLL_MISS counts a miss of a PRESENT pad, which at the third goes LOST without its candidate and joins the
PAD changed set; a pad that is not PRESENT is left alone. A reply with a bad check or another address is a miss.
The cycle goes on.  Where RESTART has abandoned the cycle, the reply or miss ends the slot, changes no pad, and a ROAM
cycle starts; with no poll on the line nothing happens (R23, R24, R40, R50). The model's own: log 3, 19 and 30. -/
def Obligations.MissesAreCounted : Prop :=
  ∀ s : State, s.noRequest →
    (∀ p, s.desk.stage.openPoll = some p →
      happens .pollMiss s [.pads, .desk, .notices] fun t =>
        (∀ b, b ≠ p.address → t.pad b = s.pad b)
          ∧ ((s.pad p.address).presence ≠ .present → t.pad p.address = s.pad p.address
              ∧ t.desk.changed = s.desk.changed ∧ t.notices = s.notices)
          ∧ ((s.pad p.address).presence = .present → (s.pad p.address).misses < 2 →
              t.pad p.address = { s.pad p.address with misses := (s.pad p.address).misses + 1 }
              ∧ t.desk.changed = s.desk.changed ∧ t.notices = s.notices)
          ∧ ((s.pad p.address).presence = .present → 2 ≤ (s.pad p.address).misses →
              t.pad p.address = { s.pad p.address with presence := .lost, misses := 3, candidate := none }
              ∧ t.desk.changed = insertAsc p.address s.desk.changed
              ∧ t.notices = s.notices.withPending [.pad])
          ∧ cycleAdvances s t ∧ t.desk.speed = s.desk.speed ∧ t.desk.switch = s.desk.switch
          ∧ t.desk.cycleKind = s.desk.cycleKind ∧ t.desk.sprintCount = s.desk.sprintCount
          ∧ t.desk.setting = s.desk.setting)
    ∧ (∀ p r, s.desk.stage.openPoll = some p → r.checkGood = false ∨ r.address.toNat ≠ p.address.val →
      exec (.pollReplyTaken r) s = exec .pollMiss s)
    ∧ (∀ p, s.desk.stage = .draining p →
      happens .pollMiss s [.desk] (fun t => roamCycleBegun s t)
        ∧ ∀ r, exec (.pollReplyTaken r) s = exec .pollMiss s)
    ∧ (s.desk.stage.pollOnLine = none →
      exec .pollMiss s = .next s ∧ ∀ r, exec (.pollReplyTaken r) s = .next s)

/-- The key state and candidate of a pad after a reply with a bitmap and an effective age: the tables of R48 and R49, with
a candidate confirmed when its agreeing count comes to the debounce count (R45, R51). -/
def keysAfter (now : ClockValue) (debounce : Nat) (r : PadRecord) (keys : Keys) (age : Byte) :
    Keys × Option Candidate :=
  let fresh : Candidate := { changed := keysDiffer r.keys keys, firstSight := now, age := age, agreeing := 1 }
  let new := if debounce ≤ 1 then (keys, none) else (r.keys, some fresh)
  match r.candidate with
  | none => if keys = r.keys then (r.keys, none) else new
  | some c =>
    if keys = keysDiffer r.keys c.changed then
      if debounce ≤ c.agreeing + 1 then (keys, none) else (r.keys, some { c with agreeing := c.agreeing + 1 })
    else if keys = r.keys then (r.keys, none)
    else new

/-- A key is down in a bitmap. -/
def keyDown (x : Keys) : Key → Bool
  | .buzz => x.buzz
  | .option .a => x.a
  | .option .b => x.b
  | .option .c => x.c
  | .option .d => x.d

/-- The capture time of the candidate a reply agrees with, or of the one it makes: first sight minus age (R47, R48,
R49). -/
def captureTimeOf (now : ClockValue) (r : PadRecord) (keys : Keys) (age : Byte) : ClockValue :=
  match r.candidate with
  | none => now - age.setWidth 32
  | some c =>
    if keys = keysDiffer r.keys c.changed then c.firstSight - c.age.setWidth 32 else now - age.setWidth 32

/-- The press events of a pad whose accepted keys change: one for each key that goes from released to pressed, in the
order BUZZ, A, B, C, D, with the pad's effective team and one capture time; none from an unassigned pad (R51, R52). -/
def pressesMade (s : State) (a : PadAddr) (before after : Keys) (capture : ClockValue) : List Press :=
  match s.placeOf a with
  | none => []
  | some p =>
    ([.buzz, .option .a, .option .b, .option .c, .option .d].filter fun k =>
        !keyDown before k && keyDown after k).map fun k =>
      { pad := a, team := p.team, key := k, capture := capture }

/-- POLL_REPLY_TAKEN with a good check from the address polled: the pad is PRESENT with miss count 0 and the reply's
battery flag, a news of it joins the PAD changed set, an echo of SPRINT during a switch is recorded, an echo of
ROAM in SPRINT marks the pad LAGGING, the keys are judged with the effective age, and the cycle goes on.  The press
events of a candidate confirmed are taken one after another; a reply that confirms none touches no context (R22, R25,
R29, R31, R46 to R49, R51, R52). -/
def Obligations.RepliesUpdateThePad : Prop :=
  ∀ (s : State) (p : Poll) (r : PadReply), s.noRequest → s.desk.stage.openPoll = some p → r.checkGood = true →
    r.address.toNat = p.address.val →
    happens (.pollReplyTaken r) s [.pads, .desk, .engine, .board, .notices] fun t =>
      let a := p.address
      let before := s.pad a
      let slow := decide (s.desk.speed = .sprint ∧ r.echo = .roam)
      let age : Byte := match r.age with
        | some g => if s.desk.speed = .sprint ∧ (before.lagging || slow) = false then g else 0#8
        | none => 0#8
      let news := before.presence ≠ .present ∨ before.batteryLow ≠ r.batteryLow
        ∨ (slow = true ∧ before.lagging = false)
      t.pad a = { before with
          presence := .present
          misses := 0
          batteryLow := r.batteryLow
          lagging := before.lagging || slow
          keys := (keysAfter s.clock s.debounce before r.keys age).1
          candidate := (keysAfter s.clock s.debounce before r.keys age).2 }
        ∧ (∀ b, b ≠ a → t.pad b = s.pad b)
        ∧ (news → t.desk.changed = insertAsc a s.desk.changed ∧ t.notices.waiting.get .pad = true)
        ∧ (¬news → t.desk.changed = s.desk.changed)
        ∧ t.desk.switch = (match s.desk.switch with
            | some w => some (if s.desk.speed = .roam ∧ r.echo = .sprint then
                { w with echoed := insertAsc a w.echoed } else w)
            | none => t.desk.switch)
        ∧ t.desk.speed = s.desk.speed ∧ t.desk.setting = s.desk.setting
        ∧ t.desk.cycleKind = s.desk.cycleKind ∧ t.desk.sprintCount = s.desk.sprintCount
        ∧ cycleAdvances s t
        ∧ t.engine = ((pressesMade s a before.keys (keysAfter s.clock s.debounce before r.keys age).1
            (captureTimeOf s.clock before r.keys age)).foldl (fun u press => takePress press u) s).engine
        ∧ ((keysAfter s.clock s.debounce before r.keys age).1 = before.keys →
            t.engine = s.engine ∧ t.board = s.board ∧ t.desk.switch.isSome = s.desk.switch.isSome)

/-- A press passes the round engine's first examination (R85). -/
def passesExamination (p : Press) (c : Context) (s : State) : Prop :=
  c.phase.takesPresses = true ∧ p.team ∈ c.eligible ∧ (s.team p.team).state = .present
    ∧ ∀ t, c.openInstant = some t → clockDiff p.capture t ≤ 0

/-- A press in IDLE, or one that fails the first examination, is discarded: a state that takes none, a team not eligible
or not PRESENT, a false start (R85). -/
def pressesAreExamined : Prop :=
  ∀ (s : State) (p : Press),
    (s.engine.active = none → takePress p s = s)
    ∧ ∀ c, s.engine.active = some c → ¬passesExamination p c s → takePress p s = s

/-- An admission to the claim queue: a queue change, and from OPEN a round change into SETTLING (R102, R108). -/
def claimAdmitted (p : Press) (c d : Context) (ks : List NoticeKind) (s : State) : Prop :=
  takePress p s = { s with
    engine := { s.engine with active := some { d with overflow := c.overflow.filter fun t => t != p.team } }
    notices := s.notices.withPending ks
    desk := if c.phase = .opened then s.desk.judged true else s.desk
    board := if s.board.auto = true then { s.board with request := true } else s.board }

/-- What a press does to the claim queue (R101, R102, R104 to R107): discarded for another key, from a team locked out,
or from a team with a claim that it does not improve; an improvement in SETTLING places the claim again; a new claim
is admitted by the state, contested in FLOOR where it is earlier than the holder's; a full queue gives up its last
claim to an earlier one, and otherwise only the overflow set gains the team. -/
def pressesMakeClaims : Prop :=
  ∀ (s : State) (p : Press) (c : Context), s.engine.active = some c → c.isPoll = false → passesExamination p c s →
    let claim : Claim := { team := p.team, pad := p.pad, capture := p.capture, joinCycle := s.desk.sprintCount,
                           contested := false }
    let place := insertClaim s.engine.tiePointer
    (p.key ≠ .buzz ∨ p.team ∈ c.lockout → takePress p s = s)
    ∧ (p.key = .buzz → p.team ∉ c.lockout →
      (∀ old, (c.queue.find? fun q => q.team == p.team) = some old →
        (c.phase = .settling → 0 < clockDiff p.capture old.capture →
          let better := { old with pad := p.pad, capture := p.capture, joinCycle := s.desk.sprintCount }
          let queue := place better (c.queue.filter fun q => q.team != p.team)
          takePress p s = { s with
            engine := { s.engine with active := some { c with queue := queue } }
            notices := s.notices.withPending [.queue]
            board := if s.board.auto = true then { s.board with request := true } else s.board })
        ∧ (c.phase ≠ .settling ∨ clockDiff p.capture old.capture ≤ 0 → takePress p s = s))
      ∧ (c.hasClaim p.team = false → c.queue.length < 8 →
        (c.phase = .opened →
          claimAdmitted p c { c with queue := place claim c.queue, phase := .settling } [.queue, .round] s)
        ∧ (c.phase = .settling → claimAdmitted p c { c with queue := place claim c.queue } [.queue] s)
        ∧ (∀ head rest, c.phase = .floor → c.queue = head :: rest →
          (0 < clockDiff p.capture head.capture →
            claimAdmitted p c { c with queue := head :: place { claim with contested := true } rest }
              [.queue, .floor] s)
          ∧ (clockDiff p.capture head.capture ≤ 0 →
            claimAdmitted p c { c with queue := head :: place claim rest } [.queue] s)))
      ∧ (∀ last, c.hasClaim p.team = false → c.queue.length = 8 → c.queue.getLast? = some last →
        (0 < clockDiff p.capture last.capture →
          let shorter := { c with queue := c.queue.dropLast, overflow := insertAsc last.team c.overflow }
          takePress p s = takePress p { s with engine := { s.engine with active := some shorter } })
        ∧ (clockDiff p.capture last.capture ≤ 0 →
          let d := { c with overflow := insertAsc p.team c.overflow }
          takePress p s = { s with engine := { s.engine with active := some d } })))

/-- What a press does to the entry it reaches (R127, R128, R129): the first choice, and after it what the change policy
allows, the change count staying at 255. -/
def choiceTaken (policy : ChangePolicy) (o : Letter) (capture : ClockValue) (e e' : BallotEntry) : Prop :=
  (e.vote = none → e' = { e with vote := some { choice := o, capture := capture, firstCapture := capture } })
  ∧ ∀ v, e.vote = some v →
    let raised := if e.changes < 255 then e.changes + 1 else e.changes
    (policy = .firstStands →
      (0 < clockDiff capture v.capture → e' = { e with
        vote := some { choice := o, capture := capture, firstCapture := capture }
        changes := if o = v.choice then e.changes else raised })
      ∧ (clockDiff capture v.capture ≤ 0 → e' = e))
    ∧ (policy = .lastStands →
      (0 < clockDiff v.capture capture → o ≠ v.choice → e' = { e with
        vote := some { choice := o, capture := capture, firstCapture := v.firstCapture }
        changes := raised })
      ∧ (clockDiff v.capture capture ≤ 0 ∨ o = v.choice → e' = e))

/-- What a press does to the ballot table, in OPEN and in CLOSING (R126 to R129): discarded for BUZZ, for an option
beyond the count, and where it is not earlier than the round deadline in OPEN or the close instant in CLOSING;
otherwise it is taken into its team's entry, and nothing else changes. -/
def pressesMakeVotes : Prop :=
  ∀ (s : State) (p : Press) (c : Context) (f : PollFields) (b : Ballot), s.engine.active = some c →
    c.pollFields = some f → c.ballot = some b → c.phase = .opened ∨ c.phase = .closing → passesExamination p c s →
    let late := ∃ d, (c.phase = .opened ∧ c.roundDeadline = some d ∨ c.phase = .closing ∧ c.closeInstant = some d)
      ∧ clockDiff p.capture d ≤ 0
    (p.key = .buzz ∨ (∃ o, p.key = .option o ∧ f.options ≤ o.code) ∨ late → takePress p s = s)
    ∧ ∀ o, p.key = .option o → o.code < f.options → ¬late →
      ∃ take : BallotEntry → BallotEntry, (∀ e, choiceTaken f.policy o p.capture e (take e))
        ∧ (let entries := b.entries.map fun e => if e.team = p.team then take e else e
          takePress p s = { s with
            engine := { s.engine with active := some { c with ballot := some { b with entries := entries } } } })

/-- A press is examined, and then makes a claim or a choice, improves or changes one, or is discarded (R85, R101, R102,
R104 to R107, R126 to R129). -/
def Obligations.PressesMakeClaimsAndVotes : Prop := pressesAreExamined ∧ pressesMakeClaims ∧ pressesMakeVotes

/-- What the end of a SPRINT cycle leaves of the desk line, by the need the round engine then makes: the next cycle a
SPRINT cycle, or a return to ROAM with every LAGGING mark cleared and a ROAM cycle begun (R33). -/
def needIsRead (s t : State) : Prop :=
  if needFor s.desk.setting t.engine.active = true then
    t.desk.stage = .atStart ∧ t.desk.speed = .sprint ∧ t.roster = s.roster ∧ t.desk.changed = s.desk.changed
  else
    t.desk.speed = .roam ∧ t.desk.cycleKind = .roam ∧ t.desk.switch = none
      ∧ (∀ a, t.pad a = { s.pad a with lagging := false })
      ∧ (∀ a, (s.pad a).lagging = true → a ∈ t.desk.changed ∧ t.notices.waiting.get .pad = true)
      ∧ pollsGoOn (s.padsWith .present) s t

/-- SPRINT_CYCLE_END raises the SPRINT cycle count, has the settle test and the closing test made, and reads the need
(R26, R33, R109, R132). -/
def sprintCycleEnds : Prop :=
  ∀ s : State, s.noRequest →
    (s.desk.speed = .sprint → s.desk.cycleKind = .sprint → s.desk.stage = .finished →
      happens .sprintCycleEnd s [.pads, .desk, .engine, .board, .notices] fun t =>
        let u := { s with desk := { s.desk with sprintCount := s.desk.sprintCount + 1#32 } }
        t.desk.sprintCount = s.desk.sprintCount + 1#32 ∧ t.desk.setting = s.desk.setting ∧ needIsRead s t
          ∧ ((∀ c, s.engine.active = some c → c.phase ≠ .settling ∧ c.phase ≠ .closing) →
              t.engine = s.engine ∧ t.board = s.board)
          ∧ (∀ c head rest, s.engine.active = some c → c.phase = .settling → c.queue = head :: rest →
              (hasSettled u head → c.held = false →
                (∃ d, grantedAs s.clock head rest c d ∧ t.engine.active = some d)
                  ∧ t.engine.tiePointer = tieAfterGrant s.engine.tiePointer head rest
                  ∧ t.notices.waiting.get .floor = true ∧ t.notices.waiting.get .round = true)
              ∧ (¬hasSettled u head ∨ c.held = true → t.engine = s.engine ∧ t.board = s.board))
          ∧ (∀ c b n cause, s.engine.active = some c → c.phase = .closing → c.ballot = some b →
              b.startCount = some n → b.closeCause = some cause →
              (s.debounce + 1 ≤ (s.desk.sprintCount + 1#32 - n).toNat →
                (∃ d, closedAs s ⟨.timeUp, cause⟩ c d
                  ∧ t.engine = { active := some d, tiePointer := s.engine.tiePointer })
                  ∧ t.notices.waiting.get .round = true)
              ∧ ((s.desk.sprintCount + 1#32 - n).toNat < s.debounce + 1 →
                t.engine = s.engine ∧ t.board = s.board)))
    ∧ (s.desk.speed ≠ .sprint ∨ s.desk.cycleKind ≠ .sprint ∨ s.desk.stage ≠ .finished →
      exec .sprintCycleEnd s = .next s)

/-- SWITCH_CYCLE_END raises the count of switch cycles; with every PRESENT pad heard, or at the sixteenth, the switch
completes: the pads not heard are LAGGING, the line is at SPRINT, a context in OPENING enters OPEN, and the first
SPRINT cycle begins (R30, R83). -/
def switchCycleEnds : Prop :=
  ∀ (s : State), s.noRequest →
    (∀ w, s.desk.switch = some w → s.desk.cycleKind = .switching → s.desk.stage = .finished →
      let unheard := (s.padsWith .present).filter fun a => !w.echoed.contains a
      (unheard ≠ [] → w.completed + 1 < 16 →
        exec .switchCycleEnd s = .next { s with desk := { s.desk with
          switch := some { w with completed := w.completed + 1 }, stage := .atStart } })
      ∧ (unheard = [] ∨ 16 ≤ w.completed + 1 →
        happens .switchCycleEnd s [.pads, .desk, .engine, .board, .notices] fun t =>
          t.desk.speed = .sprint ∧ t.desk.switch = none ∧ t.desk.cycleKind = .sprint
            ∧ t.desk.sprintCount = s.desk.sprintCount ∧ t.desk.setting = s.desk.setting
            ∧ (∀ a, t.pad a = { s.pad a with
                lagging := decide (a ∈ unheard) || (s.pad a).lagging })
            ∧ (∀ a, a ∈ t.desk.changed ↔ a ∈ unheard ∨ a ∈ s.desk.changed)
            ∧ (unheard ≠ [] → t.notices.waiting.get .pad = true)
            ∧ pollsGoOn (s.padsWith .present) s t
            ∧ ((∀ c, s.engine.active = some c → c.phase ≠ .opening) →
                t.engine = s.engine ∧ t.board = s.board)
            ∧ (∀ c, s.engine.active = some c → c.phase = .opening →
                t.engine = { s.engine with active := some (if c.held = true then
                    { c with phase := .opened, openInstant := some s.clock } else openedAt s.clock c) }
                  ∧ t.notices.waiting.get .round = true)))
    ∧ (s.desk.switch = none ∨ s.desk.cycleKind ≠ .switching ∨ s.desk.stage ≠ .finished →
      exec .switchCycleEnd s = .next s)

/-- The ends of the SPRINT cycles and of the switch cycles act as R26, R30 and R33 say. The model's own: log 3,
6 and 7. -/
def Obligations.CyclesEnd : Prop := sprintCycleEnds ∧ switchCycleEnds
end

