-- ==== Sys2Proof/Laws/State.lean ====
section
/-! SUPPORT. One lemma for each named update of a record of the state: the fields it does not write. -/

namespace Sys2Proof.Machine

@[simp] theorem setTeam_frame (s : State) (t : TeamId) (r : TeamRecord) :
    (State.setTeam s t r).clock = s.clock ∧ (State.setTeam s t r).desk = s.desk
    ∧ (State.setTeam s t r).debounce = s.debounce ∧ (State.setTeam s t r).cues = s.cues
    ∧ (State.setTeam s t r).engine = s.engine ∧ (State.setTeam s t r).stack = s.stack
    ∧ (State.setTeam s t r).scores = s.scores ∧ (State.setTeam s t r).silence = s.silence
    ∧ (State.setTeam s t r).board = s.board ∧ (State.setTeam s t r).notices = s.notices
    ∧ (State.setTeam s t r).link = s.link ∧ (State.setTeam s t r).cause = s.cause
    ∧ (State.setTeam s t r).strap = s.strap ∧ (State.setTeam s t r).pending = s.pending := by and_intros <;> rfl

@[simp] theorem setPad_frame (s : State) (a : PadAddr) (r : PadRecord) :
    (State.setPad s a r).clock = s.clock ∧ (State.setPad s a r).desk = s.desk
    ∧ (State.setPad s a r).debounce = s.debounce ∧ (State.setPad s a r).cues = s.cues
    ∧ (State.setPad s a r).engine = s.engine ∧ (State.setPad s a r).stack = s.stack
    ∧ (State.setPad s a r).scores = s.scores ∧ (State.setPad s a r).silence = s.silence
    ∧ (State.setPad s a r).board = s.board ∧ (State.setPad s a r).notices = s.notices
    ∧ (State.setPad s a r).link = s.link ∧ (State.setPad s a r).cause = s.cause
    ∧ (State.setPad s a r).strap = s.strap ∧ (State.setPad s a r).pending = s.pending := by and_intros <;> rfl

@[simp] theorem setActive_frame (s : State) (c : Option Context) :
    (State.setActive s c).clock = s.clock ∧ (State.setActive s c).roster = s.roster
    ∧ (State.setActive s c).desk = s.desk ∧ (State.setActive s c).debounce = s.debounce
    ∧ (State.setActive s c).cues = s.cues ∧ (State.setActive s c).stack = s.stack
    ∧ (State.setActive s c).scores = s.scores ∧ (State.setActive s c).silence = s.silence
    ∧ (State.setActive s c).board = s.board ∧ (State.setActive s c).notices = s.notices
    ∧ (State.setActive s c).link = s.link ∧ (State.setActive s c).cause = s.cause
    ∧ (State.setActive s c).strap = s.strap ∧ (State.setActive s c).pending = s.pending := by and_intros <;> rfl

@[simp] theorem requestPublish_frame (s : State) :
    (requestPublish s).clock = s.clock ∧ (requestPublish s).roster = s.roster
    ∧ (requestPublish s).desk = s.desk ∧ (requestPublish s).debounce = s.debounce
    ∧ (requestPublish s).cues = s.cues ∧ (requestPublish s).engine = s.engine
    ∧ (requestPublish s).stack = s.stack ∧ (requestPublish s).scores = s.scores
    ∧ (requestPublish s).silence = s.silence ∧ (requestPublish s).notices = s.notices
    ∧ (requestPublish s).link = s.link ∧ (requestPublish s).cause = s.cause
    ∧ (requestPublish s).strap = s.strap ∧ (requestPublish s).pending = s.pending := by and_intros <;> rfl

@[simp] theorem setPending_frame (k : NoticeKind) (s : State) :
    (setPending k s).clock = s.clock ∧ (setPending k s).roster = s.roster
    ∧ (setPending k s).desk = s.desk ∧ (setPending k s).debounce = s.debounce
    ∧ (setPending k s).cues = s.cues ∧ (setPending k s).engine = s.engine
    ∧ (setPending k s).stack = s.stack ∧ (setPending k s).scores = s.scores
    ∧ (setPending k s).silence = s.silence ∧ (setPending k s).board = s.board
    ∧ (setPending k s).link = s.link ∧ (setPending k s).cause = s.cause
    ∧ (setPending k s).strap = s.strap ∧ (setPending k s).pending = s.pending := by and_intros <;> rfl

@[simp] theorem setEnabled_frame (k : NoticeKind) (b : Bool) (s : State) :
    (setEnabled k b s).clock = s.clock ∧ (setEnabled k b s).roster = s.roster
    ∧ (setEnabled k b s).desk = s.desk ∧ (setEnabled k b s).debounce = s.debounce
    ∧ (setEnabled k b s).cues = s.cues ∧ (setEnabled k b s).engine = s.engine
    ∧ (setEnabled k b s).stack = s.stack ∧ (setEnabled k b s).scores = s.scores
    ∧ (setEnabled k b s).silence = s.silence ∧ (setEnabled k b s).board = s.board
    ∧ (setEnabled k b s).link = s.link ∧ (setEnabled k b s).cause = s.cause
    ∧ (setEnabled k b s).strap = s.strap ∧ (setEnabled k b s).pending = s.pending := by and_intros <;> rfl

@[simp] theorem setStage_frame (s : State) (st : CycleStage) :
    (State.setStage s st).clock = s.clock ∧ (State.setStage s st).roster = s.roster
    ∧ (State.setStage s st).debounce = s.debounce ∧ (State.setStage s st).cues = s.cues
    ∧ (State.setStage s st).engine = s.engine ∧ (State.setStage s st).stack = s.stack
    ∧ (State.setStage s st).scores = s.scores ∧ (State.setStage s st).silence = s.silence
    ∧ (State.setStage s st).board = s.board ∧ (State.setStage s st).notices = s.notices
    ∧ (State.setStage s st).link = s.link ∧ (State.setStage s st).cause = s.cause
    ∧ (State.setStage s st).strap = s.strap ∧ (State.setStage s st).pending = s.pending := by and_intros <;> rfl

@[simp] theorem layOut_frame (m : Layout) (s : State) :
    (layOut m s).clock = s.clock ∧ (layOut m s).desk = s.desk
    ∧ (layOut m s).debounce = s.debounce ∧ (layOut m s).cues = s.cues
    ∧ (layOut m s).engine = s.engine ∧ (layOut m s).stack = s.stack
    ∧ (layOut m s).scores = s.scores ∧ (layOut m s).silence = s.silence
    ∧ (layOut m s).board = s.board ∧ (layOut m s).notices = s.notices
    ∧ (layOut m s).link = s.link ∧ (layOut m s).cause = s.cause
    ∧ (layOut m s).strap = s.strap ∧ (layOut m s).pending = s.pending := by and_intros <;> rfl

@[simp] theorem assignPad_frame (a : PadAddr) (asg : Assignment) (s : State) :
    (assignPad a asg s).clock = s.clock ∧ (assignPad a asg s).desk = s.desk
    ∧ (assignPad a asg s).debounce = s.debounce ∧ (assignPad a asg s).cues = s.cues
    ∧ (assignPad a asg s).engine = s.engine ∧ (assignPad a asg s).stack = s.stack
    ∧ (assignPad a asg s).scores = s.scores ∧ (assignPad a asg s).silence = s.silence
    ∧ (assignPad a asg s).board = s.board ∧ (assignPad a asg s).notices = s.notices
    ∧ (assignPad a asg s).link = s.link ∧ (assignPad a asg s).cause = s.cause
    ∧ (assignPad a asg s).strap = s.strap ∧ (assignPad a asg s).pending = s.pending := by
  unfold assignPad
  (try dsimp only)
  (repeat' split) <;> simp

@[simp] theorem setAllLamps_frame (l : Option Lamp) (s : State) :
    (setAllLamps l s).clock = s.clock ∧ (setAllLamps l s).desk = s.desk
    ∧ (setAllLamps l s).debounce = s.debounce ∧ (setAllLamps l s).cues = s.cues
    ∧ (setAllLamps l s).engine = s.engine ∧ (setAllLamps l s).stack = s.stack
    ∧ (setAllLamps l s).scores = s.scores ∧ (setAllLamps l s).silence = s.silence
    ∧ (setAllLamps l s).board = s.board ∧ (setAllLamps l s).notices = s.notices
    ∧ (setAllLamps l s).link = s.link ∧ (setAllLamps l s).cause = s.cause
    ∧ (setAllLamps l s).strap = s.strap ∧ (setAllLamps l s).pending = s.pending := by and_intros <;> rfl

@[simp] theorem freeLock_frame (s : State) :
    (freeLock s).clock = s.clock ∧ (freeLock s).roster = s.roster
    ∧ (freeLock s).desk = s.desk ∧ (freeLock s).debounce = s.debounce
    ∧ (freeLock s).cues = s.cues ∧ (freeLock s).engine = s.engine
    ∧ (freeLock s).stack = s.stack ∧ (freeLock s).silence = s.silence
    ∧ (freeLock s).board = s.board ∧ (freeLock s).notices = s.notices
    ∧ (freeLock s).link = s.link ∧ (freeLock s).cause = s.cause
    ∧ (freeLock s).strap = s.strap ∧ (freeLock s).pending = s.pending := by and_intros <;> rfl

@[simp] theorem listAward_frame (a : Award) (s : State) :
    (listAward a s).clock = s.clock ∧ (listAward a s).roster = s.roster
    ∧ (listAward a s).desk = s.desk ∧ (listAward a s).debounce = s.debounce
    ∧ (listAward a s).cues = s.cues ∧ (listAward a s).engine = s.engine
    ∧ (listAward a s).stack = s.stack ∧ (listAward a s).silence = s.silence
    ∧ (listAward a s).board = s.board ∧ (listAward a s).notices = s.notices
    ∧ (listAward a s).link = s.link ∧ (listAward a s).cause = s.cause
    ∧ (listAward a s).strap = s.strap ∧ (listAward a s).pending = s.pending := by and_intros <;> rfl

@[simp] theorem raiseSprintCount_frame (s : State) :
    (raiseSprintCount s).clock = s.clock ∧ (raiseSprintCount s).roster = s.roster
    ∧ (raiseSprintCount s).debounce = s.debounce ∧ (raiseSprintCount s).cues = s.cues
    ∧ (raiseSprintCount s).engine = s.engine ∧ (raiseSprintCount s).stack = s.stack
    ∧ (raiseSprintCount s).scores = s.scores ∧ (raiseSprintCount s).silence = s.silence
    ∧ (raiseSprintCount s).board = s.board ∧ (raiseSprintCount s).notices = s.notices
    ∧ (raiseSprintCount s).link = s.link ∧ (raiseSprintCount s).cause = s.cause
    ∧ (raiseSprintCount s).strap = s.strap ∧ (raiseSprintCount s).pending = s.pending := by and_intros <;> rfl

@[simp] theorem placeCue_frame (x : SlotId) (c : Cue) (s : State) :
    (placeCue x c s).clock = s.clock ∧ (placeCue x c s).roster = s.roster
    ∧ (placeCue x c s).desk = s.desk ∧ (placeCue x c s).debounce = s.debounce
    ∧ (placeCue x c s).engine = s.engine ∧ (placeCue x c s).stack = s.stack
    ∧ (placeCue x c s).scores = s.scores ∧ (placeCue x c s).silence = s.silence
    ∧ (placeCue x c s).board = s.board ∧ (placeCue x c s).notices = s.notices
    ∧ (placeCue x c s).link = s.link ∧ (placeCue x c s).cause = s.cause
    ∧ (placeCue x c s).strap = s.strap ∧ (placeCue x c s).pending = s.pending := by and_intros <;> rfl

@[simp] theorem eraseCues_frame (covers : SlotId → Bool) (s : State) :
    (eraseCues covers s).clock = s.clock ∧ (eraseCues covers s).roster = s.roster
    ∧ (eraseCues covers s).desk = s.desk ∧ (eraseCues covers s).debounce = s.debounce
    ∧ (eraseCues covers s).engine = s.engine ∧ (eraseCues covers s).stack = s.stack
    ∧ (eraseCues covers s).scores = s.scores ∧ (eraseCues covers s).silence = s.silence
    ∧ (eraseCues covers s).board = s.board ∧ (eraseCues covers s).notices = s.notices
    ∧ (eraseCues covers s).link = s.link ∧ (eraseCues covers s).cause = s.cause
    ∧ (eraseCues covers s).strap = s.strap ∧ (eraseCues covers s).pending = s.pending := by and_intros <;> rfl

@[simp] theorem pushContext_frame (origin : Origin) (c : Context) (s : State) :
    (pushContext origin c s).clock = s.clock ∧ (pushContext origin c s).roster = s.roster
    ∧ (pushContext origin c s).desk = s.desk ∧ (pushContext origin c s).debounce = s.debounce
    ∧ (pushContext origin c s).cues = s.cues ∧ (pushContext origin c s).engine = s.engine
    ∧ (pushContext origin c s).scores = s.scores ∧ (pushContext origin c s).silence = s.silence
    ∧ (pushContext origin c s).board = s.board ∧ (pushContext origin c s).notices = s.notices
    ∧ (pushContext origin c s).link = s.link ∧ (pushContext origin c s).cause = s.cause
    ∧ (pushContext origin c s).strap = s.strap ∧ (pushContext origin c s).pending = s.pending := by and_intros <;> rfl

@[simp] theorem setPanel_frame (s : State) (p : PanelId) (r : PanelRecord) :
    (State.setPanel s p r).clock = s.clock ∧ (State.setPanel s p r).roster = s.roster
    ∧ (State.setPanel s p r).desk = s.desk ∧ (State.setPanel s p r).debounce = s.debounce
    ∧ (State.setPanel s p r).cues = s.cues ∧ (State.setPanel s p r).engine = s.engine
    ∧ (State.setPanel s p r).stack = s.stack ∧ (State.setPanel s p r).scores = s.scores
    ∧ (State.setPanel s p r).silence = s.silence ∧ (State.setPanel s p r).notices = s.notices
    ∧ (State.setPanel s p r).link = s.link ∧ (State.setPanel s p r).cause = s.cause
    ∧ (State.setPanel s p r).strap = s.strap ∧ (State.setPanel s p r).pending = s.pending := by and_intros <;> rfl

@[simp] theorem setOperation_frame (s : State) (o : LineOperation) :
    (State.setOperation s o).clock = s.clock ∧ (State.setOperation s o).roster = s.roster
    ∧ (State.setOperation s o).desk = s.desk ∧ (State.setOperation s o).debounce = s.debounce
    ∧ (State.setOperation s o).cues = s.cues ∧ (State.setOperation s o).engine = s.engine
    ∧ (State.setOperation s o).stack = s.stack ∧ (State.setOperation s o).scores = s.scores
    ∧ (State.setOperation s o).silence = s.silence ∧ (State.setOperation s o).notices = s.notices
    ∧ (State.setOperation s o).link = s.link ∧ (State.setOperation s o).cause = s.cause
    ∧ (State.setOperation s o).strap = s.strap ∧ (State.setOperation s o).pending = s.pending := by and_intros <;> rfl

@[simp] theorem setRoute_frame (s : State) (n : RouteId) (r : Option Route) :
    (State.setRoute s n r).clock = s.clock ∧ (State.setRoute s n r).roster = s.roster
    ∧ (State.setRoute s n r).desk = s.desk ∧ (State.setRoute s n r).debounce = s.debounce
    ∧ (State.setRoute s n r).cues = s.cues ∧ (State.setRoute s n r).engine = s.engine
    ∧ (State.setRoute s n r).stack = s.stack ∧ (State.setRoute s n r).scores = s.scores
    ∧ (State.setRoute s n r).silence = s.silence ∧ (State.setRoute s n r).notices = s.notices
    ∧ (State.setRoute s n r).link = s.link ∧ (State.setRoute s n r).cause = s.cause
    ∧ (State.setRoute s n r).strap = s.strap ∧ (State.setRoute s n r).pending = s.pending := by and_intros <;> rfl

@[simp] theorem clearRoutes_frame (s : State) :
    (clearRoutes s).clock = s.clock ∧ (clearRoutes s).roster = s.roster
    ∧ (clearRoutes s).desk = s.desk ∧ (clearRoutes s).debounce = s.debounce
    ∧ (clearRoutes s).cues = s.cues ∧ (clearRoutes s).engine = s.engine
    ∧ (clearRoutes s).stack = s.stack ∧ (clearRoutes s).scores = s.scores
    ∧ (clearRoutes s).silence = s.silence ∧ (clearRoutes s).notices = s.notices
    ∧ (clearRoutes s).link = s.link ∧ (clearRoutes s).cause = s.cause
    ∧ (clearRoutes s).strap = s.strap ∧ (clearRoutes s).pending = s.pending := by and_intros <;> rfl

@[simp] theorem setTransmitter_frame (s : State) (t : Transmitter) :
    (State.setTransmitter s t).clock = s.clock ∧ (State.setTransmitter s t).roster = s.roster
    ∧ (State.setTransmitter s t).desk = s.desk ∧ (State.setTransmitter s t).debounce = s.debounce
    ∧ (State.setTransmitter s t).cues = s.cues ∧ (State.setTransmitter s t).engine = s.engine
    ∧ (State.setTransmitter s t).stack = s.stack ∧ (State.setTransmitter s t).scores = s.scores
    ∧ (State.setTransmitter s t).silence = s.silence ∧ (State.setTransmitter s t).board = s.board
    ∧ (State.setTransmitter s t).notices = s.notices ∧ (State.setTransmitter s t).cause = s.cause
    ∧ (State.setTransmitter s t).strap = s.strap ∧ (State.setTransmitter s t).pending = s.pending := by and_intros <;> rfl

@[simp] theorem enqueue_frame (e : QueueEntry) (s : State) :
    (enqueue e s).clock = s.clock ∧ (enqueue e s).roster = s.roster
    ∧ (enqueue e s).desk = s.desk ∧ (enqueue e s).debounce = s.debounce
    ∧ (enqueue e s).cues = s.cues ∧ (enqueue e s).engine = s.engine
    ∧ (enqueue e s).stack = s.stack ∧ (enqueue e s).scores = s.scores
    ∧ (enqueue e s).silence = s.silence ∧ (enqueue e s).board = s.board
    ∧ (enqueue e s).notices = s.notices ∧ (enqueue e s).cause = s.cause
    ∧ (enqueue e s).strap = s.strap ∧ (enqueue e s).pending = s.pending := by and_intros <;> rfl

@[simp] theorem hunt_frame (s : State) :
    (hunt s).clock = s.clock ∧ (hunt s).roster = s.roster
    ∧ (hunt s).desk = s.desk ∧ (hunt s).debounce = s.debounce
    ∧ (hunt s).cues = s.cues ∧ (hunt s).engine = s.engine
    ∧ (hunt s).stack = s.stack ∧ (hunt s).scores = s.scores
    ∧ (hunt s).silence = s.silence ∧ (hunt s).board = s.board
    ∧ (hunt s).notices = s.notices ∧ (hunt s).cause = s.cause
    ∧ (hunt s).strap = s.strap ∧ (hunt s).pending = s.pending := by and_intros <;> rfl

@[simp] theorem dropFront_frame (s : State) :
    (dropFront s).clock = s.clock ∧ (dropFront s).roster = s.roster
    ∧ (dropFront s).desk = s.desk ∧ (dropFront s).debounce = s.debounce
    ∧ (dropFront s).cues = s.cues ∧ (dropFront s).engine = s.engine
    ∧ (dropFront s).stack = s.stack ∧ (dropFront s).scores = s.scores
    ∧ (dropFront s).silence = s.silence ∧ (dropFront s).board = s.board
    ∧ (dropFront s).notices = s.notices ∧ (dropFront s).cause = s.cause
    ∧ (dropFront s).strap = s.strap ∧ (dropFront s).pending = s.pending := by and_intros <;> rfl

@[simp] theorem setCandidate_frame (a : PadAddr) (c : Option Candidate) (s : State) :
    (setCandidate a c s).clock = s.clock ∧ (setCandidate a c s).desk = s.desk
    ∧ (setCandidate a c s).debounce = s.debounce ∧ (setCandidate a c s).cues = s.cues
    ∧ (setCandidate a c s).engine = s.engine ∧ (setCandidate a c s).stack = s.stack
    ∧ (setCandidate a c s).scores = s.scores ∧ (setCandidate a c s).silence = s.silence
    ∧ (setCandidate a c s).board = s.board ∧ (setCandidate a c s).notices = s.notices
    ∧ (setCandidate a c s).link = s.link ∧ (setCandidate a c s).cause = s.cause
    ∧ (setCandidate a c s).strap = s.strap ∧ (setCandidate a c s).pending = s.pending := by
  unfold setCandidate
  (try dsimp only)
  (repeat' split) <;> simp

@[simp] theorem tick_frame (s : State) :
    (tick s).roster = s.roster ∧ (tick s).desk = s.desk
    ∧ (tick s).debounce = s.debounce ∧ (tick s).cues = s.cues
    ∧ (tick s).engine = s.engine ∧ (tick s).stack = s.stack
    ∧ (tick s).scores = s.scores ∧ (tick s).silence = s.silence
    ∧ (tick s).board = s.board ∧ (tick s).notices = s.notices
    ∧ (tick s).link = s.link ∧ (tick s).cause = s.cause
    ∧ (tick s).strap = s.strap ∧ (tick s).pending = s.pending := by and_intros <;> rfl

@[simp] theorem grantFloor_frame (head : Claim) (rest : List Claim) (c : Context) (s : State) :
    (grantFloor head rest c s).clock = s.clock ∧ (grantFloor head rest c s).roster = s.roster
    ∧ (grantFloor head rest c s).desk = s.desk ∧ (grantFloor head rest c s).debounce = s.debounce
    ∧ (grantFloor head rest c s).cues = s.cues ∧ (grantFloor head rest c s).stack = s.stack
    ∧ (grantFloor head rest c s).scores = s.scores ∧ (grantFloor head rest c s).silence = s.silence
    ∧ (grantFloor head rest c s).board = s.board ∧ (grantFloor head rest c s).link = s.link
    ∧ (grantFloor head rest c s).cause = s.cause ∧ (grantFloor head rest c s).strap = s.strap
    ∧ (grantFloor head rest c s).pending = s.pending := by
  unfold grantFloor
  (try dsimp only)
  (repeat' split) <;> simp

@[simp] theorem noteLockEnd_frame (e : LockEnd) (s : State) :
    (noteLockEnd e s).clock = s.clock ∧ (noteLockEnd e s).roster = s.roster
    ∧ (noteLockEnd e s).desk = s.desk ∧ (noteLockEnd e s).debounce = s.debounce
    ∧ (noteLockEnd e s).cues = s.cues ∧ (noteLockEnd e s).engine = s.engine
    ∧ (noteLockEnd e s).stack = s.stack ∧ (noteLockEnd e s).silence = s.silence
    ∧ (noteLockEnd e s).board = s.board ∧ (noteLockEnd e s).link = s.link
    ∧ (noteLockEnd e s).cause = s.cause ∧ (noteLockEnd e s).strap = s.strap
    ∧ (noteLockEnd e s).pending = s.pending := by
  unfold noteLockEnd
  (try dsimp only)
  (repeat' split) <;> simp

@[simp] theorem recordOverrun_frame (s : State) :
    (recordOverrun s).clock = s.clock ∧ (recordOverrun s).roster = s.roster
    ∧ (recordOverrun s).desk = s.desk ∧ (recordOverrun s).debounce = s.debounce
    ∧ (recordOverrun s).cues = s.cues ∧ (recordOverrun s).engine = s.engine
    ∧ (recordOverrun s).stack = s.stack ∧ (recordOverrun s).scores = s.scores
    ∧ (recordOverrun s).silence = s.silence ∧ (recordOverrun s).board = s.board
    ∧ (recordOverrun s).link = s.link ∧ (recordOverrun s).cause = s.cause
    ∧ (recordOverrun s).strap = s.strap ∧ (recordOverrun s).pending = s.pending := by
  unfold recordOverrun
  (try dsimp only)
  (repeat' split) <;> simp

@[simp] theorem recordStarted_frame (s : State) :
    (recordStarted s).clock = s.clock ∧ (recordStarted s).roster = s.roster
    ∧ (recordStarted s).desk = s.desk ∧ (recordStarted s).debounce = s.debounce
    ∧ (recordStarted s).cues = s.cues ∧ (recordStarted s).engine = s.engine
    ∧ (recordStarted s).stack = s.stack ∧ (recordStarted s).scores = s.scores
    ∧ (recordStarted s).silence = s.silence ∧ (recordStarted s).board = s.board
    ∧ (recordStarted s).link = s.link ∧ (recordStarted s).cause = s.cause
    ∧ (recordStarted s).strap = s.strap ∧ (recordStarted s).pending = s.pending := by
  unfold recordStarted
  (try dsimp only)
  (repeat' split) <;> simp

@[simp] theorem notePageWrap_frame (x : SlotId) (s : State) :
    (notePageWrap x s).clock = s.clock ∧ (notePageWrap x s).roster = s.roster
    ∧ (notePageWrap x s).desk = s.desk ∧ (notePageWrap x s).debounce = s.debounce
    ∧ (notePageWrap x s).engine = s.engine ∧ (notePageWrap x s).stack = s.stack
    ∧ (notePageWrap x s).scores = s.scores ∧ (notePageWrap x s).silence = s.silence
    ∧ (notePageWrap x s).board = s.board ∧ (notePageWrap x s).link = s.link
    ∧ (notePageWrap x s).cause = s.cause ∧ (notePageWrap x s).strap = s.strap
    ∧ (notePageWrap x s).pending = s.pending := by
  unfold notePageWrap
  (try dsimp only)
  (repeat' split) <;> simp

@[simp] theorem joinPadChanged_frame (a : PadAddr) (s : State) :
    (joinPadChanged a s).clock = s.clock ∧ (joinPadChanged a s).roster = s.roster
    ∧ (joinPadChanged a s).debounce = s.debounce ∧ (joinPadChanged a s).cues = s.cues
    ∧ (joinPadChanged a s).engine = s.engine ∧ (joinPadChanged a s).stack = s.stack
    ∧ (joinPadChanged a s).scores = s.scores ∧ (joinPadChanged a s).silence = s.silence
    ∧ (joinPadChanged a s).board = s.board ∧ (joinPadChanged a s).link = s.link
    ∧ (joinPadChanged a s).cause = s.cause ∧ (joinPadChanged a s).strap = s.strap
    ∧ (joinPadChanged a s).pending = s.pending := by
  unfold joinPadChanged
  (try dsimp only)
  (repeat' split) <;> simp

@[simp] theorem holdActive_frame (s : State) :
    (holdActive s).clock = s.clock ∧ (holdActive s).roster = s.roster
    ∧ (holdActive s).desk = s.desk ∧ (holdActive s).debounce = s.debounce
    ∧ (holdActive s).cues = s.cues ∧ (holdActive s).stack = s.stack
    ∧ (holdActive s).scores = s.scores ∧ (holdActive s).silence = s.silence
    ∧ (holdActive s).board = s.board ∧ (holdActive s).notices = s.notices
    ∧ (holdActive s).link = s.link ∧ (holdActive s).cause = s.cause
    ∧ (holdActive s).strap = s.strap ∧ (holdActive s).pending = s.pending := by
  unfold holdActive
  (try dsimp only)
  (repeat' split) <;> simp

end Sys2Proof.Machine
end

