-- ==== Sys2Proof/Laws/Desk.lean ====
section
/-! SUPPORT. What the shared operations of the notice flags and the desk line leave as it was. -/

namespace Sys2Proof.Machine

@[simp] theorem autoRequest_frame (s : State) :
    (autoRequest s).clock = s.clock ∧ (autoRequest s).roster = s.roster
    ∧ (autoRequest s).desk = s.desk ∧ (autoRequest s).debounce = s.debounce
    ∧ (autoRequest s).cues = s.cues ∧ (autoRequest s).engine = s.engine
    ∧ (autoRequest s).stack = s.stack ∧ (autoRequest s).scores = s.scores
    ∧ (autoRequest s).silence = s.silence ∧ (autoRequest s).notices = s.notices
    ∧ (autoRequest s).link = s.link ∧ (autoRequest s).cause = s.cause
    ∧ (autoRequest s).strap = s.strap ∧ (autoRequest s).pending = s.pending := by
  unfold autoRequest
  (try dsimp only)
  (repeat' split) <;> simp

@[simp] theorem judgeNeed_frame (s : State) :
    (judgeNeed s).clock = s.clock ∧ (judgeNeed s).roster = s.roster
    ∧ (judgeNeed s).debounce = s.debounce ∧ (judgeNeed s).cues = s.cues
    ∧ (judgeNeed s).engine = s.engine ∧ (judgeNeed s).stack = s.stack
    ∧ (judgeNeed s).scores = s.scores ∧ (judgeNeed s).silence = s.silence
    ∧ (judgeNeed s).board = s.board ∧ (judgeNeed s).notices = s.notices
    ∧ (judgeNeed s).link = s.link ∧ (judgeNeed s).cause = s.cause
    ∧ (judgeNeed s).strap = s.strap ∧ (judgeNeed s).pending = s.pending := by
  unfold judgeNeed
  (try dsimp only)
  (repeat' split) <;> simp

@[simp] theorem signalRoundChange_frame (s : State) :
    (signalRoundChange s).clock = s.clock ∧ (signalRoundChange s).roster = s.roster
    ∧ (signalRoundChange s).debounce = s.debounce ∧ (signalRoundChange s).cues = s.cues
    ∧ (signalRoundChange s).engine = s.engine ∧ (signalRoundChange s).stack = s.stack
    ∧ (signalRoundChange s).scores = s.scores ∧ (signalRoundChange s).silence = s.silence
    ∧ (signalRoundChange s).link = s.link ∧ (signalRoundChange s).cause = s.cause
    ∧ (signalRoundChange s).strap = s.strap ∧ (signalRoundChange s).pending = s.pending := by
  unfold signalRoundChange
  (try dsimp only)
  (repeat' split) <;> simp

@[simp] theorem signalQueueChange_frame (s : State) :
    (signalQueueChange s).clock = s.clock ∧ (signalQueueChange s).roster = s.roster
    ∧ (signalQueueChange s).desk = s.desk ∧ (signalQueueChange s).debounce = s.debounce
    ∧ (signalQueueChange s).cues = s.cues ∧ (signalQueueChange s).engine = s.engine
    ∧ (signalQueueChange s).stack = s.stack ∧ (signalQueueChange s).scores = s.scores
    ∧ (signalQueueChange s).silence = s.silence ∧ (signalQueueChange s).link = s.link
    ∧ (signalQueueChange s).cause = s.cause ∧ (signalQueueChange s).strap = s.strap
    ∧ (signalQueueChange s).pending = s.pending := by
  unfold signalQueueChange
  (try dsimp only)
  (repeat' split) <;> simp

@[simp] theorem emptyKept_frame (k : NoticeKind) (s : State) :
    (emptyKept k s).clock = s.clock ∧ (emptyKept k s).roster = s.roster
    ∧ (emptyKept k s).debounce = s.debounce ∧ (emptyKept k s).engine = s.engine
    ∧ (emptyKept k s).stack = s.stack ∧ (emptyKept k s).silence = s.silence
    ∧ (emptyKept k s).link = s.link ∧ (emptyKept k s).cause = s.cause
    ∧ (emptyKept k s).strap = s.strap ∧ (emptyKept k s).pending = s.pending := by
  cases k <;> simp [emptyKept]

@[simp] theorem discardPending_frame (k : NoticeKind) (s : State) :
    (discardPending k s).clock = s.clock ∧ (discardPending k s).roster = s.roster
    ∧ (discardPending k s).debounce = s.debounce ∧ (discardPending k s).engine = s.engine
    ∧ (discardPending k s).stack = s.stack ∧ (discardPending k s).silence = s.silence
    ∧ (discardPending k s).link = s.link ∧ (discardPending k s).cause = s.cause
    ∧ (discardPending k s).strap = s.strap ∧ (discardPending k s).pending = s.pending := by
  unfold discardPending
  (try dsimp only)
  (repeat' split) <;> simp

@[simp] theorem discardAll_frame (l : List NoticeKind) (s : State) :
    (discardAll l s).clock = s.clock ∧ (discardAll l s).roster = s.roster
    ∧ (discardAll l s).debounce = s.debounce ∧ (discardAll l s).engine = s.engine
    ∧ (discardAll l s).stack = s.stack ∧ (discardAll l s).silence = s.silence
    ∧ (discardAll l s).link = s.link ∧ (discardAll l s).cause = s.cause
    ∧ (discardAll l s).strap = s.strap ∧ (discardAll l s).pending = s.pending := by
  induction l generalizing s with
  | nil => simp [discardAll]
  | cons x xs ih => simp [discardAll, ih]

@[simp] theorem enableAll_frame (b : Bool) (l : List NoticeKind) (s : State) :
    (enableAll b l s).clock = s.clock ∧ (enableAll b l s).roster = s.roster
    ∧ (enableAll b l s).desk = s.desk ∧ (enableAll b l s).debounce = s.debounce
    ∧ (enableAll b l s).cues = s.cues ∧ (enableAll b l s).engine = s.engine
    ∧ (enableAll b l s).stack = s.stack ∧ (enableAll b l s).scores = s.scores
    ∧ (enableAll b l s).silence = s.silence ∧ (enableAll b l s).board = s.board
    ∧ (enableAll b l s).link = s.link ∧ (enableAll b l s).cause = s.cause
    ∧ (enableAll b l s).strap = s.strap ∧ (enableAll b l s).pending = s.pending := by
  induction l generalizing s with
  | nil => simp [enableAll]
  | cons x xs ih => simp [enableAll, ih]

@[simp] theorem sendProbe_frame (s : State) :
    (sendProbe s).clock = s.clock ∧ (sendProbe s).roster = s.roster
    ∧ (sendProbe s).debounce = s.debounce ∧ (sendProbe s).cues = s.cues
    ∧ (sendProbe s).engine = s.engine ∧ (sendProbe s).stack = s.stack
    ∧ (sendProbe s).scores = s.scores ∧ (sendProbe s).silence = s.silence
    ∧ (sendProbe s).board = s.board ∧ (sendProbe s).notices = s.notices
    ∧ (sendProbe s).link = s.link ∧ (sendProbe s).cause = s.cause
    ∧ (sendProbe s).strap = s.strap ∧ (sendProbe s).pending = s.pending := by
  unfold sendProbe
  (try dsimp only)
  (repeat' split) <;> simp

@[simp] theorem sendNext_frame (rest : List PadAddr) (s : State) :
    (sendNext rest s).clock = s.clock ∧ (sendNext rest s).roster = s.roster
    ∧ (sendNext rest s).debounce = s.debounce ∧ (sendNext rest s).cues = s.cues
    ∧ (sendNext rest s).engine = s.engine ∧ (sendNext rest s).stack = s.stack
    ∧ (sendNext rest s).scores = s.scores ∧ (sendNext rest s).silence = s.silence
    ∧ (sendNext rest s).board = s.board ∧ (sendNext rest s).notices = s.notices
    ∧ (sendNext rest s).link = s.link ∧ (sendNext rest s).cause = s.cause
    ∧ (sendNext rest s).strap = s.strap ∧ (sendNext rest s).pending = s.pending := by
  unfold sendNext
  (try dsimp only)
  (repeat' split) <;> simp

@[simp] theorem startCycle_frame (k : CycleKind) (s : State) :
    (startCycle k s).clock = s.clock ∧ (startCycle k s).roster = s.roster
    ∧ (startCycle k s).debounce = s.debounce ∧ (startCycle k s).cues = s.cues
    ∧ (startCycle k s).engine = s.engine ∧ (startCycle k s).stack = s.stack
    ∧ (startCycle k s).scores = s.scores ∧ (startCycle k s).silence = s.silence
    ∧ (startCycle k s).board = s.board ∧ (startCycle k s).notices = s.notices
    ∧ (startCycle k s).link = s.link ∧ (startCycle k s).cause = s.cause
    ∧ (startCycle k s).strap = s.strap ∧ (startCycle k s).pending = s.pending := by
  unfold startCycle
  (try dsimp only)
  (repeat' split) <;> simp

@[simp] theorem startRoamCycle_frame (s : State) :
    (startRoamCycle s).clock = s.clock ∧ (startRoamCycle s).roster = s.roster
    ∧ (startRoamCycle s).debounce = s.debounce ∧ (startRoamCycle s).cues = s.cues
    ∧ (startRoamCycle s).engine = s.engine ∧ (startRoamCycle s).stack = s.stack
    ∧ (startRoamCycle s).scores = s.scores ∧ (startRoamCycle s).silence = s.silence
    ∧ (startRoamCycle s).board = s.board ∧ (startRoamCycle s).notices = s.notices
    ∧ (startRoamCycle s).link = s.link ∧ (startRoamCycle s).cause = s.cause
    ∧ (startRoamCycle s).strap = s.strap ∧ (startRoamCycle s).pending = s.pending := by
  unfold startRoamCycle
  (try dsimp only)
  (repeat' split) <;> simp

@[simp] theorem markLagging_frame (a : PadAddr) (s : State) :
    (markLagging a s).clock = s.clock ∧ (markLagging a s).debounce = s.debounce
    ∧ (markLagging a s).cues = s.cues ∧ (markLagging a s).engine = s.engine
    ∧ (markLagging a s).stack = s.stack ∧ (markLagging a s).scores = s.scores
    ∧ (markLagging a s).silence = s.silence ∧ (markLagging a s).board = s.board
    ∧ (markLagging a s).link = s.link ∧ (markLagging a s).cause = s.cause
    ∧ (markLagging a s).strap = s.strap ∧ (markLagging a s).pending = s.pending := by
  unfold markLagging
  (try dsimp only)
  (repeat' split) <;> simp

@[simp] theorem clearLagging_frame (a : PadAddr) (s : State) :
    (clearLagging a s).clock = s.clock ∧ (clearLagging a s).debounce = s.debounce
    ∧ (clearLagging a s).cues = s.cues ∧ (clearLagging a s).engine = s.engine
    ∧ (clearLagging a s).stack = s.stack ∧ (clearLagging a s).scores = s.scores
    ∧ (clearLagging a s).silence = s.silence ∧ (clearLagging a s).board = s.board
    ∧ (clearLagging a s).link = s.link ∧ (clearLagging a s).cause = s.cause
    ∧ (clearLagging a s).strap = s.strap ∧ (clearLagging a s).pending = s.pending := by
  unfold clearLagging
  (try dsimp only)
  (repeat' split) <;> simp

@[simp] theorem markAllLagging_frame (l : List PadAddr) (s : State) :
    (markAllLagging l s).clock = s.clock ∧ (markAllLagging l s).debounce = s.debounce
    ∧ (markAllLagging l s).cues = s.cues ∧ (markAllLagging l s).engine = s.engine
    ∧ (markAllLagging l s).stack = s.stack ∧ (markAllLagging l s).scores = s.scores
    ∧ (markAllLagging l s).silence = s.silence ∧ (markAllLagging l s).board = s.board
    ∧ (markAllLagging l s).link = s.link ∧ (markAllLagging l s).cause = s.cause
    ∧ (markAllLagging l s).strap = s.strap ∧ (markAllLagging l s).pending = s.pending := by
  induction l generalizing s with
  | nil => simp [markAllLagging]
  | cons x xs ih => simp [markAllLagging, ih]

@[simp] theorem clearAllLagging_frame (l : List PadAddr) (s : State) :
    (clearAllLagging l s).clock = s.clock ∧ (clearAllLagging l s).debounce = s.debounce
    ∧ (clearAllLagging l s).cues = s.cues ∧ (clearAllLagging l s).engine = s.engine
    ∧ (clearAllLagging l s).stack = s.stack ∧ (clearAllLagging l s).scores = s.scores
    ∧ (clearAllLagging l s).silence = s.silence ∧ (clearAllLagging l s).board = s.board
    ∧ (clearAllLagging l s).link = s.link ∧ (clearAllLagging l s).cause = s.cause
    ∧ (clearAllLagging l s).strap = s.strap ∧ (clearAllLagging l s).pending = s.pending := by
  induction l generalizing s with
  | nil => simp [clearAllLagging]
  | cons x xs ih => simp [clearAllLagging, ih]

end Sys2Proof.Machine
end

