-- ==== Sys2Proof/Laws/Scores.lean ====
section
/-! SUPPORT. What the operations of the score unit leave as it was. -/

namespace Sys2Proof.Machine

@[simp] theorem applyOne_frame (a : Award) (s : State) :
    (applyOne a s).clock = s.clock ∧ (applyOne a s).desk = s.desk
    ∧ (applyOne a s).debounce = s.debounce ∧ (applyOne a s).cues = s.cues
    ∧ (applyOne a s).engine = s.engine ∧ (applyOne a s).stack = s.stack
    ∧ (applyOne a s).silence = s.silence ∧ (applyOne a s).link = s.link
    ∧ (applyOne a s).cause = s.cause ∧ (applyOne a s).strap = s.strap
    ∧ (applyOne a s).pending = s.pending := by
  unfold applyOne
  (try dsimp only)
  (repeat' split) <;> simp

@[simp] theorem applyAward_frame (a : Award) (s : State) :
    (applyAward a s).clock = s.clock ∧ (applyAward a s).desk = s.desk
    ∧ (applyAward a s).debounce = s.debounce ∧ (applyAward a s).cues = s.cues
    ∧ (applyAward a s).engine = s.engine ∧ (applyAward a s).stack = s.stack
    ∧ (applyAward a s).silence = s.silence ∧ (applyAward a s).link = s.link
    ∧ (applyAward a s).cause = s.cause ∧ (applyAward a s).strap = s.strap
    ∧ (applyAward a s).pending = s.pending := by
  unfold applyAward
  (try dsimp only)
  (repeat' split) <;> simp

@[simp] theorem applyAwards_frame (l : List Award) (s : State) :
    (applyAwards l s).clock = s.clock ∧ (applyAwards l s).desk = s.desk
    ∧ (applyAwards l s).debounce = s.debounce ∧ (applyAwards l s).cues = s.cues
    ∧ (applyAwards l s).engine = s.engine ∧ (applyAwards l s).stack = s.stack
    ∧ (applyAwards l s).silence = s.silence ∧ (applyAwards l s).link = s.link
    ∧ (applyAwards l s).cause = s.cause ∧ (applyAwards l s).strap = s.strap
    ∧ (applyAwards l s).pending = s.pending := by
  induction l generalizing s with
  | nil => simp [applyAwards]
  | cons x xs ih => simp [applyAwards, ih]

@[simp] theorem releaseLock_frame (s : State) :
    (releaseLock s).clock = s.clock ∧ (releaseLock s).desk = s.desk
    ∧ (releaseLock s).debounce = s.debounce ∧ (releaseLock s).cues = s.cues
    ∧ (releaseLock s).engine = s.engine ∧ (releaseLock s).stack = s.stack
    ∧ (releaseLock s).silence = s.silence ∧ (releaseLock s).link = s.link
    ∧ (releaseLock s).cause = s.cause ∧ (releaseLock s).strap = s.strap
    ∧ (releaseLock s).pending = s.pending := by
  unfold releaseLock
  (try dsimp only)
  (repeat' split) <;> simp

@[simp] theorem endLock_frame (s : State) :
    (endLock s).clock = s.clock ∧ (endLock s).desk = s.desk
    ∧ (endLock s).debounce = s.debounce ∧ (endLock s).cues = s.cues
    ∧ (endLock s).engine = s.engine ∧ (endLock s).stack = s.stack
    ∧ (endLock s).silence = s.silence ∧ (endLock s).link = s.link
    ∧ (endLock s).cause = s.cause ∧ (endLock s).strap = s.strap
    ∧ (endLock s).pending = s.pending := by
  unfold endLock
  (try dsimp only)
  (repeat' split) <;> simp

@[simp] theorem handOver_frame (a : Award) (s : State) :
    (handOver a s).clock = s.clock ∧ (handOver a s).desk = s.desk
    ∧ (handOver a s).debounce = s.debounce ∧ (handOver a s).cues = s.cues
    ∧ (handOver a s).engine = s.engine ∧ (handOver a s).stack = s.stack
    ∧ (handOver a s).silence = s.silence ∧ (handOver a s).link = s.link
    ∧ (handOver a s).cause = s.cause ∧ (handOver a s).strap = s.strap
    ∧ (handOver a s).pending = s.pending := by
  unfold handOver
  (try dsimp only)
  (repeat' split) <;> simp

@[simp] theorem handOverAll_frame (l : List Award) (s : State) :
    (handOverAll l s).clock = s.clock ∧ (handOverAll l s).desk = s.desk
    ∧ (handOverAll l s).debounce = s.debounce ∧ (handOverAll l s).cues = s.cues
    ∧ (handOverAll l s).engine = s.engine ∧ (handOverAll l s).stack = s.stack
    ∧ (handOverAll l s).silence = s.silence ∧ (handOverAll l s).link = s.link
    ∧ (handOverAll l s).cause = s.cause ∧ (handOverAll l s).strap = s.strap
    ∧ (handOverAll l s).pending = s.pending := by
  induction l generalizing s with
  | nil => simp [handOverAll]
  | cons x xs ih => simp [handOverAll, ih]

@[simp] theorem lapse_frame (s : State) :
    (lapse s).clock = s.clock ∧ (lapse s).desk = s.desk
    ∧ (lapse s).debounce = s.debounce ∧ (lapse s).cues = s.cues
    ∧ (lapse s).engine = s.engine ∧ (lapse s).stack = s.stack
    ∧ (lapse s).silence = s.silence ∧ (lapse s).link = s.link
    ∧ (lapse s).cause = s.cause ∧ (lapse s).strap = s.strap
    ∧ (lapse s).pending = s.pending := by
  unfold lapse
  (try dsimp only)
  (repeat' split) <;> simp

end Sys2Proof.Machine
end

