-- ==== Sys2Proof/Laws/Engine.lean ====
section
/-! SUPPORT. What the operations of the round engine and the silence monitor leave as it was. -/

namespace Sys2Proof.Machine

@[simp] theorem enterOpen_frame (c : Context) (s : State) :
    (enterOpen c s).clock = s.clock ∧ (enterOpen c s).roster = s.roster
    ∧ (enterOpen c s).debounce = s.debounce ∧ (enterOpen c s).cues = s.cues
    ∧ (enterOpen c s).stack = s.stack ∧ (enterOpen c s).scores = s.scores
    ∧ (enterOpen c s).silence = s.silence ∧ (enterOpen c s).link = s.link
    ∧ (enterOpen c s).cause = s.cause ∧ (enterOpen c s).strap = s.strap
    ∧ (enterOpen c s).pending = s.pending := by
  unfold enterOpen
  (try dsimp only)
  (repeat' split) <;> simp

@[simp] theorem closeRound_frame (e : Ending) (c : Context) (s : State) :
    (closeRound e c s).clock = s.clock ∧ (closeRound e c s).roster = s.roster
    ∧ (closeRound e c s).debounce = s.debounce ∧ (closeRound e c s).cues = s.cues
    ∧ (closeRound e c s).stack = s.stack ∧ (closeRound e c s).scores = s.scores
    ∧ (closeRound e c s).silence = s.silence ∧ (closeRound e c s).link = s.link
    ∧ (closeRound e c s).cause = s.cause ∧ (closeRound e c s).strap = s.strap
    ∧ (closeRound e c s).pending = s.pending := by
  unfold closeRound
  (try dsimp only)
  (repeat' split) <;> simp

@[simp] theorem settleTest_frame (s : State) :
    (settleTest s).clock = s.clock ∧ (settleTest s).roster = s.roster
    ∧ (settleTest s).debounce = s.debounce ∧ (settleTest s).cues = s.cues
    ∧ (settleTest s).stack = s.stack ∧ (settleTest s).scores = s.scores
    ∧ (settleTest s).silence = s.silence ∧ (settleTest s).link = s.link
    ∧ (settleTest s).cause = s.cause ∧ (settleTest s).strap = s.strap
    ∧ (settleTest s).pending = s.pending := by
  unfold settleTest
  (try dsimp only)
  (repeat' split) <;> simp

@[simp] theorem admitClaim_frame (q : Claim) (c : Context) (s : State) :
    (admitClaim q c s).clock = s.clock ∧ (admitClaim q c s).roster = s.roster
    ∧ (admitClaim q c s).debounce = s.debounce ∧ (admitClaim q c s).cues = s.cues
    ∧ (admitClaim q c s).stack = s.stack ∧ (admitClaim q c s).scores = s.scores
    ∧ (admitClaim q c s).silence = s.silence ∧ (admitClaim q c s).link = s.link
    ∧ (admitClaim q c s).cause = s.cause ∧ (admitClaim q c s).strap = s.strap
    ∧ (admitClaim q c s).pending = s.pending := by
  unfold admitClaim
  (try dsimp only)
  (repeat' split) <;> simp

@[simp] theorem meetFullQueue_frame (q last : Claim) (c : Context) (s : State) :
    (meetFullQueue q last c s).clock = s.clock ∧ (meetFullQueue q last c s).roster = s.roster
    ∧ (meetFullQueue q last c s).debounce = s.debounce ∧ (meetFullQueue q last c s).cues = s.cues
    ∧ (meetFullQueue q last c s).stack = s.stack ∧ (meetFullQueue q last c s).scores = s.scores
    ∧ (meetFullQueue q last c s).silence = s.silence ∧ (meetFullQueue q last c s).link = s.link
    ∧ (meetFullQueue q last c s).cause = s.cause ∧ (meetFullQueue q last c s).strap = s.strap
    ∧ (meetFullQueue q last c s).pending = s.pending := by
  unfold meetFullQueue
  (try dsimp only)
  (repeat' split) <;> simp

@[simp] theorem newClaim_frame (q : Claim) (c : Context) (s : State) :
    (newClaim q c s).clock = s.clock ∧ (newClaim q c s).roster = s.roster
    ∧ (newClaim q c s).debounce = s.debounce ∧ (newClaim q c s).cues = s.cues
    ∧ (newClaim q c s).stack = s.stack ∧ (newClaim q c s).scores = s.scores
    ∧ (newClaim q c s).silence = s.silence ∧ (newClaim q c s).link = s.link
    ∧ (newClaim q c s).cause = s.cause ∧ (newClaim q c s).strap = s.strap
    ∧ (newClaim q c s).pending = s.pending := by
  unfold newClaim
  (try dsimp only)
  (repeat' split) <;> simp

@[simp] theorem improveClaim_frame (p : Press) (old : Claim) (c : Context) (s : State) :
    (improveClaim p old c s).clock = s.clock ∧ (improveClaim p old c s).roster = s.roster
    ∧ (improveClaim p old c s).debounce = s.debounce ∧ (improveClaim p old c s).cues = s.cues
    ∧ (improveClaim p old c s).stack = s.stack ∧ (improveClaim p old c s).scores = s.scores
    ∧ (improveClaim p old c s).silence = s.silence ∧ (improveClaim p old c s).link = s.link
    ∧ (improveClaim p old c s).cause = s.cause ∧ (improveClaim p old c s).strap = s.strap
    ∧ (improveClaim p old c s).pending = s.pending := by
  unfold improveClaim
  (try dsimp only)
  (repeat' split) <;> simp

@[simp] theorem takeClaim_frame (p : Press) (c : Context) (s : State) :
    (takeClaim p c s).clock = s.clock ∧ (takeClaim p c s).roster = s.roster
    ∧ (takeClaim p c s).debounce = s.debounce ∧ (takeClaim p c s).cues = s.cues
    ∧ (takeClaim p c s).stack = s.stack ∧ (takeClaim p c s).scores = s.scores
    ∧ (takeClaim p c s).silence = s.silence ∧ (takeClaim p c s).link = s.link
    ∧ (takeClaim p c s).cause = s.cause ∧ (takeClaim p c s).strap = s.strap
    ∧ (takeClaim p c s).pending = s.pending := by
  unfold takeClaim
  (try dsimp only)
  (repeat' split) <;> simp

@[simp] theorem floorPass_frame (cause : EndCause) (c : Context) (s : State) :
    (floorPass cause c s).clock = s.clock ∧ (floorPass cause c s).roster = s.roster
    ∧ (floorPass cause c s).debounce = s.debounce ∧ (floorPass cause c s).cues = s.cues
    ∧ (floorPass cause c s).stack = s.stack ∧ (floorPass cause c s).scores = s.scores
    ∧ (floorPass cause c s).silence = s.silence ∧ (floorPass cause c s).link = s.link
    ∧ (floorPass cause c s).cause = s.cause ∧ (floorPass cause c s).strap = s.strap
    ∧ (floorPass cause c s).pending = s.pending := by
  unfold floorPass
  (try dsimp only)
  (repeat' split) <;> simp

@[simp] theorem correctVerdict_frame (t : TeamId) (c : Context) (s : State) :
    (correctVerdict t c s).clock = s.clock ∧ (correctVerdict t c s).debounce = s.debounce
    ∧ (correctVerdict t c s).cues = s.cues ∧ (correctVerdict t c s).stack = s.stack
    ∧ (correctVerdict t c s).silence = s.silence ∧ (correctVerdict t c s).link = s.link
    ∧ (correctVerdict t c s).cause = s.cause ∧ (correctVerdict t c s).strap = s.strap
    ∧ (correctVerdict t c s).pending = s.pending := by
  unfold correctVerdict
  (try dsimp only)
  (repeat' split) <;> simp

@[simp] theorem wrongVerdict_frame (cause : EndCause) (t : TeamId) (c : Context) (s : State) :
    (wrongVerdict cause t c s).clock = s.clock ∧ (wrongVerdict cause t c s).debounce = s.debounce
    ∧ (wrongVerdict cause t c s).cues = s.cues ∧ (wrongVerdict cause t c s).stack = s.stack
    ∧ (wrongVerdict cause t c s).silence = s.silence ∧ (wrongVerdict cause t c s).link = s.link
    ∧ (wrongVerdict cause t c s).cause = s.cause ∧ (wrongVerdict cause t c s).strap = s.strap
    ∧ (wrongVerdict cause t c s).pending = s.pending := by
  unfold wrongVerdict
  (try dsimp only)
  (repeat' split) <;> simp

@[simp] theorem voidVerdict_frame (cause : EndCause) (t : TeamId) (c : Context) (s : State) :
    (voidVerdict cause t c s).clock = s.clock ∧ (voidVerdict cause t c s).roster = s.roster
    ∧ (voidVerdict cause t c s).debounce = s.debounce ∧ (voidVerdict cause t c s).cues = s.cues
    ∧ (voidVerdict cause t c s).stack = s.stack ∧ (voidVerdict cause t c s).scores = s.scores
    ∧ (voidVerdict cause t c s).silence = s.silence ∧ (voidVerdict cause t c s).link = s.link
    ∧ (voidVerdict cause t c s).cause = s.cause ∧ (voidVerdict cause t c s).strap = s.strap
    ∧ (voidVerdict cause t c s).pending = s.pending := by
  unfold voidVerdict
  (try dsimp only)
  (repeat' split) <;> simp

@[simp] theorem endAnswer_frame (cause : EndCause) (c : Context) (s : State) :
    (endAnswer cause c s).clock = s.clock ∧ (endAnswer cause c s).debounce = s.debounce
    ∧ (endAnswer cause c s).cues = s.cues ∧ (endAnswer cause c s).stack = s.stack
    ∧ (endAnswer cause c s).silence = s.silence ∧ (endAnswer cause c s).link = s.link
    ∧ (endAnswer cause c s).cause = s.cause ∧ (endAnswer cause c s).strap = s.strap
    ∧ (endAnswer cause c s).pending = s.pending := by
  unfold endAnswer
  (try dsimp only)
  (repeat' split) <;> simp

@[simp] theorem answerExpiry_frame (s : State) :
    (answerExpiry s).clock = s.clock ∧ (answerExpiry s).debounce = s.debounce
    ∧ (answerExpiry s).cues = s.cues ∧ (answerExpiry s).stack = s.stack
    ∧ (answerExpiry s).silence = s.silence ∧ (answerExpiry s).link = s.link
    ∧ (answerExpiry s).cause = s.cause ∧ (answerExpiry s).strap = s.strap
    ∧ (answerExpiry s).pending = s.pending := by
  unfold answerExpiry
  (try dsimp only)
  (repeat' split) <;> simp

@[simp] theorem flashReached_frame (s : State) :
    (flashReached s).clock = s.clock ∧ (flashReached s).roster = s.roster
    ∧ (flashReached s).desk = s.desk ∧ (flashReached s).debounce = s.debounce
    ∧ (flashReached s).cues = s.cues ∧ (flashReached s).stack = s.stack
    ∧ (flashReached s).scores = s.scores ∧ (flashReached s).silence = s.silence
    ∧ (flashReached s).board = s.board ∧ (flashReached s).notices = s.notices
    ∧ (flashReached s).link = s.link ∧ (flashReached s).cause = s.cause
    ∧ (flashReached s).strap = s.strap ∧ (flashReached s).pending = s.pending := by
  unfold flashReached
  (try dsimp only)
  (repeat' split) <;> simp

@[simp] theorem applyVerdict_frame (v : Verdict) (t : TeamId) (c : Context) (s : State) :
    (applyVerdict v t c s).clock = s.clock ∧ (applyVerdict v t c s).debounce = s.debounce
    ∧ (applyVerdict v t c s).cues = s.cues ∧ (applyVerdict v t c s).stack = s.stack
    ∧ (applyVerdict v t c s).silence = s.silence ∧ (applyVerdict v t c s).link = s.link
    ∧ (applyVerdict v t c s).cause = s.cause ∧ (applyVerdict v t c s).strap = s.strap
    ∧ (applyVerdict v t c s).pending = s.pending := by
  unfold applyVerdict
  (try dsimp only)
  (repeat' split) <;> simp

@[simp] theorem reopenEmptied_frame (c : Context) (s : State) :
    (reopenEmptied c s).clock = s.clock ∧ (reopenEmptied c s).roster = s.roster
    ∧ (reopenEmptied c s).debounce = s.debounce ∧ (reopenEmptied c s).cues = s.cues
    ∧ (reopenEmptied c s).stack = s.stack ∧ (reopenEmptied c s).scores = s.scores
    ∧ (reopenEmptied c s).silence = s.silence ∧ (reopenEmptied c s).link = s.link
    ∧ (reopenEmptied c s).cause = s.cause ∧ (reopenEmptied c s).strap = s.strap
    ∧ (reopenEmptied c s).pending = s.pending := by
  unfold reopenEmptied
  (try dsimp only)
  (repeat' split) <;> simp

@[simp] theorem removeClaim_frame (t : TeamId) (c : Context) (s : State) :
    (removeClaim t c s).clock = s.clock ∧ (removeClaim t c s).roster = s.roster
    ∧ (removeClaim t c s).debounce = s.debounce ∧ (removeClaim t c s).cues = s.cues
    ∧ (removeClaim t c s).stack = s.stack ∧ (removeClaim t c s).scores = s.scores
    ∧ (removeClaim t c s).silence = s.silence ∧ (removeClaim t c s).link = s.link
    ∧ (removeClaim t c s).cause = s.cause ∧ (removeClaim t c s).strap = s.strap
    ∧ (removeClaim t c s).pending = s.pending := by
  unfold removeClaim
  (try dsimp only)
  (repeat' split) <;> simp

@[simp] theorem takeVote_frame (p : Press) (c : Context) (s : State) :
    (takeVote p c s).clock = s.clock ∧ (takeVote p c s).roster = s.roster
    ∧ (takeVote p c s).desk = s.desk ∧ (takeVote p c s).debounce = s.debounce
    ∧ (takeVote p c s).cues = s.cues ∧ (takeVote p c s).stack = s.stack
    ∧ (takeVote p c s).scores = s.scores ∧ (takeVote p c s).silence = s.silence
    ∧ (takeVote p c s).board = s.board ∧ (takeVote p c s).notices = s.notices
    ∧ (takeVote p c s).link = s.link ∧ (takeVote p c s).cause = s.cause
    ∧ (takeVote p c s).strap = s.strap ∧ (takeVote p c s).pending = s.pending := by
  unfold takeVote
  (try dsimp only)
  (repeat' split) <;> simp

@[simp] theorem takePress_frame (p : Press) (s : State) :
    (takePress p s).clock = s.clock ∧ (takePress p s).roster = s.roster
    ∧ (takePress p s).debounce = s.debounce ∧ (takePress p s).cues = s.cues
    ∧ (takePress p s).stack = s.stack ∧ (takePress p s).scores = s.scores
    ∧ (takePress p s).silence = s.silence ∧ (takePress p s).link = s.link
    ∧ (takePress p s).cause = s.cause ∧ (takePress p s).strap = s.strap
    ∧ (takePress p s).pending = s.pending := by
  unfold takePress
  (try dsimp only)
  (repeat' split) <;> simp

@[simp] theorem takePresses_frame (l : List Press) (s : State) :
    (takePresses l s).clock = s.clock ∧ (takePresses l s).roster = s.roster
    ∧ (takePresses l s).debounce = s.debounce ∧ (takePresses l s).cues = s.cues
    ∧ (takePresses l s).stack = s.stack ∧ (takePresses l s).scores = s.scores
    ∧ (takePresses l s).silence = s.silence ∧ (takePresses l s).link = s.link
    ∧ (takePresses l s).cause = s.cause ∧ (takePresses l s).strap = s.strap
    ∧ (takePresses l s).pending = s.pending := by
  induction l generalizing s with
  | nil => simp [takePresses]
  | cons x xs ih => simp [takePresses, ih]

@[simp] theorem closeVoting_frame (cause : EndCause) (instant : ClockValue) (c : Context) (s : State) :
    (closeVoting cause instant c s).clock = s.clock ∧ (closeVoting cause instant c s).roster = s.roster
    ∧ (closeVoting cause instant c s).debounce = s.debounce ∧ (closeVoting cause instant c s).cues = s.cues
    ∧ (closeVoting cause instant c s).stack = s.stack ∧ (closeVoting cause instant c s).scores = s.scores
    ∧ (closeVoting cause instant c s).silence = s.silence ∧ (closeVoting cause instant c s).link = s.link
    ∧ (closeVoting cause instant c s).cause = s.cause ∧ (closeVoting cause instant c s).strap = s.strap
    ∧ (closeVoting cause instant c s).pending = s.pending := by
  unfold closeVoting
  (try dsimp only)
  (repeat' split) <;> simp

@[simp] theorem closingTest_frame (s : State) :
    (closingTest s).clock = s.clock ∧ (closingTest s).roster = s.roster
    ∧ (closingTest s).debounce = s.debounce ∧ (closingTest s).cues = s.cues
    ∧ (closingTest s).stack = s.stack ∧ (closingTest s).scores = s.scores
    ∧ (closingTest s).silence = s.silence ∧ (closingTest s).link = s.link
    ∧ (closingTest s).cause = s.cause ∧ (closingTest s).strap = s.strap
    ∧ (closingTest s).pending = s.pending := by
  unfold closingTest
  (try dsimp only)
  (repeat' split) <;> simp

@[simp] theorem cycleCompleted_frame (s : State) :
    (cycleCompleted s).clock = s.clock ∧ (cycleCompleted s).roster = s.roster
    ∧ (cycleCompleted s).debounce = s.debounce ∧ (cycleCompleted s).cues = s.cues
    ∧ (cycleCompleted s).stack = s.stack ∧ (cycleCompleted s).scores = s.scores
    ∧ (cycleCompleted s).silence = s.silence ∧ (cycleCompleted s).link = s.link
    ∧ (cycleCompleted s).cause = s.cause ∧ (cycleCompleted s).strap = s.strap
    ∧ (cycleCompleted s).pending = s.pending := by
  unfold cycleCompleted
  (try dsimp only)
  (repeat' split) <;> simp

@[simp] theorem expireRound_frame (instant : ClockValue) (c : Context) (s : State) :
    (expireRound instant c s).clock = s.clock ∧ (expireRound instant c s).roster = s.roster
    ∧ (expireRound instant c s).debounce = s.debounce ∧ (expireRound instant c s).cues = s.cues
    ∧ (expireRound instant c s).stack = s.stack ∧ (expireRound instant c s).scores = s.scores
    ∧ (expireRound instant c s).silence = s.silence ∧ (expireRound instant c s).link = s.link
    ∧ (expireRound instant c s).cause = s.cause ∧ (expireRound instant c s).strap = s.strap
    ∧ (expireRound instant c s).pending = s.pending := by
  unfold expireRound
  (try dsimp only)
  (repeat' split) <;> simp

@[simp] theorem roundExpiry_frame (s : State) :
    (roundExpiry s).clock = s.clock ∧ (roundExpiry s).roster = s.roster
    ∧ (roundExpiry s).debounce = s.debounce ∧ (roundExpiry s).cues = s.cues
    ∧ (roundExpiry s).stack = s.stack ∧ (roundExpiry s).scores = s.scores
    ∧ (roundExpiry s).silence = s.silence ∧ (roundExpiry s).link = s.link
    ∧ (roundExpiry s).cause = s.cause ∧ (roundExpiry s).strap = s.strap
    ∧ (roundExpiry s).pending = s.pending := by
  unfold roundExpiry
  (try dsimp only)
  (repeat' split) <;> simp

@[simp] theorem silenceReached_frame (s : State) :
    (silenceReached s).clock = s.clock ∧ (silenceReached s).roster = s.roster
    ∧ (silenceReached s).desk = s.desk ∧ (silenceReached s).debounce = s.debounce
    ∧ (silenceReached s).cues = s.cues ∧ (silenceReached s).stack = s.stack
    ∧ (silenceReached s).scores = s.scores ∧ (silenceReached s).link = s.link
    ∧ (silenceReached s).cause = s.cause ∧ (silenceReached s).strap = s.strap
    ∧ (silenceReached s).pending = s.pending := by
  unfold silenceReached
  (try dsimp only)
  (repeat' split) <;> simp

@[simp] theorem unholdActive_frame (s : State) :
    (unholdActive s).clock = s.clock ∧ (unholdActive s).roster = s.roster
    ∧ (unholdActive s).debounce = s.debounce ∧ (unholdActive s).cues = s.cues
    ∧ (unholdActive s).stack = s.stack ∧ (unholdActive s).scores = s.scores
    ∧ (unholdActive s).silence = s.silence ∧ (unholdActive s).link = s.link
    ∧ (unholdActive s).cause = s.cause ∧ (unholdActive s).strap = s.strap
    ∧ (unholdActive s).pending = s.pending := by
  unfold unholdActive
  (try dsimp only)
  (repeat' split) <;> simp

@[simp] theorem endHold_frame (period : Nat) (s : State) :
    (endHold period s).clock = s.clock ∧ (endHold period s).roster = s.roster
    ∧ (endHold period s).debounce = s.debounce ∧ (endHold period s).cues = s.cues
    ∧ (endHold period s).stack = s.stack ∧ (endHold period s).scores = s.scores
    ∧ (endHold period s).link = s.link ∧ (endHold period s).cause = s.cause
    ∧ (endHold period s).strap = s.strap ∧ (endHold period s).pending = s.pending := by
  unfold endHold
  (try dsimp only)
  (repeat' split) <;> simp

@[simp] theorem validFrame_frame (s : State) :
    (validFrame s).clock = s.clock ∧ (validFrame s).roster = s.roster
    ∧ (validFrame s).debounce = s.debounce ∧ (validFrame s).cues = s.cues
    ∧ (validFrame s).stack = s.stack ∧ (validFrame s).scores = s.scores
    ∧ (validFrame s).link = s.link ∧ (validFrame s).cause = s.cause
    ∧ (validFrame s).strap = s.strap ∧ (validFrame s).pending = s.pending := by
  unfold validFrame
  (try dsimp only)
  (repeat' split) <;> simp

@[simp] theorem dropBenchedClaim_frame (t : TeamId) (s : State) :
    (dropBenchedClaim t s).clock = s.clock ∧ (dropBenchedClaim t s).roster = s.roster
    ∧ (dropBenchedClaim t s).debounce = s.debounce ∧ (dropBenchedClaim t s).cues = s.cues
    ∧ (dropBenchedClaim t s).stack = s.stack ∧ (dropBenchedClaim t s).scores = s.scores
    ∧ (dropBenchedClaim t s).silence = s.silence ∧ (dropBenchedClaim t s).link = s.link
    ∧ (dropBenchedClaim t s).cause = s.cause ∧ (dropBenchedClaim t s).strap = s.strap
    ∧ (dropBenchedClaim t s).pending = s.pending := by
  unfold dropBenchedClaim
  (try dsimp only)
  (repeat' split) <;> simp

@[simp] theorem changeTeam_frame (t : TeamId) (state : Option TeamState) (tag : Option (Option (List Glyph))) (s : State) :
    (changeTeam t state tag s).clock = s.clock ∧ (changeTeam t state tag s).debounce = s.debounce
    ∧ (changeTeam t state tag s).cues = s.cues ∧ (changeTeam t state tag s).stack = s.stack
    ∧ (changeTeam t state tag s).scores = s.scores ∧ (changeTeam t state tag s).silence = s.silence
    ∧ (changeTeam t state tag s).link = s.link ∧ (changeTeam t state tag s).cause = s.cause
    ∧ (changeTeam t state tag s).strap = s.strap ∧ (changeTeam t state tag s).pending = s.pending := by
  unfold changeTeam
  (try dsimp only)
  (repeat' split) <;> simp

@[simp] theorem playCue_frame (x : SlotId) (cue : Cue) (s : State) :
    (playCue x cue s).clock = s.clock ∧ (playCue x cue s).roster = s.roster
    ∧ (playCue x cue s).desk = s.desk ∧ (playCue x cue s).debounce = s.debounce
    ∧ (playCue x cue s).engine = s.engine ∧ (playCue x cue s).stack = s.stack
    ∧ (playCue x cue s).scores = s.scores ∧ (playCue x cue s).silence = s.silence
    ∧ (playCue x cue s).board = s.board ∧ (playCue x cue s).link = s.link
    ∧ (playCue x cue s).cause = s.cause ∧ (playCue x cue s).strap = s.strap
    ∧ (playCue x cue s).pending = s.pending := by
  unfold playCue
  (try dsimp only)
  (repeat' split) <;> simp

@[simp] theorem armContext_frame (x : SlotId) (cue : Cue) (s : State) :
    (armContext x cue s).clock = s.clock ∧ (armContext x cue s).roster = s.roster
    ∧ (armContext x cue s).debounce = s.debounce ∧ (armContext x cue s).stack = s.stack
    ∧ (armContext x cue s).scores = s.scores ∧ (armContext x cue s).silence = s.silence
    ∧ (armContext x cue s).link = s.link ∧ (armContext x cue s).cause = s.cause
    ∧ (armContext x cue s).strap = s.strap ∧ (armContext x cue s).pending = s.pending := by
  unfold armContext
  (try dsimp only)
  (repeat' split) <;> simp

end Sys2Proof.Machine
end

