-- ==== Sys2Proof/Laws/Line.lean ====
section
/-! SUPPORT. What the operations of the press capture unit and the events of the desk line leave as it was. -/

namespace Sys2Proof.Machine

@[simp] theorem confirm_frame (a : PadAddr) (c : Candidate) (s : State) :
    (confirm a c s).clock = s.clock ∧ (confirm a c s).debounce = s.debounce
    ∧ (confirm a c s).cues = s.cues ∧ (confirm a c s).stack = s.stack
    ∧ (confirm a c s).scores = s.scores ∧ (confirm a c s).silence = s.silence
    ∧ (confirm a c s).link = s.link ∧ (confirm a c s).cause = s.cause
    ∧ (confirm a c s).strap = s.strap ∧ (confirm a c s).pending = s.pending := by
  unfold confirm
  (try dsimp only)
  (repeat' split) <;> simp

@[simp] theorem countCandidate_frame (a : PadAddr) (c : Candidate) (s : State) :
    (countCandidate a c s).clock = s.clock ∧ (countCandidate a c s).debounce = s.debounce
    ∧ (countCandidate a c s).cues = s.cues ∧ (countCandidate a c s).stack = s.stack
    ∧ (countCandidate a c s).scores = s.scores ∧ (countCandidate a c s).silence = s.silence
    ∧ (countCandidate a c s).link = s.link ∧ (countCandidate a c s).cause = s.cause
    ∧ (countCandidate a c s).strap = s.strap ∧ (countCandidate a c s).pending = s.pending := by
  unfold countCandidate
  (try dsimp only)
  (repeat' split) <;> simp

@[simp] theorem makeCandidate_frame (a : PadAddr) (keys : Keys) (age : Byte) (s : State) :
    (makeCandidate a keys age s).clock = s.clock ∧ (makeCandidate a keys age s).debounce = s.debounce
    ∧ (makeCandidate a keys age s).cues = s.cues ∧ (makeCandidate a keys age s).stack = s.stack
    ∧ (makeCandidate a keys age s).scores = s.scores ∧ (makeCandidate a keys age s).silence = s.silence
    ∧ (makeCandidate a keys age s).link = s.link ∧ (makeCandidate a keys age s).cause = s.cause
    ∧ (makeCandidate a keys age s).strap = s.strap ∧ (makeCandidate a keys age s).pending = s.pending := by
  unfold makeCandidate
  (try dsimp only)
  (repeat' split) <;> simp

@[simp] theorem captureReply_frame (a : PadAddr) (keys : Keys) (age : Byte) (s : State) :
    (captureReply a keys age s).clock = s.clock ∧ (captureReply a keys age s).debounce = s.debounce
    ∧ (captureReply a keys age s).cues = s.cues ∧ (captureReply a keys age s).stack = s.stack
    ∧ (captureReply a keys age s).scores = s.scores ∧ (captureReply a keys age s).silence = s.silence
    ∧ (captureReply a keys age s).link = s.link ∧ (captureReply a keys age s).cause = s.cause
    ∧ (captureReply a keys age s).strap = s.strap ∧ (captureReply a keys age s).pending = s.pending := by
  unfold captureReply
  (try dsimp only)
  (repeat' split) <;> simp

@[simp] theorem discoverPad_frame (a : PadAddr) (s : State) :
    (discoverPad a s).clock = s.clock ∧ (discoverPad a s).debounce = s.debounce
    ∧ (discoverPad a s).cues = s.cues ∧ (discoverPad a s).engine = s.engine
    ∧ (discoverPad a s).stack = s.stack ∧ (discoverPad a s).scores = s.scores
    ∧ (discoverPad a s).silence = s.silence ∧ (discoverPad a s).board = s.board
    ∧ (discoverPad a s).link = s.link ∧ (discoverPad a s).cause = s.cause
    ∧ (discoverPad a s).strap = s.strap ∧ (discoverPad a s).pending = s.pending := by
  unfold discoverPad
  (try dsimp only)
  (repeat' split) <;> simp

@[simp] theorem copyStatus_frame (a : PadAddr) (batteryLow : Bool) (s : State) :
    (copyStatus a batteryLow s).clock = s.clock ∧ (copyStatus a batteryLow s).debounce = s.debounce
    ∧ (copyStatus a batteryLow s).cues = s.cues ∧ (copyStatus a batteryLow s).engine = s.engine
    ∧ (copyStatus a batteryLow s).stack = s.stack ∧ (copyStatus a batteryLow s).scores = s.scores
    ∧ (copyStatus a batteryLow s).silence = s.silence ∧ (copyStatus a batteryLow s).board = s.board
    ∧ (copyStatus a batteryLow s).link = s.link ∧ (copyStatus a batteryLow s).cause = s.cause
    ∧ (copyStatus a batteryLow s).strap = s.strap ∧ (copyStatus a batteryLow s).pending = s.pending := by
  unfold copyStatus
  (try dsimp only)
  (repeat' split) <;> simp

@[simp] theorem recordEcho_frame (a : PadAddr) (echo : LineSpeed) (s : State) :
    (recordEcho a echo s).clock = s.clock ∧ (recordEcho a echo s).debounce = s.debounce
    ∧ (recordEcho a echo s).cues = s.cues ∧ (recordEcho a echo s).engine = s.engine
    ∧ (recordEcho a echo s).stack = s.stack ∧ (recordEcho a echo s).scores = s.scores
    ∧ (recordEcho a echo s).silence = s.silence ∧ (recordEcho a echo s).board = s.board
    ∧ (recordEcho a echo s).link = s.link ∧ (recordEcho a echo s).cause = s.cause
    ∧ (recordEcho a echo s).strap = s.strap ∧ (recordEcho a echo s).pending = s.pending := by
  unfold recordEcho
  (try dsimp only)
  (repeat' split) <;> simp

@[simp] theorem handToCapture_frame (a : PadAddr) (r : PadReply) (s : State) :
    (handToCapture a r s).clock = s.clock ∧ (handToCapture a r s).debounce = s.debounce
    ∧ (handToCapture a r s).cues = s.cues ∧ (handToCapture a r s).stack = s.stack
    ∧ (handToCapture a r s).scores = s.scores ∧ (handToCapture a r s).silence = s.silence
    ∧ (handToCapture a r s).link = s.link ∧ (handToCapture a r s).cause = s.cause
    ∧ (handToCapture a r s).strap = s.strap ∧ (handToCapture a r s).pending = s.pending := by
  unfold handToCapture
  (try dsimp only)
  (repeat' split) <;> simp

@[simp] theorem takeReply_frame (a : PadAddr) (r : PadReply) (s : State) :
    (takeReply a r s).clock = s.clock ∧ (takeReply a r s).debounce = s.debounce
    ∧ (takeReply a r s).cues = s.cues ∧ (takeReply a r s).stack = s.stack
    ∧ (takeReply a r s).scores = s.scores ∧ (takeReply a r s).silence = s.silence
    ∧ (takeReply a r s).link = s.link ∧ (takeReply a r s).cause = s.cause
    ∧ (takeReply a r s).strap = s.strap ∧ (takeReply a r s).pending = s.pending := by
  unfold takeReply
  (try dsimp only)
  (repeat' split) <;> simp

@[simp] theorem losePad_frame (a : PadAddr) (s : State) :
    (losePad a s).clock = s.clock ∧ (losePad a s).debounce = s.debounce
    ∧ (losePad a s).cues = s.cues ∧ (losePad a s).engine = s.engine
    ∧ (losePad a s).stack = s.stack ∧ (losePad a s).scores = s.scores
    ∧ (losePad a s).silence = s.silence ∧ (losePad a s).board = s.board
    ∧ (losePad a s).link = s.link ∧ (losePad a s).cause = s.cause
    ∧ (losePad a s).strap = s.strap ∧ (losePad a s).pending = s.pending := by
  unfold losePad
  (try dsimp only)
  (repeat' split) <;> simp

@[simp] theorem takeMiss_frame (a : PadAddr) (s : State) :
    (takeMiss a s).clock = s.clock ∧ (takeMiss a s).debounce = s.debounce
    ∧ (takeMiss a s).cues = s.cues ∧ (takeMiss a s).engine = s.engine
    ∧ (takeMiss a s).stack = s.stack ∧ (takeMiss a s).scores = s.scores
    ∧ (takeMiss a s).silence = s.silence ∧ (takeMiss a s).board = s.board
    ∧ (takeMiss a s).link = s.link ∧ (takeMiss a s).cause = s.cause
    ∧ (takeMiss a s).strap = s.strap ∧ (takeMiss a s).pending = s.pending := by
  unfold takeMiss
  (try dsimp only)
  (repeat' split) <;> simp

@[simp] theorem afterPoll_frame (stage : CycleStage) (s : State) :
    (afterPoll stage s).clock = s.clock ∧ (afterPoll stage s).roster = s.roster
    ∧ (afterPoll stage s).debounce = s.debounce ∧ (afterPoll stage s).cues = s.cues
    ∧ (afterPoll stage s).engine = s.engine ∧ (afterPoll stage s).stack = s.stack
    ∧ (afterPoll stage s).scores = s.scores ∧ (afterPoll stage s).silence = s.silence
    ∧ (afterPoll stage s).board = s.board ∧ (afterPoll stage s).notices = s.notices
    ∧ (afterPoll stage s).link = s.link ∧ (afterPoll stage s).cause = s.cause
    ∧ (afterPoll stage s).strap = s.strap ∧ (afterPoll stage s).pending = s.pending := by
  unfold afterPoll
  (try dsimp only)
  (repeat' split) <;> simp

@[simp] theorem abandonedSlotCloses_frame (s : State) :
    (abandonedSlotCloses s).clock = s.clock ∧ (abandonedSlotCloses s).roster = s.roster
    ∧ (abandonedSlotCloses s).debounce = s.debounce ∧ (abandonedSlotCloses s).cues = s.cues
    ∧ (abandonedSlotCloses s).engine = s.engine ∧ (abandonedSlotCloses s).stack = s.stack
    ∧ (abandonedSlotCloses s).scores = s.scores ∧ (abandonedSlotCloses s).silence = s.silence
    ∧ (abandonedSlotCloses s).board = s.board ∧ (abandonedSlotCloses s).notices = s.notices
    ∧ (abandonedSlotCloses s).link = s.link ∧ (abandonedSlotCloses s).cause = s.cause
    ∧ (abandonedSlotCloses s).strap = s.strap ∧ (abandonedSlotCloses s).pending = s.pending := by
  unfold abandonedSlotCloses
  split <;> simp

@[simp] theorem replyArrives_frame (r : PadReply) (s : State) :
    (replyArrives r s).clock = s.clock ∧ (replyArrives r s).debounce = s.debounce
    ∧ (replyArrives r s).cues = s.cues ∧ (replyArrives r s).stack = s.stack
    ∧ (replyArrives r s).scores = s.scores ∧ (replyArrives r s).silence = s.silence
    ∧ (replyArrives r s).link = s.link ∧ (replyArrives r s).cause = s.cause
    ∧ (replyArrives r s).strap = s.strap ∧ (replyArrives r s).pending = s.pending := by
  unfold replyArrives
  (try dsimp only)
  (repeat' split) <;> simp

@[simp] theorem pollMissed_frame (s : State) :
    (pollMissed s).clock = s.clock ∧ (pollMissed s).debounce = s.debounce
    ∧ (pollMissed s).cues = s.cues ∧ (pollMissed s).engine = s.engine
    ∧ (pollMissed s).stack = s.stack ∧ (pollMissed s).scores = s.scores
    ∧ (pollMissed s).silence = s.silence ∧ (pollMissed s).board = s.board
    ∧ (pollMissed s).link = s.link ∧ (pollMissed s).cause = s.cause
    ∧ (pollMissed s).strap = s.strap ∧ (pollMissed s).pending = s.pending := by
  unfold pollMissed
  (try dsimp only)
  (repeat' split) <;> simp

@[simp] theorem roamStart_frame (s : State) :
    (roamStart s).clock = s.clock ∧ (roamStart s).roster = s.roster
    ∧ (roamStart s).debounce = s.debounce ∧ (roamStart s).cues = s.cues
    ∧ (roamStart s).engine = s.engine ∧ (roamStart s).stack = s.stack
    ∧ (roamStart s).scores = s.scores ∧ (roamStart s).silence = s.silence
    ∧ (roamStart s).board = s.board ∧ (roamStart s).notices = s.notices
    ∧ (roamStart s).link = s.link ∧ (roamStart s).cause = s.cause
    ∧ (roamStart s).strap = s.strap ∧ (roamStart s).pending = s.pending := by
  unfold roamStart
  (try dsimp only)
  (repeat' split) <;> simp

@[simp] theorem sprintStart_frame (s : State) :
    (sprintStart s).clock = s.clock ∧ (sprintStart s).roster = s.roster
    ∧ (sprintStart s).debounce = s.debounce ∧ (sprintStart s).cues = s.cues
    ∧ (sprintStart s).engine = s.engine ∧ (sprintStart s).stack = s.stack
    ∧ (sprintStart s).scores = s.scores ∧ (sprintStart s).silence = s.silence
    ∧ (sprintStart s).board = s.board ∧ (sprintStart s).notices = s.notices
    ∧ (sprintStart s).link = s.link ∧ (sprintStart s).cause = s.cause
    ∧ (sprintStart s).strap = s.strap ∧ (sprintStart s).pending = s.pending := by
  unfold sprintStart
  (try dsimp only)
  (repeat' split) <;> simp

@[simp] theorem sprintInUse_frame (s : State) :
    (sprintInUse s).clock = s.clock ∧ (sprintInUse s).roster = s.roster
    ∧ (sprintInUse s).debounce = s.debounce ∧ (sprintInUse s).cues = s.cues
    ∧ (sprintInUse s).stack = s.stack ∧ (sprintInUse s).scores = s.scores
    ∧ (sprintInUse s).silence = s.silence ∧ (sprintInUse s).link = s.link
    ∧ (sprintInUse s).cause = s.cause ∧ (sprintInUse s).strap = s.strap
    ∧ (sprintInUse s).pending = s.pending := by
  unfold sprintInUse
  (try dsimp only)
  (repeat' split) <;> simp

@[simp] theorem completeSwitch_frame (outstanding : List PadAddr) (s : State) :
    (completeSwitch outstanding s).clock = s.clock ∧ (completeSwitch outstanding s).debounce = s.debounce
    ∧ (completeSwitch outstanding s).cues = s.cues ∧ (completeSwitch outstanding s).stack = s.stack
    ∧ (completeSwitch outstanding s).scores = s.scores ∧ (completeSwitch outstanding s).silence = s.silence
    ∧ (completeSwitch outstanding s).link = s.link ∧ (completeSwitch outstanding s).cause = s.cause
    ∧ (completeSwitch outstanding s).strap = s.strap ∧ (completeSwitch outstanding s).pending = s.pending := by
  unfold completeSwitch
  (try dsimp only)
  (repeat' split) <;> simp

@[simp] theorem switchCycleEnded_frame (s : State) :
    (switchCycleEnded s).clock = s.clock ∧ (switchCycleEnded s).debounce = s.debounce
    ∧ (switchCycleEnded s).cues = s.cues ∧ (switchCycleEnded s).stack = s.stack
    ∧ (switchCycleEnded s).scores = s.scores ∧ (switchCycleEnded s).silence = s.silence
    ∧ (switchCycleEnded s).link = s.link ∧ (switchCycleEnded s).cause = s.cause
    ∧ (switchCycleEnded s).strap = s.strap ∧ (switchCycleEnded s).pending = s.pending := by
  unfold switchCycleEnded
  (try dsimp only)
  (repeat' split) <;> simp

@[simp] theorem returnToRoam_frame (s : State) :
    (returnToRoam s).clock = s.clock ∧ (returnToRoam s).debounce = s.debounce
    ∧ (returnToRoam s).cues = s.cues ∧ (returnToRoam s).engine = s.engine
    ∧ (returnToRoam s).stack = s.stack ∧ (returnToRoam s).scores = s.scores
    ∧ (returnToRoam s).silence = s.silence ∧ (returnToRoam s).board = s.board
    ∧ (returnToRoam s).link = s.link ∧ (returnToRoam s).cause = s.cause
    ∧ (returnToRoam s).strap = s.strap ∧ (returnToRoam s).pending = s.pending := by
  unfold returnToRoam
  (try dsimp only)
  (repeat' split) <;> simp

@[simp] theorem readNeed_frame (s : State) :
    (readNeed s).clock = s.clock ∧ (readNeed s).debounce = s.debounce
    ∧ (readNeed s).cues = s.cues ∧ (readNeed s).engine = s.engine
    ∧ (readNeed s).stack = s.stack ∧ (readNeed s).scores = s.scores
    ∧ (readNeed s).silence = s.silence ∧ (readNeed s).board = s.board
    ∧ (readNeed s).link = s.link ∧ (readNeed s).cause = s.cause
    ∧ (readNeed s).strap = s.strap ∧ (readNeed s).pending = s.pending := by
  unfold readNeed
  (try dsimp only)
  (repeat' split) <;> simp

@[simp] theorem sprintCycleEnded_frame (s : State) :
    (sprintCycleEnded s).clock = s.clock ∧ (sprintCycleEnded s).debounce = s.debounce
    ∧ (sprintCycleEnded s).cues = s.cues ∧ (sprintCycleEnded s).stack = s.stack
    ∧ (sprintCycleEnded s).scores = s.scores ∧ (sprintCycleEnded s).silence = s.silence
    ∧ (sprintCycleEnded s).link = s.link ∧ (sprintCycleEnded s).cause = s.cause
    ∧ (sprintCycleEnded s).strap = s.strap ∧ (sprintCycleEnded s).pending = s.pending := by
  unfold sprintCycleEnded
  (try dsimp only)
  (repeat' split) <;> simp

end Sys2Proof.Machine
end

