-- ==== Sys2Proof/Laws/Board.lean ====
section
/-! SUPPORT. What the operations of the board unit leave as it was. -/

namespace Sys2Proof.Machine

@[simp] theorem completeOperation_frame (result : BoardResult) (s : State) :
    (completeOperation result s).clock = s.clock ∧ (completeOperation result s).roster = s.roster
    ∧ (completeOperation result s).desk = s.desk ∧ (completeOperation result s).debounce = s.debounce
    ∧ (completeOperation result s).cues = s.cues ∧ (completeOperation result s).engine = s.engine
    ∧ (completeOperation result s).stack = s.stack ∧ (completeOperation result s).scores = s.scores
    ∧ (completeOperation result s).silence = s.silence ∧ (completeOperation result s).link = s.link
    ∧ (completeOperation result s).cause = s.cause ∧ (completeOperation result s).strap = s.strap
    ∧ (completeOperation result s).pending = s.pending := by
  unfold completeOperation
  (try dsimp only)
  (repeat' split) <;> simp

@[simp] theorem visitPanels_frame (image : List (List Cell)) (l : List PanelId) (l1 : List PanelResult) (s : State) :
    (visitPanels image l l1 s).clock = s.clock ∧ (visitPanels image l l1 s).roster = s.roster
    ∧ (visitPanels image l l1 s).desk = s.desk ∧ (visitPanels image l l1 s).debounce = s.debounce
    ∧ (visitPanels image l l1 s).cues = s.cues ∧ (visitPanels image l l1 s).engine = s.engine
    ∧ (visitPanels image l l1 s).stack = s.stack ∧ (visitPanels image l l1 s).scores = s.scores
    ∧ (visitPanels image l l1 s).silence = s.silence ∧ (visitPanels image l l1 s).link = s.link
    ∧ (visitPanels image l l1 s).cause = s.cause ∧ (visitPanels image l l1 s).strap = s.strap
    ∧ (visitPanels image l l1 s).pending = s.pending := by
  induction l generalizing l1 s with
  | nil => simp [visitPanels]
  | cons x xs ih =>
    unfold visitPanels
    (repeat' split) <;> simp [*]

@[simp] theorem startPublish_frame (s : State) :
    (startPublish s).clock = s.clock ∧ (startPublish s).roster = s.roster
    ∧ (startPublish s).desk = s.desk ∧ (startPublish s).debounce = s.debounce
    ∧ (startPublish s).cues = s.cues ∧ (startPublish s).engine = s.engine
    ∧ (startPublish s).stack = s.stack ∧ (startPublish s).scores = s.scores
    ∧ (startPublish s).silence = s.silence ∧ (startPublish s).link = s.link
    ∧ (startPublish s).cause = s.cause ∧ (startPublish s).strap = s.strap
    ∧ (startPublish s).pending = s.pending := by
  unfold startPublish
  (try dsimp only)
  (repeat' split) <;> simp

@[simp] theorem takeRequest_frame (s : State) :
    (takeRequest s).clock = s.clock ∧ (takeRequest s).roster = s.roster
    ∧ (takeRequest s).desk = s.desk ∧ (takeRequest s).debounce = s.debounce
    ∧ (takeRequest s).cues = s.cues ∧ (takeRequest s).engine = s.engine
    ∧ (takeRequest s).stack = s.stack ∧ (takeRequest s).scores = s.scores
    ∧ (takeRequest s).silence = s.silence ∧ (takeRequest s).link = s.link
    ∧ (takeRequest s).cause = s.cause ∧ (takeRequest s).strap = s.strap
    ∧ (takeRequest s).pending = s.pending := by
  unfold takeRequest
  (try dsimp only)
  (repeat' split) <;> simp

@[simp] theorem updateAcknowledged_frame (image : List (List Cell)) (p : PanelId) (runs : List Run) (results : List PanelResult) (s : State) :
    (updateAcknowledged image p runs results s).clock = s.clock ∧ (updateAcknowledged image p runs results s).roster = s.roster
    ∧ (updateAcknowledged image p runs results s).desk = s.desk ∧ (updateAcknowledged image p runs results s).debounce = s.debounce
    ∧ (updateAcknowledged image p runs results s).cues = s.cues ∧ (updateAcknowledged image p runs results s).engine = s.engine
    ∧ (updateAcknowledged image p runs results s).stack = s.stack ∧ (updateAcknowledged image p runs results s).scores = s.scores
    ∧ (updateAcknowledged image p runs results s).silence = s.silence ∧ (updateAcknowledged image p runs results s).link = s.link
    ∧ (updateAcknowledged image p runs results s).cause = s.cause ∧ (updateAcknowledged image p runs results s).strap = s.strap
    ∧ (updateAcknowledged image p runs results s).pending = s.pending := by
  unfold updateAcknowledged
  (try dsimp only)
  (repeat' split) <;> simp

@[simp] theorem updateUnanswered_frame (image : List (List Cell)) (p : PanelId) (runs : List Run) (results : List PanelResult) (s : State) :
    (updateUnanswered image p runs results s).clock = s.clock ∧ (updateUnanswered image p runs results s).roster = s.roster
    ∧ (updateUnanswered image p runs results s).desk = s.desk ∧ (updateUnanswered image p runs results s).debounce = s.debounce
    ∧ (updateUnanswered image p runs results s).cues = s.cues ∧ (updateUnanswered image p runs results s).engine = s.engine
    ∧ (updateUnanswered image p runs results s).stack = s.stack ∧ (updateUnanswered image p runs results s).scores = s.scores
    ∧ (updateUnanswered image p runs results s).silence = s.silence ∧ (updateUnanswered image p runs results s).link = s.link
    ∧ (updateUnanswered image p runs results s).cause = s.cause ∧ (updateUnanswered image p runs results s).strap = s.strap
    ∧ (updateUnanswered image p runs results s).pending = s.pending := by
  unfold updateUnanswered
  (try dsimp only)
  (repeat' split) <;> simp

@[simp] theorem panelAnswers_frame (a : PanelAnswer) (s : State) :
    (panelAnswers a s).clock = s.clock ∧ (panelAnswers a s).roster = s.roster
    ∧ (panelAnswers a s).desk = s.desk ∧ (panelAnswers a s).debounce = s.debounce
    ∧ (panelAnswers a s).cues = s.cues ∧ (panelAnswers a s).engine = s.engine
    ∧ (panelAnswers a s).stack = s.stack ∧ (panelAnswers a s).scores = s.scores
    ∧ (panelAnswers a s).silence = s.silence ∧ (panelAnswers a s).link = s.link
    ∧ (panelAnswers a s).cause = s.cause ∧ (panelAnswers a s).strap = s.strap
    ∧ (panelAnswers a s).pending = s.pending := by
  unfold panelAnswers
  (try dsimp only)
  (repeat' split) <;> simp

@[simp] theorem panelSilent_frame (s : State) :
    (panelSilent s).clock = s.clock ∧ (panelSilent s).roster = s.roster
    ∧ (panelSilent s).desk = s.desk ∧ (panelSilent s).debounce = s.debounce
    ∧ (panelSilent s).cues = s.cues ∧ (panelSilent s).engine = s.engine
    ∧ (panelSilent s).stack = s.stack ∧ (panelSilent s).scores = s.scores
    ∧ (panelSilent s).silence = s.silence ∧ (panelSilent s).link = s.link
    ∧ (panelSilent s).cause = s.cause ∧ (panelSilent s).strap = s.strap
    ∧ (panelSilent s).pending = s.pending := by
  unfold panelSilent
  (try dsimp only)
  (repeat' split) <;> simp

@[simp] theorem scanNext_frame (p : PanelId) (s : State) :
    (scanNext p s).clock = s.clock ∧ (scanNext p s).roster = s.roster
    ∧ (scanNext p s).desk = s.desk ∧ (scanNext p s).debounce = s.debounce
    ∧ (scanNext p s).cues = s.cues ∧ (scanNext p s).engine = s.engine
    ∧ (scanNext p s).stack = s.stack ∧ (scanNext p s).scores = s.scores
    ∧ (scanNext p s).silence = s.silence ∧ (scanNext p s).link = s.link
    ∧ (scanNext p s).cause = s.cause ∧ (scanNext p s).strap = s.strap
    ∧ (scanNext p s).pending = s.pending := by
  unfold scanNext
  (try dsimp only)
  (repeat' split) <;> simp

@[simp] theorem identifyDone_frame (p : PanelId) (cells : Option Nat) (s : State) :
    (identifyDone p cells s).clock = s.clock ∧ (identifyDone p cells s).roster = s.roster
    ∧ (identifyDone p cells s).desk = s.desk ∧ (identifyDone p cells s).debounce = s.debounce
    ∧ (identifyDone p cells s).cues = s.cues ∧ (identifyDone p cells s).engine = s.engine
    ∧ (identifyDone p cells s).stack = s.stack ∧ (identifyDone p cells s).scores = s.scores
    ∧ (identifyDone p cells s).silence = s.silence ∧ (identifyDone p cells s).link = s.link
    ∧ (identifyDone p cells s).cause = s.cause ∧ (identifyDone p cells s).strap = s.strap
    ∧ (identifyDone p cells s).pending = s.pending := by
  unfold identifyDone
  (try dsimp only)
  (repeat' split) <;> simp

@[simp] theorem identifyAnswers_frame (a : IdentifyReply) (s : State) :
    (identifyAnswers a s).clock = s.clock ∧ (identifyAnswers a s).roster = s.roster
    ∧ (identifyAnswers a s).desk = s.desk ∧ (identifyAnswers a s).debounce = s.debounce
    ∧ (identifyAnswers a s).cues = s.cues ∧ (identifyAnswers a s).engine = s.engine
    ∧ (identifyAnswers a s).stack = s.stack ∧ (identifyAnswers a s).scores = s.scores
    ∧ (identifyAnswers a s).silence = s.silence ∧ (identifyAnswers a s).link = s.link
    ∧ (identifyAnswers a s).cause = s.cause ∧ (identifyAnswers a s).strap = s.strap
    ∧ (identifyAnswers a s).pending = s.pending := by
  unfold identifyAnswers
  (try dsimp only)
  (repeat' split) <;> simp

@[simp] theorem identifySilent_frame (s : State) :
    (identifySilent s).clock = s.clock ∧ (identifySilent s).roster = s.roster
    ∧ (identifySilent s).desk = s.desk ∧ (identifySilent s).debounce = s.debounce
    ∧ (identifySilent s).cues = s.cues ∧ (identifySilent s).engine = s.engine
    ∧ (identifySilent s).stack = s.stack ∧ (identifySilent s).scores = s.scores
    ∧ (identifySilent s).silence = s.silence ∧ (identifySilent s).link = s.link
    ∧ (identifySilent s).cause = s.cause ∧ (identifySilent s).strap = s.strap
    ∧ (identifySilent s).pending = s.pending := by
  unfold identifySilent
  (try dsimp only)
  (repeat' split) <;> simp

@[simp] theorem countdownSecond_frame (s : State) :
    (countdownSecond s).clock = s.clock ∧ (countdownSecond s).roster = s.roster
    ∧ (countdownSecond s).desk = s.desk ∧ (countdownSecond s).debounce = s.debounce
    ∧ (countdownSecond s).cues = s.cues ∧ (countdownSecond s).engine = s.engine
    ∧ (countdownSecond s).stack = s.stack ∧ (countdownSecond s).scores = s.scores
    ∧ (countdownSecond s).silence = s.silence ∧ (countdownSecond s).notices = s.notices
    ∧ (countdownSecond s).link = s.link ∧ (countdownSecond s).cause = s.cause
    ∧ (countdownSecond s).strap = s.strap ∧ (countdownSecond s).pending = s.pending := by
  unfold countdownSecond
  (try dsimp only)
  (repeat' split) <;> simp

end Sys2Proof.Machine
end

