-- ==== Sys2Proof/Laws/Tables.lean ====
section
/-! SUPPORT. Reading the tables after a change: one lemma per operation over a vector. -/

namespace Sys2Proof.Machine

theorem look_getElem {α : Type} {n : Nat} (v : Vector α n) (i : Fin n) : look v i = v[i.val] := rfl

@[simp] theorem look_put {α : Type} {n : Nat} (v : Vector α n) (i j : Fin n) (a : α) :
    look (put v i a) j = if i = j then a else look v j := by
  simp only [look_getElem, put, Vector.getElem_set, Fin.ext_iff]

theorem look_put_same {α : Type} {n : Nat} (v : Vector α n) (i : Fin n) (a : α) :
    look (put v i a) i = a := by simp

theorem look_put_other {α : Type} {n : Nat} (v : Vector α n) {i j : Fin n} (a : α) (h : i ≠ j) :
    look (put v i a) j = look v j := by simp [h]

@[simp] theorem look_mapTable {α β : Type} {n : Nat} (f : α → β) (v : Vector α n) (i : Fin n) :
    look (mapTable f v) i = f (look v i) := by
  simp [look_getElem, mapTable]

@[simp] theorem look_tabulate {α : Type} {n : Nat} (f : Fin n → α) (i : Fin n) :
    look (tabulate f) i = f i := by
  simp [look_getElem, tabulate]

@[simp] theorem look_replicate {α : Type} {n : Nat} (a : α) (i : Fin n) :
    look (Vector.replicate n a) i = a := by
  simp [look_getElem]

/-! ### Teams, pads, panels, routes, slots -/

@[simp] theorem team_setTeam (s : State) (t u : TeamId) (r : TeamRecord) :
    (s.setTeam t r).team u = if t = u then r else s.team u := by
  simp [State.team, State.setTeam]

@[simp] theorem pad_setTeam (s : State) (t : TeamId) (a : PadAddr) (r : TeamRecord) :
    (s.setTeam t r).pad a = s.pad a := rfl

@[simp] theorem pad_setPad (s : State) (a b : PadAddr) (r : PadRecord) :
    (s.setPad a r).pad b = if a = b then r else s.pad b := by
  simp [State.pad, State.setPad]

@[simp] theorem team_setPad (s : State) (a : PadAddr) (t : TeamId) (r : PadRecord) :
    (s.setPad a r).team t = s.team t := rfl

@[simp] theorem panel_setPanel (s : State) (p q : PanelId) (r : PanelRecord) :
    (s.setPanel p r).panel q = if p = q then r else s.panel q := by
  simp [State.panel, State.setPanel]

@[simp] theorem route_setRoute (s : State) (m n : RouteId) (r : Option Route) :
    (s.setRoute m r).route n = if m = n then r else s.route n := by
  simp [State.route, State.setRoute]

@[simp] theorem pad_layOut (m : Layout) (s : State) (a : PadAddr) :
    (layOut m s).pad a =
      { s.pad a with
          assignment := .byDefault
          candidate := if defaultPlace m a != s.placeOf a then none else (s.pad a).candidate } := by
  simp [State.pad, layOut]

@[simp] theorem cueSlot_eraseCues (covers : SlotId → Bool) (s : State) (x : SlotId) :
    (eraseCues covers s).cueSlot x = if covers x then .empty else s.cueSlot x := by
  simp [State.cueSlot, eraseCues]

@[simp] theorem cueSlot_placeCue (x y : SlotId) (c : Cue) (s : State) :
    (placeCue x c s).cueSlot y = if x = y then .loaded c else s.cueSlot y := by
  simp [State.cueSlot, placeCue]

end Sys2Proof.Machine
end

