-- ==== Sys2Proof/Laws/Arrival.lean ====
section
/-! SUPPORT. What the arrival of a frame comes to on a link port that executes it, and what the end of an event
does with its request for a publish. -/

namespace Sys2Proof.Machine

/-- An event that asked for no publish ends as it stands. -/
theorem takeRequest_quiet {s : State} (h : s.board.request = false) : takeRequest s = s := by
  simp [takeRequest, h]

/-- An event that asked for a publish has its request taken. -/
theorem takeRequest_asked {s : State} (h : s.board.request = true) :
    takeRequest s = publishAsked { s with board := { s.board with request := false } } := by
  simp only [takeRequest, h, if_true, publishAsked] <;> cases s.board.operation <;> rfl

/-- With no hold on, the silence monitor restarts its count and nothing else happens (R165). -/
theorem validFrame_watch {s : State} (h : s.holding = false) :
    validFrame s = { s with silence := s.silence.heard s.clock } := by
  unfold validFrame
  cases hs : s.silence with
  | disarmed => simp [SilenceMonitor.heard, ← hs]
  | watching => simp [SilenceMonitor.heard]
  | holding => simp [State.holding, hs] at h

/-- The state a command acts on: the assembler HUNTING and the silence monitor told. -/
def State.told (s : State) : State :=
  { s with silence := s.silence.heard s.clock, link := { s.link with assembler := .hunting } }

/-- The state with an entry at the back of the reply queue. -/
theorem enqueue_link (e : QueueEntry) (s : State) (l : LinkPort)
    (h : s.link = { l with assembler := .hunting }) : (enqueue e s).link = l.joined e := by
  simp [enqueue, h, LinkPort.joined]

/-- A frame or a rejection takes its effect at once where the queue has room and no item is held (R192). -/
theorem itemArrives_room (x : HeldItem) {s : State} (h1 : s.link.restarting = false)
    (h2 : s.link.held = none) (h3 : s.link.queue.length < 4) : itemArrives x s = takeItem x s := by
  have hr : s.link.queue.length < Config.maxReplies := h3
  unfold itemArrives
  rw [if_neg (by simp [h1]), if_neg (by simp [h2]), if_pos hr]

/-- A frame that arrives at a ready link port is executed, answered, and its publish request taken. -/
theorem frameArrives_ready (c : Command) {s : State} (h : s.ready) :
    frameArrives c s = .next (takeRequest
      (enqueue (.reply { kind := c.code, answer := (runCommand c s.told).2 }) (runCommand c s.told).1)) := by
  obtain ⟨h1, h2, h3, h4, _⟩ := h
  have hv : validFrame (hunt s) = s.told := by rw [validFrame_watch (s := hunt s) h4]; rfl
  unfold frameArrives finish frameCompletes
  rw [itemArrives_room _ (s := hunt s) h1 h2 h3]
  unfold takeItem executeFrame executeCommand
  simp only [hv]

/-- A change of nothing. -/
theorem unchangedBut_refl (l : List Block) (s : State) : unchangedBut l s s := by
  intro b _; cases b <;> rfl

/-- What leaves a list of blocks alone leaves a longer one alone. -/
theorem unchangedBut_mono {l m : List Block} {s t : State} (h : unchangedBut l s t) (hs : ∀ b ∈ l, b ∈ m) :
    unchangedBut m s t := fun b hb => h b fun hl => hb (hs b hl)

/-- A command that asks for no publish and leaves the link port and the silence monitor alone completes. -/
theorem completes_quiet {i : Instr} (c : Command) {kind : Byte} {s u : State} {a : Answer}
    {touched : List Block} {effect : State → Prop} (hi : exec i s = frameArrives c s) (hk : c.code = kind)
    (hs : s.ready)
    (hrun : runCommand c s.told = (u, a)) (hlink : u.link = s.told.link)
    (hsil : u.silence = s.told.silence) (hreq : u.board.request = false)
    (hframe : unchangedBut (.link :: .silence :: touched) s u)
    (heff : effect (enqueue (.reply { kind := c.code, answer := a }) u)) :
    completes i s kind a touched effect := by
  subst hk
  refine ⟨enqueue (.reply { kind := c.code, answer := a }) u, ?_, ⟨?_, ?_⟩, ?_, heff⟩
  · rw [hi, frameArrives_ready c hs, hrun]
    simp only
    rw [takeRequest_quiet]
    simpa [enqueue] using hreq
  · exact enqueue_link _ _ _ hlink
  · exact hsil
  · intro b hb
    have := hframe b hb
    cases b <;> first | exact this | exact absurd (by simp) hb

/-! ### Requests for a publish at the end of an event -/

@[simp] theorem put_get (f : NoticeFlags) (k l : NoticeKind) (b : Bool) :
    (f.put k b).get l = if k = l then b else f.get l := by
  cases k <;> cases l <;> rfl

/-- The pending flag of a kind named is set. -/
theorem withPending_get (ks : List NoticeKind) (n : NoticeUnit) (k : NoticeKind) :
    (n.withPending ks).waiting.get k = (decide (k ∈ ks) || n.waiting.get k) := by
  induction ks generalizing n with
  | nil => simp [NoticeUnit.withPending]
  | cons x xs ih =>
    have := ih { n with waiting := n.waiting.put x true }
    simp only [NoticeUnit.withPending, List.foldl_cons] at this ⊢
    rw [this, put_get]
    by_cases h : x = k
    · subst h; simp
    · have h' : ¬ k = x := fun e => h e.symm
      simp [h, h']

/-- A pending flag that is set stays set while a publish visits the panels. -/
theorem visitPanels_get (image : List (List Cell)) (l : List PanelId) (results : List PanelResult) (s : State)
    (k : NoticeKind) (h : s.notices.waiting.get k = true) :
    (visitPanels image l results s).notices.waiting.get k = true := by
  induction l generalizing results s with
  | nil =>
    unfold visitPanels completeOperation
    dsimp only
    split <;> simp [requestPublish, setPending, put_get, h]
  | cons p ps ih =>
    unfold visitPanels
    split
    · exact ih _ _ h
    · split
      · exact ih _ _ h
      · simpa [State.setOperation] using h

/-- A pending flag that is set stays set while a publish is asked for. -/
theorem publishAsked_get (s : State) (k : NoticeKind) (h : s.notices.waiting.get k = true) :
    (publishAsked s).notices.waiting.get k = true := by
  unfold publishAsked
  cases s.board.operation with
  | idle => exact visitPanels_get _ _ _ _ _ h
  | publish => exact h
  | scan => exact h

/-- Asking for a publish touches the board unit and the notice unit alone. -/
theorem publishAsked_frame (s : State) (b : Board) (n : NoticeUnit) :
    { publishAsked s with board := b, notices := n } = { s with board := b, notices := n } := by
  unfold publishAsked
  cases s.board.operation <;> simp

/-- The mark of a request set and taken again. -/
theorem board_mark {b : Board} (h : b.request = false) :
    ({ ({ b with request := true } : Board) with request := false } : Board) = b := by
  cases b; cases h; rfl

/-- The end of an event that asked for its publish only through an automatic trigger: the publish is rendered from
the state the event leaves. -/
theorem ends_take {n : NoticeUnit} {s u : State} (hq : s.noRequest)
    (hb : u.board = if s.board.auto then { s.board with request := true } else s.board)
    (hn : u.notices = n) :
    takeRequest u = afterTrigger s.board.auto { takeRequest u with board := s.board, notices := n } := by
  have hq' : s.board.request = false := hq
  cases ha : s.board.auto with
  | false =>
    simp only [ha] at hb
    have hb' : u.board = s.board := hb
    have hu : takeRequest u = u := takeRequest_quiet (by rw [hb', hq'])
    rw [hu, afterTrigger, if_neg (by simp), ← hn, ← hb']
  | true =>
    rw [if_pos ha] at hb
    have hu := takeRequest_asked (s := u) (by rw [hb])
    have hub : { u with board := { u.board with request := false } } =
        { u with board := s.board, notices := n } := by
      rw [hb, ← hn, board_mark hq']
    rw [hub] at hu
    rw [hu, afterTrigger, if_pos rfl, publishAsked_frame]

/-- A pending flag that is set stays set at the end of an event. -/
theorem takeRequest_get (u : State) (k : NoticeKind) (h : u.notices.waiting.get k = true) :
    (takeRequest u).notices.waiting.get k = true := by
  cases hr : u.board.request with
  | false => rw [takeRequest_quiet hr]; exact h
  | true => rw [takeRequest_asked hr]; exact publishAsked_get _ _ h

/-- The end of an event that sets pending flags and asks for its publish only through an automatic trigger. -/
theorem signals_take {ks : List NoticeKind} {s u : State} (hq : s.noRequest)
    (hb : u.board = if s.board.auto then { s.board with request := true } else s.board)
    (hn : u.notices = s.notices.withPending ks) : signals ks s (takeRequest u) := by
  refine ⟨fun k hk => takeRequest_get u k ?_, ends_take hq hb hn⟩
  rw [hn, withPending_get]
  simp [hk]

/-- Taking a request touches the board unit and the notice unit alone. -/
theorem takeRequest_same (u : State) (b : Block) (h1 : b ≠ .board) (h2 : b ≠ .notices) :
    b.same u (takeRequest u) := by
  cases b <;> first | exact absurd rfl h1 | exact absurd rfl h2 | simp [Block.same]

/-- A command that answers and changes nothing completes. -/
theorem completes_same {i : Instr} (c : Command) {kind : Byte} {s : State} {a : Answer}
    (hi : exec i s = frameArrives c s) (hk : c.code = kind) (hs : s.ready)
    (hrun : runCommand c s.told = (s.told, a)) : completes i s kind a [] fun _ => True := by
  refine completes_quiet c hi hk hs hrun rfl rfl hs.2.2.2.2 ?_ trivial
  intro b hb
  cases b <;> first | rfl | exact absurd (by simp) hb

/-- A command that asks for its publish through an automatic trigger completes. -/
theorem completes_signalling {i : Instr} (c : Command) {kind : Byte} {s u : State} {a : Answer}
    {touched : List Block} {ks : List NoticeKind} {effect : State → Prop}
    (hi : exec i s = frameArrives c s) (hk : c.code = kind) (hs : s.ready)
    (hrun : runCommand c s.told = (u, a)) (hlink : u.link = s.told.link)
    (hsil : u.silence = s.told.silence)
    (hb : u.board = if s.board.auto then { s.board with request := true } else s.board)
    (hn : u.notices = s.notices.withPending ks)
    (hframe : unchangedBut (.link :: .silence :: .board :: .notices :: touched) s u)
    (heff : ∀ t, signals ks s t → unchangedBut [.link, .board, .notices] u t → effect t) :
    completes i s kind a (.board :: .notices :: touched) effect := by
  subst hk
  let v := enqueue (.reply { kind := c.code, answer := a }) u
  refine ⟨takeRequest v, ?_, ⟨?_, ?_⟩, ?_, ?_⟩
  · rw [hi, frameArrives_ready c hs, hrun]
  · have : (takeRequest v).link = v.link := by simp
    rw [this]; exact enqueue_link _ _ _ hlink
  · have : (takeRequest v).silence = v.silence := by simp
    rw [this]; exact hsil
  · intro b hb
    by_cases hl : b = .link
    · exact absurd (by simp [hl]) hb
    by_cases h1 : b = .board
    · exact absurd (by simp [h1]) hb
    by_cases h2 : b = .notices
    · exact absurd (by simp [h2]) hb
    have h3 := hframe b hb
    have h4 := takeRequest_same v b h1 h2
    cases b <;> first | exact absurd rfl hl | exact h4.trans h3
  · refine heff _ (signals_take hs.2.2.2.2 hb hn) ?_
    intro b hb
    have h1 : b ≠ .board := fun e => hb (by simp [e])
    have h2 : b ≠ .notices := fun e => hb (by simp [e])
    have h4 := takeRequest_same v b h1 h2
    cases b <;> first | exact h4 | exact absurd (by simp) hb

/-- An event that asks for no publish. -/
theorem happens_quiet {i : Instr} {s u : State} {touched : List Block} {effect : State → Prop}
    (hi : exec i s = finish u) (hreq : u.board.request = false) (hframe : unchangedBut touched s u)
    (heff : effect u) : happens i s touched effect :=
  ⟨u, by rw [hi, finish, takeRequest_quiet hreq], hframe, heff⟩

/-- An event that asks for its publish through an automatic trigger. -/
theorem happens_signalling {i : Instr} {s u : State} {touched : List Block} {ks : List NoticeKind}
    {effect : State → Prop} (hi : exec i s = finish u) (hq : s.noRequest)
    (hb : u.board = if s.board.auto then { s.board with request := true } else s.board)
    (hn : u.notices = s.notices.withPending ks)
    (hframe : unchangedBut (.board :: .notices :: touched) s u)
    (heff : ∀ t, signals ks s t → unchangedBut [.board, .notices] u t → effect t) :
    happens i s (.board :: .notices :: touched) effect := by
  refine ⟨takeRequest u, by rw [hi, finish], ?_, heff _ (signals_take hq hb hn) ?_⟩
  · intro b hb
    have h1 : b ≠ .board := fun e => hb (by simp [e])
    have h2 : b ≠ .notices := fun e => hb (by simp [e])
    have h3 := hframe b hb
    have h4 := takeRequest_same u b h1 h2
    cases b <;> exact h4.trans h3
  · intro b hb
    exact takeRequest_same u b (fun e => hb (by simp [e])) (fun e => hb (by simp [e]))

end Sys2Proof.Machine
end

