-- ==== Sys2Proof/Laws/Commands.lean ====
section
/-! SUPPORT. What each command leaves as it was, whatever it carries. -/

namespace Sys2Proof.Machine

@[simp] theorem teamSet_frame (args : TeamSetArgs) (s : State) :
    (teamSet args s).1.clock = s.clock ∧ (teamSet args s).1.debounce = s.debounce
    ∧ (teamSet args s).1.cues = s.cues ∧ (teamSet args s).1.stack = s.stack
    ∧ (teamSet args s).1.scores = s.scores ∧ (teamSet args s).1.silence = s.silence
    ∧ (teamSet args s).1.link = s.link ∧ (teamSet args s).1.cause = s.cause
    ∧ (teamSet args s).1.strap = s.strap ∧ (teamSet args s).1.pending = s.pending := by
  unfold teamSet
  (try dsimp only)
  (repeat' split) <;> simp

@[simp] theorem padAssign_frame (args : PadAssignArgs) (s : State) :
    (padAssign args s).1.clock = s.clock ∧ (padAssign args s).1.desk = s.desk
    ∧ (padAssign args s).1.debounce = s.debounce ∧ (padAssign args s).1.cues = s.cues
    ∧ (padAssign args s).1.engine = s.engine ∧ (padAssign args s).1.stack = s.stack
    ∧ (padAssign args s).1.scores = s.scores ∧ (padAssign args s).1.silence = s.silence
    ∧ (padAssign args s).1.board = s.board ∧ (padAssign args s).1.notices = s.notices
    ∧ (padAssign args s).1.link = s.link ∧ (padAssign args s).1.cause = s.cause
    ∧ (padAssign args s).1.strap = s.strap ∧ (padAssign args s).1.pending = s.pending := by
  unfold padAssign
  simp only [assignToPlace]
  (repeat' split) <;> simp

@[simp] theorem layoutSet_frame (b : Byte) (s : State) :
    (layoutSet b s).1.clock = s.clock ∧ (layoutSet b s).1.desk = s.desk
    ∧ (layoutSet b s).1.debounce = s.debounce ∧ (layoutSet b s).1.cues = s.cues
    ∧ (layoutSet b s).1.engine = s.engine ∧ (layoutSet b s).1.stack = s.stack
    ∧ (layoutSet b s).1.scores = s.scores ∧ (layoutSet b s).1.silence = s.silence
    ∧ (layoutSet b s).1.board = s.board ∧ (layoutSet b s).1.notices = s.notices
    ∧ (layoutSet b s).1.link = s.link ∧ (layoutSet b s).1.cause = s.cause
    ∧ (layoutSet b s).1.strap = s.strap ∧ (layoutSet b s).1.pending = s.pending := by
  unfold layoutSet
  (try dsimp only)
  (repeat' split) <;> simp

@[simp] theorem padForget_frame (b : Byte) (s : State) :
    (padForget b s).1.clock = s.clock ∧ (padForget b s).1.desk = s.desk
    ∧ (padForget b s).1.debounce = s.debounce ∧ (padForget b s).1.cues = s.cues
    ∧ (padForget b s).1.engine = s.engine ∧ (padForget b s).1.stack = s.stack
    ∧ (padForget b s).1.scores = s.scores ∧ (padForget b s).1.silence = s.silence
    ∧ (padForget b s).1.board = s.board ∧ (padForget b s).1.notices = s.notices
    ∧ (padForget b s).1.link = s.link ∧ (padForget b s).1.cause = s.cause
    ∧ (padForget b s).1.strap = s.strap ∧ (padForget b s).1.pending = s.pending := by
  unfold padForget
  (try dsimp only)
  (repeat' split) <;> simp

@[simp] theorem queryTeam_frame (b : Byte) (s : State) :
    (queryTeam b s).1 = s := by
  unfold queryTeam
  (try dsimp only)
  (repeat' split) <;> simp

@[simp] theorem queryPad_frame (b : Byte) (s : State) :
    (queryPad b s).1 = s := by
  unfold queryPad
  (try dsimp only)
  (repeat' split) <;> simp

@[simp] theorem deskSpeed_frame (b : Byte) (s : State) :
    (deskSpeed b s).1.clock = s.clock ∧ (deskSpeed b s).1.roster = s.roster
    ∧ (deskSpeed b s).1.debounce = s.debounce ∧ (deskSpeed b s).1.cues = s.cues
    ∧ (deskSpeed b s).1.engine = s.engine ∧ (deskSpeed b s).1.stack = s.stack
    ∧ (deskSpeed b s).1.scores = s.scores ∧ (deskSpeed b s).1.silence = s.silence
    ∧ (deskSpeed b s).1.board = s.board ∧ (deskSpeed b s).1.notices = s.notices
    ∧ (deskSpeed b s).1.link = s.link ∧ (deskSpeed b s).1.cause = s.cause
    ∧ (deskSpeed b s).1.strap = s.strap ∧ (deskSpeed b s).1.pending = s.pending := by
  unfold deskSpeed
  (try dsimp only)
  (repeat' split) <;> simp

@[simp] theorem lampSet_frame (args : LampSetArgs) (s : State) :
    (lampSet args s).1.clock = s.clock ∧ (lampSet args s).1.desk = s.desk
    ∧ (lampSet args s).1.debounce = s.debounce ∧ (lampSet args s).1.cues = s.cues
    ∧ (lampSet args s).1.engine = s.engine ∧ (lampSet args s).1.stack = s.stack
    ∧ (lampSet args s).1.scores = s.scores ∧ (lampSet args s).1.silence = s.silence
    ∧ (lampSet args s).1.board = s.board ∧ (lampSet args s).1.notices = s.notices
    ∧ (lampSet args s).1.link = s.link ∧ (lampSet args s).1.cause = s.cause
    ∧ (lampSet args s).1.strap = s.strap ∧ (lampSet args s).1.pending = s.pending := by
  unfold lampSet
  (try dsimp only)
  (repeat' split) <;> simp

@[simp] theorem queryDesk_frame (a : NoArgs) (s : State) :
    (queryDesk a s).1 = s := by
  unfold queryDesk
  rfl

@[simp] theorem captureSet_frame (b : Byte) (s : State) :
    (captureSet b s).1.clock = s.clock ∧ (captureSet b s).1.roster = s.roster
    ∧ (captureSet b s).1.desk = s.desk ∧ (captureSet b s).1.cues = s.cues
    ∧ (captureSet b s).1.engine = s.engine ∧ (captureSet b s).1.stack = s.stack
    ∧ (captureSet b s).1.scores = s.scores ∧ (captureSet b s).1.silence = s.silence
    ∧ (captureSet b s).1.board = s.board ∧ (captureSet b s).1.notices = s.notices
    ∧ (captureSet b s).1.link = s.link ∧ (captureSet b s).1.cause = s.cause
    ∧ (captureSet b s).1.strap = s.strap ∧ (captureSet b s).1.pending = s.pending := by
  unfold captureSet
  (try dsimp only)
  (repeat' split) <;> simp

@[simp] theorem queryClock_frame (a : NoArgs) (s : State) :
    (queryClock a s).1 = s := by
  unfold queryClock
  rfl

@[simp] theorem cueLoad_frame (p : Payload CueLoadArgs) (s : State) :
    (cueLoad p s).1.clock = s.clock ∧ (cueLoad p s).1.roster = s.roster
    ∧ (cueLoad p s).1.desk = s.desk ∧ (cueLoad p s).1.debounce = s.debounce
    ∧ (cueLoad p s).1.engine = s.engine ∧ (cueLoad p s).1.stack = s.stack
    ∧ (cueLoad p s).1.scores = s.scores ∧ (cueLoad p s).1.silence = s.silence
    ∧ (cueLoad p s).1.board = s.board ∧ (cueLoad p s).1.notices = s.notices
    ∧ (cueLoad p s).1.link = s.link ∧ (cueLoad p s).1.cause = s.cause
    ∧ (cueLoad p s).1.strap = s.strap ∧ (cueLoad p s).1.pending = s.pending := by
  unfold cueLoad
  (try dsimp only)
  (repeat' split) <;> simp

@[simp] theorem cueErase_frame (t : EraseTarget) (s : State) :
    (cueErase t s).1.clock = s.clock ∧ (cueErase t s).1.roster = s.roster
    ∧ (cueErase t s).1.desk = s.desk ∧ (cueErase t s).1.debounce = s.debounce
    ∧ (cueErase t s).1.engine = s.engine ∧ (cueErase t s).1.stack = s.stack
    ∧ (cueErase t s).1.scores = s.scores ∧ (cueErase t s).1.silence = s.silence
    ∧ (cueErase t s).1.board = s.board ∧ (cueErase t s).1.notices = s.notices
    ∧ (cueErase t s).1.link = s.link ∧ (cueErase t s).1.cause = s.cause
    ∧ (cueErase t s).1.strap = s.strap ∧ (cueErase t s).1.pending = s.pending := by
  unfold cueErase
  (try dsimp only)
  (repeat' split) <;> simp

@[simp] theorem cuePoint_frame (b : Byte) (s : State) :
    (cuePoint b s).1.clock = s.clock ∧ (cuePoint b s).1.roster = s.roster
    ∧ (cuePoint b s).1.desk = s.desk ∧ (cuePoint b s).1.debounce = s.debounce
    ∧ (cuePoint b s).1.engine = s.engine ∧ (cuePoint b s).1.stack = s.stack
    ∧ (cuePoint b s).1.scores = s.scores ∧ (cuePoint b s).1.silence = s.silence
    ∧ (cuePoint b s).1.board = s.board ∧ (cuePoint b s).1.notices = s.notices
    ∧ (cuePoint b s).1.link = s.link ∧ (cuePoint b s).1.cause = s.cause
    ∧ (cuePoint b s).1.strap = s.strap ∧ (cuePoint b s).1.pending = s.pending := by
  unfold cuePoint
  (try dsimp only)
  (repeat' split) <;> simp

@[simp] theorem queryCue_frame (q : CueQuery) (s : State) :
    (queryCue q s).1 = s := by
  unfold queryCue
  (try dsimp only)
  (repeat' split) <;> simp

@[simp] theorem roundArm_frame (o : Option Byte) (s : State) :
    (roundArm o s).1.clock = s.clock ∧ (roundArm o s).1.roster = s.roster
    ∧ (roundArm o s).1.debounce = s.debounce ∧ (roundArm o s).1.scores = s.scores
    ∧ (roundArm o s).1.silence = s.silence ∧ (roundArm o s).1.link = s.link
    ∧ (roundArm o s).1.cause = s.cause ∧ (roundArm o s).1.strap = s.strap
    ∧ (roundArm o s).1.pending = s.pending := by
  unfold roundArm
  simp only [armCue, armOrdinary, armInterjection]
  (repeat' split) <;> simp

@[simp] theorem roundOpen_frame (a : NoArgs) (s : State) :
    (roundOpen a s).1.clock = s.clock ∧ (roundOpen a s).1.roster = s.roster
    ∧ (roundOpen a s).1.debounce = s.debounce ∧ (roundOpen a s).1.cues = s.cues
    ∧ (roundOpen a s).1.stack = s.stack ∧ (roundOpen a s).1.scores = s.scores
    ∧ (roundOpen a s).1.silence = s.silence ∧ (roundOpen a s).1.link = s.link
    ∧ (roundOpen a s).1.cause = s.cause ∧ (roundOpen a s).1.strap = s.strap
    ∧ (roundOpen a s).1.pending = s.pending := by
  unfold roundOpen
  (try dsimp only)
  (repeat' split) <;> simp

@[simp] theorem callTime_frame (a : NoArgs) (s : State) :
    (callTime a s).1.clock = s.clock ∧ (callTime a s).1.debounce = s.debounce
    ∧ (callTime a s).1.cues = s.cues ∧ (callTime a s).1.stack = s.stack
    ∧ (callTime a s).1.silence = s.silence ∧ (callTime a s).1.link = s.link
    ∧ (callTime a s).1.cause = s.cause ∧ (callTime a s).1.strap = s.strap
    ∧ (callTime a s).1.pending = s.pending := by
  unfold callTime
  (try dsimp only)
  (repeat' split) <;> simp

@[simp] theorem roundAbort_frame (a : NoArgs) (s : State) :
    (roundAbort a s).1.clock = s.clock ∧ (roundAbort a s).1.roster = s.roster
    ∧ (roundAbort a s).1.debounce = s.debounce ∧ (roundAbort a s).1.cues = s.cues
    ∧ (roundAbort a s).1.stack = s.stack ∧ (roundAbort a s).1.scores = s.scores
    ∧ (roundAbort a s).1.silence = s.silence ∧ (roundAbort a s).1.link = s.link
    ∧ (roundAbort a s).1.cause = s.cause ∧ (roundAbort a s).1.strap = s.strap
    ∧ (roundAbort a s).1.pending = s.pending := by
  unfold roundAbort
  (try dsimp only)
  (repeat' split) <;> simp

@[simp] theorem roundClear_frame (a : NoArgs) (s : State) :
    (roundClear a s).1.clock = s.clock ∧ (roundClear a s).1.roster = s.roster
    ∧ (roundClear a s).1.debounce = s.debounce ∧ (roundClear a s).1.cues = s.cues
    ∧ (roundClear a s).1.stack = s.stack ∧ (roundClear a s).1.scores = s.scores
    ∧ (roundClear a s).1.silence = s.silence ∧ (roundClear a s).1.link = s.link
    ∧ (roundClear a s).1.cause = s.cause ∧ (roundClear a s).1.strap = s.strap
    ∧ (roundClear a s).1.pending = s.pending := by
  unfold roundClear
  (try dsimp only)
  (repeat' split) <;> simp

@[simp] theorem queryRound_frame (a : NoArgs) (s : State) :
    (queryRound a s).1 = s := by
  unfold queryRound
  (try dsimp only)
  (repeat' split) <;> simp

@[simp] theorem judge_frame (p : Payload JudgeArgs) (s : State) :
    (judge p s).1.clock = s.clock ∧ (judge p s).1.debounce = s.debounce ∧ (judge p s).1.cues = s.cues
    ∧ (judge p s).1.stack = s.stack ∧ (judge p s).1.silence = s.silence ∧ (judge p s).1.link = s.link
    ∧ (judge p s).1.cause = s.cause ∧ (judge p s).1.strap = s.strap
    ∧ (judge p s).1.pending = s.pending := by
  unfold judge
  simp only [judgeTeam, refuseJudge]
  (repeat' split) <;> simp

@[simp] theorem claimDrop_frame (b : Byte) (s : State) :
    (claimDrop b s).1.clock = s.clock ∧ (claimDrop b s).1.roster = s.roster
    ∧ (claimDrop b s).1.debounce = s.debounce ∧ (claimDrop b s).1.cues = s.cues
    ∧ (claimDrop b s).1.stack = s.stack ∧ (claimDrop b s).1.scores = s.scores
    ∧ (claimDrop b s).1.silence = s.silence ∧ (claimDrop b s).1.link = s.link
    ∧ (claimDrop b s).1.cause = s.cause ∧ (claimDrop b s).1.strap = s.strap
    ∧ (claimDrop b s).1.pending = s.pending := by
  unfold claimDrop
  (try dsimp only)
  (repeat' split) <;> simp

@[simp] theorem queryQueue_frame (a : NoArgs) (s : State) :
    (queryQueue a s).1 = s := by
  unfold queryQueue
  (try dsimp only)
  (repeat' split) <;> simp

@[simp] theorem reveal_frame (o : Option Byte) (s : State) :
    (reveal o s).1.clock = s.clock ∧ (reveal o s).1.debounce = s.debounce
    ∧ (reveal o s).1.cues = s.cues ∧ (reveal o s).1.stack = s.stack
    ∧ (reveal o s).1.silence = s.silence ∧ (reveal o s).1.link = s.link
    ∧ (reveal o s).1.cause = s.cause ∧ (reveal o s).1.strap = s.strap
    ∧ (reveal o s).1.pending = s.pending := by
  unfold reveal
  simp only [revealWith, acceptReveal]
  (repeat' split) <;> simp

@[simp] theorem queryBallot_frame (a : NoArgs) (s : State) :
    (queryBallot a s).1 = s := by
  unfold queryBallot
  (try dsimp only)
  (repeat' split) <;> simp

@[simp] theorem scoreAdjust_frame (args : ScoreAdjustArgs) (s : State) :
    (scoreAdjust args s).1.clock = s.clock ∧ (scoreAdjust args s).1.desk = s.desk
    ∧ (scoreAdjust args s).1.debounce = s.debounce ∧ (scoreAdjust args s).1.cues = s.cues
    ∧ (scoreAdjust args s).1.engine = s.engine ∧ (scoreAdjust args s).1.stack = s.stack
    ∧ (scoreAdjust args s).1.silence = s.silence ∧ (scoreAdjust args s).1.link = s.link
    ∧ (scoreAdjust args s).1.cause = s.cause ∧ (scoreAdjust args s).1.strap = s.strap
    ∧ (scoreAdjust args s).1.pending = s.pending := by
  unfold scoreAdjust
  (try dsimp only)
  (repeat' split) <;> simp

@[simp] theorem scoreLock_frame (b : Byte) (s : State) :
    (scoreLock b s).1.clock = s.clock ∧ (scoreLock b s).1.roster = s.roster
    ∧ (scoreLock b s).1.desk = s.desk ∧ (scoreLock b s).1.debounce = s.debounce
    ∧ (scoreLock b s).1.cues = s.cues ∧ (scoreLock b s).1.engine = s.engine
    ∧ (scoreLock b s).1.stack = s.stack ∧ (scoreLock b s).1.silence = s.silence
    ∧ (scoreLock b s).1.notices = s.notices ∧ (scoreLock b s).1.link = s.link
    ∧ (scoreLock b s).1.cause = s.cause ∧ (scoreLock b s).1.strap = s.strap
    ∧ (scoreLock b s).1.pending = s.pending := by
  unfold scoreLock
  (try dsimp only)
  (repeat' split) <;> simp

@[simp] theorem scoreUnlock_frame (a : NoArgs) (s : State) :
    (scoreUnlock a s).1.clock = s.clock ∧ (scoreUnlock a s).1.desk = s.desk
    ∧ (scoreUnlock a s).1.debounce = s.debounce ∧ (scoreUnlock a s).1.cues = s.cues
    ∧ (scoreUnlock a s).1.engine = s.engine ∧ (scoreUnlock a s).1.stack = s.stack
    ∧ (scoreUnlock a s).1.silence = s.silence ∧ (scoreUnlock a s).1.link = s.link
    ∧ (scoreUnlock a s).1.cause = s.cause ∧ (scoreUnlock a s).1.strap = s.strap
    ∧ (scoreUnlock a s).1.pending = s.pending := by
  unfold scoreUnlock
  (try dsimp only)
  (repeat' split) <;> simp

@[simp] theorem queryAwards_frame (a : NoArgs) (s : State) :
    (queryAwards a s).1 = s := by
  unfold queryAwards
  rfl

@[simp] theorem roundSuspend_frame (a : NoArgs) (s : State) :
    (roundSuspend a s).1.clock = s.clock ∧ (roundSuspend a s).1.roster = s.roster
    ∧ (roundSuspend a s).1.debounce = s.debounce ∧ (roundSuspend a s).1.cues = s.cues
    ∧ (roundSuspend a s).1.scores = s.scores ∧ (roundSuspend a s).1.silence = s.silence
    ∧ (roundSuspend a s).1.link = s.link ∧ (roundSuspend a s).1.cause = s.cause
    ∧ (roundSuspend a s).1.strap = s.strap ∧ (roundSuspend a s).1.pending = s.pending := by
  unfold roundSuspend
  simp only [suspendContext]
  (repeat' split) <;> simp

@[simp] theorem roundResume_frame (a : NoArgs) (s : State) :
    (roundResume a s).1.clock = s.clock ∧ (roundResume a s).1.roster = s.roster
    ∧ (roundResume a s).1.debounce = s.debounce ∧ (roundResume a s).1.cues = s.cues
    ∧ (roundResume a s).1.scores = s.scores ∧ (roundResume a s).1.silence = s.silence
    ∧ (roundResume a s).1.link = s.link ∧ (roundResume a s).1.cause = s.cause
    ∧ (roundResume a s).1.strap = s.strap ∧ (roundResume a s).1.pending = s.pending := by
  unfold roundResume
  simp only [resumeContext]
  (repeat' split) <;> simp

@[simp] theorem silenceArm_frame (b : Byte) (s : State) :
    (silenceArm b s).1.clock = s.clock ∧ (silenceArm b s).1.roster = s.roster
    ∧ (silenceArm b s).1.desk = s.desk ∧ (silenceArm b s).1.debounce = s.debounce
    ∧ (silenceArm b s).1.cues = s.cues ∧ (silenceArm b s).1.engine = s.engine
    ∧ (silenceArm b s).1.stack = s.stack ∧ (silenceArm b s).1.scores = s.scores
    ∧ (silenceArm b s).1.board = s.board ∧ (silenceArm b s).1.notices = s.notices
    ∧ (silenceArm b s).1.link = s.link ∧ (silenceArm b s).1.cause = s.cause
    ∧ (silenceArm b s).1.strap = s.strap ∧ (silenceArm b s).1.pending = s.pending := by
  unfold silenceArm
  (try dsimp only)
  (repeat' split) <;> simp

@[simp] theorem queryStack_frame (a : NoArgs) (s : State) :
    (queryStack a s).1 = s := by
  unfold queryStack
  rfl

@[simp] theorem boardScan_frame (a : NoArgs) (s : State) :
    (boardScan a s).1.clock = s.clock ∧ (boardScan a s).1.roster = s.roster
    ∧ (boardScan a s).1.desk = s.desk ∧ (boardScan a s).1.debounce = s.debounce
    ∧ (boardScan a s).1.cues = s.cues ∧ (boardScan a s).1.engine = s.engine
    ∧ (boardScan a s).1.stack = s.stack ∧ (boardScan a s).1.scores = s.scores
    ∧ (boardScan a s).1.silence = s.silence ∧ (boardScan a s).1.notices = s.notices
    ∧ (boardScan a s).1.link = s.link ∧ (boardScan a s).1.cause = s.cause
    ∧ (boardScan a s).1.strap = s.strap ∧ (boardScan a s).1.pending = s.pending := by
  unfold boardScan
  (try dsimp only)
  (repeat' split) <;> simp

@[simp] theorem boardPublish_frame (a : NoArgs) (s : State) :
    (boardPublish a s).1.clock = s.clock ∧ (boardPublish a s).1.roster = s.roster
    ∧ (boardPublish a s).1.desk = s.desk ∧ (boardPublish a s).1.debounce = s.debounce
    ∧ (boardPublish a s).1.cues = s.cues ∧ (boardPublish a s).1.engine = s.engine
    ∧ (boardPublish a s).1.stack = s.stack ∧ (boardPublish a s).1.scores = s.scores
    ∧ (boardPublish a s).1.silence = s.silence ∧ (boardPublish a s).1.notices = s.notices
    ∧ (boardPublish a s).1.link = s.link ∧ (boardPublish a s).1.cause = s.cause
    ∧ (boardPublish a s).1.strap = s.strap ∧ (boardPublish a s).1.pending = s.pending := by
  unfold boardPublish
  (try dsimp only)
  (repeat' split) <;> simp

@[simp] theorem boardSet_frame (b : Bool) (s : State) :
    (boardSet b s).1.clock = s.clock ∧ (boardSet b s).1.roster = s.roster
    ∧ (boardSet b s).1.desk = s.desk ∧ (boardSet b s).1.debounce = s.debounce
    ∧ (boardSet b s).1.cues = s.cues ∧ (boardSet b s).1.engine = s.engine
    ∧ (boardSet b s).1.stack = s.stack ∧ (boardSet b s).1.scores = s.scores
    ∧ (boardSet b s).1.silence = s.silence ∧ (boardSet b s).1.notices = s.notices
    ∧ (boardSet b s).1.link = s.link ∧ (boardSet b s).1.cause = s.cause
    ∧ (boardSet b s).1.strap = s.strap ∧ (boardSet b s).1.pending = s.pending := by
  unfold boardSet
  (try dsimp only)
  (repeat' split) <;> simp

@[simp] theorem routeSet_frame (args : RouteSetArgs) (s : State) :
    (routeSet args s).1.clock = s.clock ∧ (routeSet args s).1.roster = s.roster
    ∧ (routeSet args s).1.desk = s.desk ∧ (routeSet args s).1.debounce = s.debounce
    ∧ (routeSet args s).1.cues = s.cues ∧ (routeSet args s).1.engine = s.engine
    ∧ (routeSet args s).1.stack = s.stack ∧ (routeSet args s).1.scores = s.scores
    ∧ (routeSet args s).1.silence = s.silence ∧ (routeSet args s).1.notices = s.notices
    ∧ (routeSet args s).1.link = s.link ∧ (routeSet args s).1.cause = s.cause
    ∧ (routeSet args s).1.strap = s.strap ∧ (routeSet args s).1.pending = s.pending := by
  unfold routeSet
  (try dsimp only)
  (repeat' split) <;> simp

@[simp] theorem routeClear_frame (t : RouteTarget) (s : State) :
    (routeClear t s).1.clock = s.clock ∧ (routeClear t s).1.roster = s.roster
    ∧ (routeClear t s).1.desk = s.desk ∧ (routeClear t s).1.debounce = s.debounce
    ∧ (routeClear t s).1.cues = s.cues ∧ (routeClear t s).1.engine = s.engine
    ∧ (routeClear t s).1.stack = s.stack ∧ (routeClear t s).1.scores = s.scores
    ∧ (routeClear t s).1.silence = s.silence ∧ (routeClear t s).1.notices = s.notices
    ∧ (routeClear t s).1.link = s.link ∧ (routeClear t s).1.cause = s.cause
    ∧ (routeClear t s).1.strap = s.strap ∧ (routeClear t s).1.pending = s.pending := by
  unfold routeClear
  (try dsimp only)
  (repeat' split) <;> simp

@[simp] theorem queryBoard_frame (o : Option Byte) (s : State) :
    (queryBoard o s).1 = s := by
  unfold queryBoard
  (try dsimp only)
  (repeat' split) <;> simp

@[simp] theorem identify_frame (a : NoArgs) (s : State) :
    (identify a s).1 = s := by
  unfold identify
  rfl

@[simp] theorem keepalive_frame (a : NoArgs) (s : State) :
    (keepalive a s).1 = s := by
  unfold keepalive
  rfl

@[simp] theorem restart_frame (a : NoArgs) (s : State) :
    (restart a s).1.clock = s.clock ∧ (restart a s).1.roster = s.roster
    ∧ (restart a s).1.desk = s.desk ∧ (restart a s).1.debounce = s.debounce
    ∧ (restart a s).1.cues = s.cues ∧ (restart a s).1.engine = s.engine
    ∧ (restart a s).1.stack = s.stack ∧ (restart a s).1.scores = s.scores
    ∧ (restart a s).1.silence = s.silence ∧ (restart a s).1.board = s.board
    ∧ (restart a s).1.notices = s.notices ∧ (restart a s).1.cause = s.cause
    ∧ (restart a s).1.strap = s.strap ∧ (restart a s).1.pending = s.pending := by
  unfold restart
  (try dsimp only)
  (repeat' split) <;> simp

@[simp] theorem noticeEnable_frame (args : NoticeEnableArgs) (s : State) :
    (noticeEnable args s).1.clock = s.clock ∧ (noticeEnable args s).1.roster = s.roster
    ∧ (noticeEnable args s).1.debounce = s.debounce ∧ (noticeEnable args s).1.engine = s.engine
    ∧ (noticeEnable args s).1.stack = s.stack ∧ (noticeEnable args s).1.silence = s.silence
    ∧ (noticeEnable args s).1.link = s.link ∧ (noticeEnable args s).1.cause = s.cause
    ∧ (noticeEnable args s).1.strap = s.strap ∧ (noticeEnable args s).1.pending = s.pending := by
  unfold noticeEnable
  (try dsimp only)
  (repeat' split) <;> simp

@[simp] theorem noticeClear_frame (t : NoticeTarget) (s : State) :
    (noticeClear t s).1.clock = s.clock ∧ (noticeClear t s).1.roster = s.roster
    ∧ (noticeClear t s).1.debounce = s.debounce ∧ (noticeClear t s).1.engine = s.engine
    ∧ (noticeClear t s).1.stack = s.stack ∧ (noticeClear t s).1.silence = s.silence
    ∧ (noticeClear t s).1.link = s.link ∧ (noticeClear t s).1.cause = s.cause
    ∧ (noticeClear t s).1.strap = s.strap ∧ (noticeClear t s).1.pending = s.pending := by
  unfold noticeClear
  (try dsimp only)
  (repeat' split) <;> simp

/-- A command touches neither the clock, the reset cause and strap, nor the queue of commands. -/
@[simp] theorem runCommand_frame (c : Command) (s : State) :
    (runCommand c s).1.clock = s.clock ∧ (runCommand c s).1.cause = s.cause
    ∧ (runCommand c s).1.strap = s.strap ∧ (runCommand c s).1.pending = s.pending := by
  cases c <;> rename_i p <;> first | (cases p <;> simp [runCommand, withArgs]; done) | simp [runCommand]

end Sys2Proof.Machine
end

