-- ==== Sys2Proof/Laws/Contexts.lean ====
section
/-! SUPPORT. The fields of a round context that each operation on contexts leaves as they were, and the fields it
sets. -/

namespace Sys2Proof.Machine

@[simp] theorem Context.startWindow_frame (now : ClockValue) (c : Context) :
    (c.startWindow now).cue = c.cue ∧ (c.startWindow now).source = c.source
    ∧ (c.startWindow now).phase = c.phase ∧ (c.startWindow now).held = c.held
    ∧ (c.startWindow now).eligible = c.eligible ∧ (c.startWindow now).lockout = c.lockout
    ∧ (c.startWindow now).queue = c.queue ∧ (c.startWindow now).overflow = c.overflow
    ∧ (c.startWindow now).ballot = c.ballot ∧ (c.startWindow now).roundRemaining = c.roundRemaining
    ∧ (c.startWindow now).openInstant = c.openInstant
    ∧ (c.startWindow now).answerDeadline = c.answerDeadline
    ∧ (c.startWindow now).answerRemainder = c.answerRemainder
    ∧ (c.startWindow now).flashInstant = c.flashInstant ∧ (c.startWindow now).holder = c.holder
    ∧ (c.startWindow now).closeInstant = c.closeInstant ∧ (c.startWindow now).ending = c.ending
    ∧ (c.startWindow now).flashing = c.flashing := by
  unfold Context.startWindow
  (try dsimp only)
  (repeat' split) <;> simp

@[simp] theorem Context.startUnlessHeld_frame (now : ClockValue) (c : Context) :
    (c.startUnlessHeld now).cue = c.cue ∧ (c.startUnlessHeld now).source = c.source
    ∧ (c.startUnlessHeld now).phase = c.phase ∧ (c.startUnlessHeld now).held = c.held
    ∧ (c.startUnlessHeld now).eligible = c.eligible ∧ (c.startUnlessHeld now).lockout = c.lockout
    ∧ (c.startUnlessHeld now).queue = c.queue ∧ (c.startUnlessHeld now).overflow = c.overflow
    ∧ (c.startUnlessHeld now).ballot = c.ballot
    ∧ (c.startUnlessHeld now).roundRemaining = c.roundRemaining
    ∧ (c.startUnlessHeld now).openInstant = c.openInstant
    ∧ (c.startUnlessHeld now).answerDeadline = c.answerDeadline
    ∧ (c.startUnlessHeld now).answerRemainder = c.answerRemainder
    ∧ (c.startUnlessHeld now).flashInstant = c.flashInstant ∧ (c.startUnlessHeld now).holder = c.holder
    ∧ (c.startUnlessHeld now).closeInstant = c.closeInstant ∧ (c.startUnlessHeld now).ending = c.ending
    ∧ (c.startUnlessHeld now).flashing = c.flashing := by
  unfold Context.startUnlessHeld
  (try dsimp only)
  (repeat' split) <;> simp

@[simp] theorem Context.pauseWindow_frame (now : ClockValue) (c : Context) :
    (c.pauseWindow now).cue = c.cue ∧ (c.pauseWindow now).source = c.source
    ∧ (c.pauseWindow now).phase = c.phase ∧ (c.pauseWindow now).held = c.held
    ∧ (c.pauseWindow now).eligible = c.eligible ∧ (c.pauseWindow now).lockout = c.lockout
    ∧ (c.pauseWindow now).queue = c.queue ∧ (c.pauseWindow now).overflow = c.overflow
    ∧ (c.pauseWindow now).ballot = c.ballot ∧ (c.pauseWindow now).openInstant = c.openInstant
    ∧ (c.pauseWindow now).answerDeadline = c.answerDeadline
    ∧ (c.pauseWindow now).answerRemainder = c.answerRemainder
    ∧ (c.pauseWindow now).flashInstant = c.flashInstant ∧ (c.pauseWindow now).holder = c.holder
    ∧ (c.pauseWindow now).closeInstant = c.closeInstant ∧ (c.pauseWindow now).ending = c.ending
    ∧ (c.pauseWindow now).flashing = c.flashing := by
  unfold Context.pauseWindow
  (try dsimp only)
  (repeat' split) <;> simp

@[simp] theorem Context.stopWindowAtZero_frame (c : Context) :
    (c.stopWindowAtZero).cue = c.cue ∧ (c.stopWindowAtZero).source = c.source
    ∧ (c.stopWindowAtZero).phase = c.phase ∧ (c.stopWindowAtZero).held = c.held
    ∧ (c.stopWindowAtZero).eligible = c.eligible ∧ (c.stopWindowAtZero).lockout = c.lockout
    ∧ (c.stopWindowAtZero).queue = c.queue ∧ (c.stopWindowAtZero).overflow = c.overflow
    ∧ (c.stopWindowAtZero).ballot = c.ballot ∧ (c.stopWindowAtZero).openInstant = c.openInstant
    ∧ (c.stopWindowAtZero).answerDeadline = c.answerDeadline
    ∧ (c.stopWindowAtZero).answerRemainder = c.answerRemainder
    ∧ (c.stopWindowAtZero).flashInstant = c.flashInstant ∧ (c.stopWindowAtZero).holder = c.holder
    ∧ (c.stopWindowAtZero).closeInstant = c.closeInstant ∧ (c.stopWindowAtZero).ending = c.ending
    ∧ (c.stopWindowAtZero).flashing = c.flashing := by
  unfold Context.stopWindowAtZero
  (try dsimp only)
  (repeat' split) <;> simp

@[simp] theorem Context.opened_frame (now : ClockValue) (c : Context) :
    (c.opened now).cue = c.cue ∧ (c.opened now).source = c.source ∧ (c.opened now).held = c.held
    ∧ (c.opened now).eligible = c.eligible ∧ (c.opened now).lockout = c.lockout
    ∧ (c.opened now).queue = c.queue ∧ (c.opened now).overflow = c.overflow
    ∧ (c.opened now).ballot = c.ballot ∧ (c.opened now).roundRemaining = c.roundRemaining
    ∧ (c.opened now).answerDeadline = c.answerDeadline
    ∧ (c.opened now).answerRemainder = c.answerRemainder ∧ (c.opened now).flashInstant = c.flashInstant
    ∧ (c.opened now).holder = c.holder ∧ (c.opened now).closeInstant = c.closeInstant
    ∧ (c.opened now).ending = c.ending ∧ (c.opened now).flashing = c.flashing := by
  unfold Context.opened
  (try dsimp only)
  (repeat' split) <;> simp

@[simp] theorem Context.talliedAtClose_frame (s : State) (c : Context) :
    (c.talliedAtClose s).cue = c.cue ∧ (c.talliedAtClose s).source = c.source
    ∧ (c.talliedAtClose s).phase = c.phase ∧ (c.talliedAtClose s).held = c.held
    ∧ (c.talliedAtClose s).eligible = c.eligible ∧ (c.talliedAtClose s).lockout = c.lockout
    ∧ (c.talliedAtClose s).queue = c.queue ∧ (c.talliedAtClose s).overflow = c.overflow
    ∧ (c.talliedAtClose s).roundRemaining = c.roundRemaining
    ∧ (c.talliedAtClose s).roundDeadline = c.roundDeadline
    ∧ (c.talliedAtClose s).openInstant = c.openInstant
    ∧ (c.talliedAtClose s).answerDeadline = c.answerDeadline
    ∧ (c.talliedAtClose s).answerRemainder = c.answerRemainder
    ∧ (c.talliedAtClose s).flashInstant = c.flashInstant ∧ (c.talliedAtClose s).holder = c.holder
    ∧ (c.talliedAtClose s).closeInstant = c.closeInstant ∧ (c.talliedAtClose s).ending = c.ending
    ∧ (c.talliedAtClose s).flashing = c.flashing := by
  unfold Context.talliedAtClose
  (try dsimp only)
  (repeat' split) <;> simp

@[simp] theorem Context.closed_frame (now : ClockValue) (e : Ending) (c : Context) :
    (c.closed now e).cue = c.cue ∧ (c.closed now e).source = c.source ∧ (c.closed now e).held = c.held
    ∧ (c.closed now e).eligible = c.eligible ∧ (c.closed now e).lockout = c.lockout
    ∧ (c.closed now e).queue = c.queue ∧ (c.closed now e).overflow = c.overflow
    ∧ (c.closed now e).ballot = c.ballot ∧ (c.closed now e).openInstant = c.openInstant
    ∧ (c.closed now e).closeInstant = c.closeInstant := by
  unfold Context.closed
  (try dsimp only)
  (repeat' split) <;> simp

@[simp] theorem Context.granted_frame (now : ClockValue) (head : Claim) (rest : List Claim) (c : Context) :
    (c.granted now head rest).cue = c.cue ∧ (c.granted now head rest).source = c.source
    ∧ (c.granted now head rest).held = c.held ∧ (c.granted now head rest).eligible = c.eligible
    ∧ (c.granted now head rest).lockout = c.lockout ∧ (c.granted now head rest).overflow = c.overflow
    ∧ (c.granted now head rest).ballot = c.ballot ∧ (c.granted now head rest).openInstant = c.openInstant
    ∧ (c.granted now head rest).answerRemainder = c.answerRemainder
    ∧ (c.granted now head rest).closeInstant = c.closeInstant
    ∧ (c.granted now head rest).ending = c.ending := by
  unfold Context.granted
  (try dsimp only)
  (repeat' split) <;> simp

@[simp] theorem Context.passing_frame (c : Context) :
    (c.passing).cue = c.cue ∧ (c.passing).source = c.source ∧ (c.passing).phase = c.phase
    ∧ (c.passing).held = c.held ∧ (c.passing).eligible = c.eligible ∧ (c.passing).lockout = c.lockout
    ∧ (c.passing).queue = c.queue ∧ (c.passing).overflow = c.overflow ∧ (c.passing).ballot = c.ballot
    ∧ (c.passing).roundRemaining = c.roundRemaining ∧ (c.passing).roundDeadline = c.roundDeadline
    ∧ (c.passing).openInstant = c.openInstant ∧ (c.passing).answerDeadline = c.answerDeadline
    ∧ (c.passing).answerRemainder = c.answerRemainder ∧ (c.passing).closeInstant = c.closeInstant
    ∧ (c.passing).ending = c.ending := by
  unfold Context.passing
  (try dsimp only)
  (repeat' split) <;> simp

@[simp] theorem Context.hold_frame (now : ClockValue) (c : Context) :
    (c.hold now).cue = c.cue ∧ (c.hold now).source = c.source ∧ (c.hold now).phase = c.phase
    ∧ (c.hold now).eligible = c.eligible ∧ (c.hold now).lockout = c.lockout
    ∧ (c.hold now).queue = c.queue ∧ (c.hold now).overflow = c.overflow ∧ (c.hold now).ballot = c.ballot
    ∧ (c.hold now).openInstant = c.openInstant ∧ (c.hold now).holder = c.holder
    ∧ (c.hold now).closeInstant = c.closeInstant ∧ (c.hold now).ending = c.ending
    ∧ (c.hold now).flashing = c.flashing := by
  unfold Context.hold
  (try dsimp only)
  (repeat' split) <;> simp

@[simp] theorem Context.resumeAnswer_frame (now : ClockValue) (c : Context) :
    (c.resumeAnswer now).cue = c.cue ∧ (c.resumeAnswer now).source = c.source
    ∧ (c.resumeAnswer now).phase = c.phase ∧ (c.resumeAnswer now).held = c.held
    ∧ (c.resumeAnswer now).eligible = c.eligible ∧ (c.resumeAnswer now).lockout = c.lockout
    ∧ (c.resumeAnswer now).queue = c.queue ∧ (c.resumeAnswer now).overflow = c.overflow
    ∧ (c.resumeAnswer now).ballot = c.ballot ∧ (c.resumeAnswer now).roundRemaining = c.roundRemaining
    ∧ (c.resumeAnswer now).roundDeadline = c.roundDeadline
    ∧ (c.resumeAnswer now).openInstant = c.openInstant ∧ (c.resumeAnswer now).holder = c.holder
    ∧ (c.resumeAnswer now).closeInstant = c.closeInstant ∧ (c.resumeAnswer now).ending = c.ending := by
  unfold Context.resumeAnswer
  (try dsimp only)
  (repeat' split) <;> simp

@[simp] theorem Context.unhold_frame (now : ClockValue) (c : Context) :
    (c.unhold now).cue = c.cue ∧ (c.unhold now).source = c.source ∧ (c.unhold now).phase = c.phase
    ∧ (c.unhold now).eligible = c.eligible ∧ (c.unhold now).lockout = c.lockout
    ∧ (c.unhold now).queue = c.queue ∧ (c.unhold now).overflow = c.overflow
    ∧ (c.unhold now).ballot = c.ballot ∧ (c.unhold now).roundRemaining = c.roundRemaining
    ∧ (c.unhold now).openInstant = c.openInstant ∧ (c.unhold now).holder = c.holder
    ∧ (c.unhold now).closeInstant = c.closeInstant ∧ (c.unhold now).ending = c.ending := by
  unfold Context.unhold
  (try dsimp only)
  (repeat' split) <;> simp

@[simp] theorem Context.resumed_frame (now : ClockValue) (speed : LineSpeed) (c : Context) :
    (c.resumed now speed).cue = c.cue ∧ (c.resumed now speed).source = c.source
    ∧ (c.resumed now speed).held = c.held ∧ (c.resumed now speed).eligible = c.eligible
    ∧ (c.resumed now speed).lockout = c.lockout ∧ (c.resumed now speed).queue = c.queue
    ∧ (c.resumed now speed).overflow = c.overflow ∧ (c.resumed now speed).ballot = c.ballot
    ∧ (c.resumed now speed).roundRemaining = c.roundRemaining
    ∧ (c.resumed now speed).answerDeadline = c.answerDeadline
    ∧ (c.resumed now speed).answerRemainder = c.answerRemainder
    ∧ (c.resumed now speed).flashInstant = c.flashInstant ∧ (c.resumed now speed).holder = c.holder
    ∧ (c.resumed now speed).closeInstant = c.closeInstant ∧ (c.resumed now speed).ending = c.ending
    ∧ (c.resumed now speed).flashing = c.flashing := by
  unfold Context.resumed
  (try dsimp only)
  (repeat' split) <;> simp

/-- Pausing leaves no deadline and the time left (R86). -/
theorem Context.pauseWindow_eq (now : ClockValue) (c : Context) :
    c.pauseWindow now = { c with
      roundRemaining := (match c.roundDeadline with
        | some d => some (clockDiff now d).toNat
        | none => c.roundRemaining)
      roundDeadline := none } := by
  unfold Context.pauseWindow
  cases h : c.roundDeadline with
  | none => simp [← h]
  | some d => simp [ticksLeft]

/-- Starting the window sets the deadline where time is left (R86). -/
theorem Context.startWindow_eq (now : ClockValue) (c : Context) :
    c.startWindow now = { c with
      roundDeadline := (match c.roundRemaining with
        | some (n + 1) => some (now + BitVec.ofNat 32 (n + 1))
        | some 0 => c.roundDeadline
        | none => c.roundDeadline) } := by
  unfold Context.startWindow
  cases hr : c.roundRemaining with
  | none => simp [← hr]
  | some n => cases n <;> simp [ticksAfter, ← hr]

/-- The fields a close sets (R75). -/
@[simp] theorem Context.closed_sets (now : ClockValue) (e : Ending) (c : Context) :
    (c.closed now e).phase = .closed ∧ (c.closed now e).ending = some e ∧ (c.closed now e).roundDeadline = none
    ∧ (c.closed now e).answerDeadline = none ∧ (c.closed now e).answerRemainder = none
    ∧ (c.closed now e).flashInstant = none ∧ (c.closed now e).holder = none
    ∧ (c.closed now e).flashing = false := by
  unfold Context.closed
  rw [Context.pauseWindow_eq]
  and_intros <;> rfl

/-- The fields a grant sets (R110). -/
@[simp] theorem Context.granted_sets (now : ClockValue) (head : Claim) (rest : List Claim) (c : Context) :
    (c.granted now head rest).phase = .floor ∧ (c.granted now head rest).holder = some head.team
    ∧ (c.granted now head rest).queue = { head with contested := false } :: rest
    ∧ (c.granted now head rest).roundDeadline = none := by
  unfold Context.granted
  rw [Context.pauseWindow_eq]
  and_intros <;> rfl

end Sys2Proof.Machine
end

