-- ==== Sys2Proof/Laws/Parts.lean ====
section
/-! SUPPORT. The parts of the blocks they write that the operations and the commands leave as they were, beside the
blocks that their frame lemmas name. -/

namespace Sys2Proof.Machine

@[simp] theorem setTeam_parts (s : State) (t : TeamId) (r : TeamRecord) :
    (State.setTeam s t r).roster.pads = s.roster.pads
    ∧ (State.setTeam s t r).roster.layout = s.roster.layout := by and_intros <;> rfl

@[simp] theorem setPad_parts (s : State) (a : PadAddr) (r : PadRecord) :
    (State.setPad s a r).roster.teams = s.roster.teams
    ∧ (State.setPad s a r).roster.layout = s.roster.layout := by and_intros <;> rfl

@[simp] theorem setActive_parts (s : State) (c : Option Context) :
    (State.setActive s c).engine.tiePointer = s.engine.tiePointer := by rfl

@[simp] theorem requestPublish_parts (s : State) :
    (requestPublish s).board.panels = s.board.panels ∧ (requestPublish s).board.routes = s.board.routes
    ∧ (requestPublish s).board.auto = s.board.auto ∧ (requestPublish s).board.operation = s.board.operation := by and_intros <;> rfl

@[simp] theorem setPending_parts (k : NoticeKind) (s : State) :
    (setPending k s).notices.enabled = s.notices.enabled := by rfl

@[simp] theorem setStage_parts (s : State) (st : CycleStage) :
    (State.setStage s st).desk.speed = s.desk.speed ∧ (State.setStage s st).desk.setting = s.desk.setting
    ∧ (State.setStage s st).desk.switch = s.desk.switch
    ∧ (State.setStage s st).desk.cycleKind = s.desk.cycleKind
    ∧ (State.setStage s st).desk.pointer = s.desk.pointer
    ∧ (State.setStage s st).desk.sprintCount = s.desk.sprintCount
    ∧ (State.setStage s st).desk.changed = s.desk.changed := by and_intros <;> rfl

@[simp] theorem layOut_parts (m : Layout) (s : State) :
    (layOut m s).roster.teams = s.roster.teams := by rfl

@[simp] theorem assignPad_parts (a : PadAddr) (asg : Assignment) (s : State) :
    (assignPad a asg s).roster.teams = s.roster.teams ∧ (assignPad a asg s).roster.layout = s.roster.layout := by
  unfold assignPad
  (try dsimp only)
  (repeat' split) <;> simp

@[simp] theorem setAllLamps_parts (l : Option Lamp) (s : State) :
    (setAllLamps l s).roster.teams = s.roster.teams ∧ (setAllLamps l s).roster.layout = s.roster.layout := by and_intros <;> rfl

@[simp] theorem freeLock_parts (s : State) :
    (freeLock s).scores.changed = s.scores.changed ∧ (freeLock s).scores.lastEnd = s.scores.lastEnd := by and_intros <;> rfl

@[simp] theorem listAward_parts (a : Award) (s : State) :
    (listAward a s).scores.lock = s.scores.lock ∧ (listAward a s).scores.changed = s.scores.changed
    ∧ (listAward a s).scores.lastEnd = s.scores.lastEnd := by and_intros <;> rfl

@[simp] theorem raiseSprintCount_parts (s : State) :
    (raiseSprintCount s).desk.speed = s.desk.speed ∧ (raiseSprintCount s).desk.setting = s.desk.setting
    ∧ (raiseSprintCount s).desk.switch = s.desk.switch
    ∧ (raiseSprintCount s).desk.cycleKind = s.desk.cycleKind
    ∧ (raiseSprintCount s).desk.stage = s.desk.stage ∧ (raiseSprintCount s).desk.pointer = s.desk.pointer
    ∧ (raiseSprintCount s).desk.changed = s.desk.changed := by and_intros <;> rfl

@[simp] theorem placeCue_parts (x : SlotId) (c : Cue) (s : State) :
    (placeCue x c s).cues.pointer = s.cues.pointer ∧ (placeCue x c s).cues.wrapped = s.cues.wrapped := by and_intros <;> rfl

@[simp] theorem eraseCues_parts (covers : SlotId → Bool) (s : State) :
    (eraseCues covers s).cues.pointer = s.cues.pointer ∧ (eraseCues covers s).cues.wrapped = s.cues.wrapped := by and_intros <;> rfl

@[simp] theorem setPanel_parts (s : State) (p : PanelId) (r : PanelRecord) :
    (State.setPanel s p r).board.routes = s.board.routes ∧ (State.setPanel s p r).board.auto = s.board.auto
    ∧ (State.setPanel s p r).board.operation = s.board.operation
    ∧ (State.setPanel s p r).board.request = s.board.request := by and_intros <;> rfl

@[simp] theorem setOperation_parts (s : State) (o : LineOperation) :
    (State.setOperation s o).board.panels = s.board.panels
    ∧ (State.setOperation s o).board.routes = s.board.routes
    ∧ (State.setOperation s o).board.auto = s.board.auto
    ∧ (State.setOperation s o).board.request = s.board.request := by and_intros <;> rfl

@[simp] theorem setRoute_parts (s : State) (n : RouteId) (r : Option Route) :
    (State.setRoute s n r).board.panels = s.board.panels ∧ (State.setRoute s n r).board.auto = s.board.auto
    ∧ (State.setRoute s n r).board.operation = s.board.operation
    ∧ (State.setRoute s n r).board.request = s.board.request := by and_intros <;> rfl

@[simp] theorem clearRoutes_parts (s : State) :
    (clearRoutes s).board.panels = s.board.panels ∧ (clearRoutes s).board.auto = s.board.auto
    ∧ (clearRoutes s).board.operation = s.board.operation ∧ (clearRoutes s).board.request = s.board.request := by and_intros <;> rfl

@[simp] theorem setTransmitter_parts (s : State) (t : Transmitter) :
    (State.setTransmitter s t).link.assembler = s.link.assembler
    ∧ (State.setTransmitter s t).link.queue = s.link.queue
    ∧ (State.setTransmitter s t).link.held = s.link.held
    ∧ (State.setTransmitter s t).link.restarting = s.link.restarting
    ∧ (State.setTransmitter s t).link.rate = s.link.rate := by and_intros <;> rfl

@[simp] theorem enqueue_parts (e : QueueEntry) (s : State) :
    (enqueue e s).link.assembler = s.link.assembler ∧ (enqueue e s).link.held = s.link.held
    ∧ (enqueue e s).link.restarting = s.link.restarting ∧ (enqueue e s).link.rate = s.link.rate := by and_intros <;> rfl

@[simp] theorem hunt_parts (s : State) :
    (hunt s).link.queue = s.link.queue ∧ (hunt s).link.held = s.link.held
    ∧ (hunt s).link.transmitter = s.link.transmitter ∧ (hunt s).link.restarting = s.link.restarting
    ∧ (hunt s).link.rate = s.link.rate := by and_intros <;> rfl

@[simp] theorem dropFront_parts (s : State) :
    (dropFront s).link.assembler = s.link.assembler ∧ (dropFront s).link.held = s.link.held
    ∧ (dropFront s).link.transmitter = s.link.transmitter
    ∧ (dropFront s).link.restarting = s.link.restarting ∧ (dropFront s).link.rate = s.link.rate := by and_intros <;> rfl

@[simp] theorem setCandidate_parts (a : PadAddr) (c : Option Candidate) (s : State) :
    (setCandidate a c s).roster.teams = s.roster.teams
    ∧ (setCandidate a c s).roster.layout = s.roster.layout := by
  unfold setCandidate
  (try dsimp only)
  (repeat' split) <;> simp

@[simp] theorem grantFloor_parts (head : Claim) (rest : List Claim) (c : Context) (s : State) :
    (grantFloor head rest c s).notices.enabled = s.notices.enabled := by
  unfold grantFloor
  (try dsimp only)
  (repeat' split) <;> simp

@[simp] theorem noteLockEnd_parts (e : LockEnd) (s : State) :
    (noteLockEnd e s).scores.lock = s.scores.lock
    ∧ (noteLockEnd e s).scores.pendingAwards = s.scores.pendingAwards
    ∧ (noteLockEnd e s).scores.changed = s.scores.changed
    ∧ (noteLockEnd e s).notices.enabled = s.notices.enabled := by
  unfold noteLockEnd
  (try dsimp only)
  (repeat' split) <;> simp

@[simp] theorem recordOverrun_parts (s : State) :
    (recordOverrun s).notices.enabled = s.notices.enabled := by
  unfold recordOverrun
  (try dsimp only)
  (repeat' split) <;> simp

@[simp] theorem recordStarted_parts (s : State) :
    (recordStarted s).notices.enabled = s.notices.enabled := by
  unfold recordStarted
  (try dsimp only)
  (repeat' split) <;> simp

@[simp] theorem notePageWrap_parts (x : SlotId) (s : State) :
    (notePageWrap x s).cues.slots = s.cues.slots ∧ (notePageWrap x s).cues.pointer = s.cues.pointer
    ∧ (notePageWrap x s).notices.enabled = s.notices.enabled := by
  unfold notePageWrap
  (try dsimp only)
  (repeat' split) <;> simp

@[simp] theorem joinPadChanged_parts (a : PadAddr) (s : State) :
    (joinPadChanged a s).desk.speed = s.desk.speed ∧ (joinPadChanged a s).desk.setting = s.desk.setting
    ∧ (joinPadChanged a s).desk.switch = s.desk.switch
    ∧ (joinPadChanged a s).desk.cycleKind = s.desk.cycleKind
    ∧ (joinPadChanged a s).desk.stage = s.desk.stage ∧ (joinPadChanged a s).desk.pointer = s.desk.pointer
    ∧ (joinPadChanged a s).desk.sprintCount = s.desk.sprintCount
    ∧ (joinPadChanged a s).notices.enabled = s.notices.enabled := by
  unfold joinPadChanged
  (try dsimp only)
  (repeat' split) <;> simp

@[simp] theorem holdActive_parts (s : State) :
    (holdActive s).engine.tiePointer = s.engine.tiePointer := by
  unfold holdActive
  (try dsimp only)
  (repeat' split) <;> simp

@[simp] theorem autoRequest_parts (s : State) :
    (autoRequest s).board.panels = s.board.panels ∧ (autoRequest s).board.routes = s.board.routes
    ∧ (autoRequest s).board.auto = s.board.auto ∧ (autoRequest s).board.operation = s.board.operation := by
  unfold autoRequest
  (try dsimp only)
  (repeat' split) <;> simp

@[simp] theorem judgeNeed_parts (s : State) :
    (judgeNeed s).desk.speed = s.desk.speed ∧ (judgeNeed s).desk.setting = s.desk.setting
    ∧ (judgeNeed s).desk.cycleKind = s.desk.cycleKind ∧ (judgeNeed s).desk.stage = s.desk.stage
    ∧ (judgeNeed s).desk.pointer = s.desk.pointer ∧ (judgeNeed s).desk.sprintCount = s.desk.sprintCount
    ∧ (judgeNeed s).desk.changed = s.desk.changed := by
  unfold judgeNeed
  (try dsimp only)
  (repeat' split) <;> simp

@[simp] theorem signalRoundChange_parts (s : State) :
    (signalRoundChange s).notices.enabled = s.notices.enabled
    ∧ (signalRoundChange s).board.panels = s.board.panels
    ∧ (signalRoundChange s).board.routes = s.board.routes ∧ (signalRoundChange s).board.auto = s.board.auto
    ∧ (signalRoundChange s).board.operation = s.board.operation
    ∧ (signalRoundChange s).desk.speed = s.desk.speed ∧ (signalRoundChange s).desk.setting = s.desk.setting
    ∧ (signalRoundChange s).desk.cycleKind = s.desk.cycleKind
    ∧ (signalRoundChange s).desk.stage = s.desk.stage ∧ (signalRoundChange s).desk.pointer = s.desk.pointer
    ∧ (signalRoundChange s).desk.sprintCount = s.desk.sprintCount
    ∧ (signalRoundChange s).desk.changed = s.desk.changed := by
  unfold signalRoundChange
  (try dsimp only)
  (repeat' split) <;> simp

@[simp] theorem signalQueueChange_parts (s : State) :
    (signalQueueChange s).notices.enabled = s.notices.enabled
    ∧ (signalQueueChange s).board.panels = s.board.panels
    ∧ (signalQueueChange s).board.routes = s.board.routes ∧ (signalQueueChange s).board.auto = s.board.auto
    ∧ (signalQueueChange s).board.operation = s.board.operation := by
  unfold signalQueueChange
  (try dsimp only)
  (repeat' split) <;> simp

@[simp] theorem emptyKept_parts (k : NoticeKind) (s : State) :
    (emptyKept k s).desk.speed = s.desk.speed ∧ (emptyKept k s).desk.setting = s.desk.setting
    ∧ (emptyKept k s).desk.switch = s.desk.switch ∧ (emptyKept k s).desk.cycleKind = s.desk.cycleKind
    ∧ (emptyKept k s).desk.stage = s.desk.stage ∧ (emptyKept k s).desk.pointer = s.desk.pointer
    ∧ (emptyKept k s).desk.sprintCount = s.desk.sprintCount ∧ (emptyKept k s).scores.lock = s.scores.lock
    ∧ (emptyKept k s).scores.pendingAwards = s.scores.pendingAwards
    ∧ (emptyKept k s).scores.lastEnd = s.scores.lastEnd ∧ (emptyKept k s).cues.slots = s.cues.slots
    ∧ (emptyKept k s).cues.pointer = s.cues.pointer ∧ (emptyKept k s).board.panels = s.board.panels
    ∧ (emptyKept k s).board.routes = s.board.routes ∧ (emptyKept k s).board.auto = s.board.auto
    ∧ (emptyKept k s).board.operation = s.board.operation ∧ (emptyKept k s).board.request = s.board.request
    ∧ (emptyKept k s).notices.enabled = s.notices.enabled := by
  cases k <;> simp [emptyKept]

@[simp] theorem discardPending_parts (k : NoticeKind) (s : State) :
    (discardPending k s).desk.speed = s.desk.speed ∧ (discardPending k s).desk.setting = s.desk.setting
    ∧ (discardPending k s).desk.switch = s.desk.switch
    ∧ (discardPending k s).desk.cycleKind = s.desk.cycleKind
    ∧ (discardPending k s).desk.stage = s.desk.stage ∧ (discardPending k s).desk.pointer = s.desk.pointer
    ∧ (discardPending k s).desk.sprintCount = s.desk.sprintCount
    ∧ (discardPending k s).scores.lock = s.scores.lock
    ∧ (discardPending k s).scores.pendingAwards = s.scores.pendingAwards
    ∧ (discardPending k s).scores.lastEnd = s.scores.lastEnd
    ∧ (discardPending k s).cues.slots = s.cues.slots ∧ (discardPending k s).cues.pointer = s.cues.pointer
    ∧ (discardPending k s).board.panels = s.board.panels
    ∧ (discardPending k s).board.routes = s.board.routes ∧ (discardPending k s).board.auto = s.board.auto
    ∧ (discardPending k s).board.operation = s.board.operation
    ∧ (discardPending k s).board.request = s.board.request
    ∧ (discardPending k s).notices.enabled = s.notices.enabled := by
  unfold discardPending
  (try dsimp only)
  (repeat' split) <;> simp

@[simp] theorem discardAll_parts (l : List NoticeKind) (s : State) :
    (discardAll l s).desk.speed = s.desk.speed ∧ (discardAll l s).desk.setting = s.desk.setting
    ∧ (discardAll l s).desk.switch = s.desk.switch ∧ (discardAll l s).desk.cycleKind = s.desk.cycleKind
    ∧ (discardAll l s).desk.stage = s.desk.stage ∧ (discardAll l s).desk.pointer = s.desk.pointer
    ∧ (discardAll l s).desk.sprintCount = s.desk.sprintCount ∧ (discardAll l s).scores.lock = s.scores.lock
    ∧ (discardAll l s).scores.pendingAwards = s.scores.pendingAwards
    ∧ (discardAll l s).scores.lastEnd = s.scores.lastEnd ∧ (discardAll l s).cues.slots = s.cues.slots
    ∧ (discardAll l s).cues.pointer = s.cues.pointer ∧ (discardAll l s).board.panels = s.board.panels
    ∧ (discardAll l s).board.routes = s.board.routes ∧ (discardAll l s).board.auto = s.board.auto
    ∧ (discardAll l s).board.operation = s.board.operation
    ∧ (discardAll l s).board.request = s.board.request
    ∧ (discardAll l s).notices.enabled = s.notices.enabled := by
  induction l generalizing s with
  | nil => simp [discardAll]
  | cons x xs ih => simp [discardAll, ih]

@[simp] theorem sendProbe_parts (s : State) :
    (sendProbe s).desk.speed = s.desk.speed ∧ (sendProbe s).desk.setting = s.desk.setting
    ∧ (sendProbe s).desk.switch = s.desk.switch ∧ (sendProbe s).desk.cycleKind = s.desk.cycleKind
    ∧ (sendProbe s).desk.sprintCount = s.desk.sprintCount ∧ (sendProbe s).desk.changed = s.desk.changed := by
  unfold sendProbe
  (try dsimp only)
  (repeat' split) <;> simp

@[simp] theorem sendNext_parts (rest : List PadAddr) (s : State) :
    (sendNext rest s).desk.speed = s.desk.speed ∧ (sendNext rest s).desk.setting = s.desk.setting
    ∧ (sendNext rest s).desk.switch = s.desk.switch ∧ (sendNext rest s).desk.cycleKind = s.desk.cycleKind
    ∧ (sendNext rest s).desk.sprintCount = s.desk.sprintCount
    ∧ (sendNext rest s).desk.changed = s.desk.changed := by
  unfold sendNext
  (try dsimp only)
  (repeat' split) <;> simp

@[simp] theorem startCycle_parts (k : CycleKind) (s : State) :
    (startCycle k s).desk.speed = s.desk.speed ∧ (startCycle k s).desk.setting = s.desk.setting
    ∧ (startCycle k s).desk.switch = s.desk.switch ∧ (startCycle k s).desk.sprintCount = s.desk.sprintCount
    ∧ (startCycle k s).desk.changed = s.desk.changed := by
  unfold startCycle
  (try dsimp only)
  (repeat' split) <;> simp

@[simp] theorem startRoamCycle_parts (s : State) :
    (startRoamCycle s).desk.speed = s.desk.speed ∧ (startRoamCycle s).desk.setting = s.desk.setting
    ∧ (startRoamCycle s).desk.sprintCount = s.desk.sprintCount
    ∧ (startRoamCycle s).desk.changed = s.desk.changed := by
  unfold startRoamCycle
  (try dsimp only)
  (repeat' split) <;> simp

@[simp] theorem markLagging_parts (a : PadAddr) (s : State) :
    (markLagging a s).roster.teams = s.roster.teams ∧ (markLagging a s).roster.layout = s.roster.layout
    ∧ (markLagging a s).desk.speed = s.desk.speed ∧ (markLagging a s).desk.setting = s.desk.setting
    ∧ (markLagging a s).desk.switch = s.desk.switch ∧ (markLagging a s).desk.cycleKind = s.desk.cycleKind
    ∧ (markLagging a s).desk.stage = s.desk.stage ∧ (markLagging a s).desk.pointer = s.desk.pointer
    ∧ (markLagging a s).desk.sprintCount = s.desk.sprintCount
    ∧ (markLagging a s).notices.enabled = s.notices.enabled := by
  unfold markLagging
  (try dsimp only)
  (repeat' split) <;> simp

@[simp] theorem clearLagging_parts (a : PadAddr) (s : State) :
    (clearLagging a s).roster.teams = s.roster.teams ∧ (clearLagging a s).roster.layout = s.roster.layout
    ∧ (clearLagging a s).desk.speed = s.desk.speed ∧ (clearLagging a s).desk.setting = s.desk.setting
    ∧ (clearLagging a s).desk.switch = s.desk.switch ∧ (clearLagging a s).desk.cycleKind = s.desk.cycleKind
    ∧ (clearLagging a s).desk.stage = s.desk.stage ∧ (clearLagging a s).desk.pointer = s.desk.pointer
    ∧ (clearLagging a s).desk.sprintCount = s.desk.sprintCount
    ∧ (clearLagging a s).notices.enabled = s.notices.enabled := by
  unfold clearLagging
  (try dsimp only)
  (repeat' split) <;> simp

@[simp] theorem markAllLagging_parts (l : List PadAddr) (s : State) :
    (markAllLagging l s).roster.teams = s.roster.teams
    ∧ (markAllLagging l s).roster.layout = s.roster.layout ∧ (markAllLagging l s).desk.speed = s.desk.speed
    ∧ (markAllLagging l s).desk.setting = s.desk.setting ∧ (markAllLagging l s).desk.switch = s.desk.switch
    ∧ (markAllLagging l s).desk.cycleKind = s.desk.cycleKind
    ∧ (markAllLagging l s).desk.stage = s.desk.stage ∧ (markAllLagging l s).desk.pointer = s.desk.pointer
    ∧ (markAllLagging l s).desk.sprintCount = s.desk.sprintCount
    ∧ (markAllLagging l s).notices.enabled = s.notices.enabled := by
  induction l generalizing s with
  | nil => simp [markAllLagging]
  | cons x xs ih => simp [markAllLagging, ih]

@[simp] theorem clearAllLagging_parts (l : List PadAddr) (s : State) :
    (clearAllLagging l s).roster.teams = s.roster.teams
    ∧ (clearAllLagging l s).roster.layout = s.roster.layout
    ∧ (clearAllLagging l s).desk.speed = s.desk.speed ∧ (clearAllLagging l s).desk.setting = s.desk.setting
    ∧ (clearAllLagging l s).desk.switch = s.desk.switch
    ∧ (clearAllLagging l s).desk.cycleKind = s.desk.cycleKind
    ∧ (clearAllLagging l s).desk.stage = s.desk.stage ∧ (clearAllLagging l s).desk.pointer = s.desk.pointer
    ∧ (clearAllLagging l s).desk.sprintCount = s.desk.sprintCount
    ∧ (clearAllLagging l s).notices.enabled = s.notices.enabled := by
  induction l generalizing s with
  | nil => simp [clearAllLagging]
  | cons x xs ih => simp [clearAllLagging, ih]

@[simp] theorem applyOne_parts (a : Award) (s : State) :
    (applyOne a s).roster.pads = s.roster.pads ∧ (applyOne a s).roster.layout = s.roster.layout
    ∧ (applyOne a s).scores.lock = s.scores.lock
    ∧ (applyOne a s).scores.pendingAwards = s.scores.pendingAwards
    ∧ (applyOne a s).scores.lastEnd = s.scores.lastEnd ∧ (applyOne a s).notices.enabled = s.notices.enabled
    ∧ (applyOne a s).board.panels = s.board.panels ∧ (applyOne a s).board.routes = s.board.routes
    ∧ (applyOne a s).board.auto = s.board.auto ∧ (applyOne a s).board.operation = s.board.operation := by
  unfold applyOne
  (try dsimp only)
  (repeat' split) <;> simp

@[simp] theorem applyAward_parts (a : Award) (s : State) :
    (applyAward a s).roster.pads = s.roster.pads ∧ (applyAward a s).roster.layout = s.roster.layout
    ∧ (applyAward a s).scores.lock = s.scores.lock
    ∧ (applyAward a s).scores.pendingAwards = s.scores.pendingAwards
    ∧ (applyAward a s).scores.lastEnd = s.scores.lastEnd
    ∧ (applyAward a s).notices.enabled = s.notices.enabled ∧ (applyAward a s).board.panels = s.board.panels
    ∧ (applyAward a s).board.routes = s.board.routes ∧ (applyAward a s).board.auto = s.board.auto
    ∧ (applyAward a s).board.operation = s.board.operation := by
  unfold applyAward
  (try dsimp only)
  (repeat' split) <;> simp

@[simp] theorem applyAwards_parts (l : List Award) (s : State) :
    (applyAwards l s).roster.pads = s.roster.pads ∧ (applyAwards l s).roster.layout = s.roster.layout
    ∧ (applyAwards l s).scores.lock = s.scores.lock
    ∧ (applyAwards l s).scores.pendingAwards = s.scores.pendingAwards
    ∧ (applyAwards l s).scores.lastEnd = s.scores.lastEnd
    ∧ (applyAwards l s).notices.enabled = s.notices.enabled
    ∧ (applyAwards l s).board.panels = s.board.panels ∧ (applyAwards l s).board.routes = s.board.routes
    ∧ (applyAwards l s).board.auto = s.board.auto ∧ (applyAwards l s).board.operation = s.board.operation := by
  induction l generalizing s with
  | nil => simp [applyAwards]
  | cons x xs ih => simp [applyAwards, ih]

@[simp] theorem releaseLock_parts (s : State) :
    (releaseLock s).roster.pads = s.roster.pads ∧ (releaseLock s).roster.layout = s.roster.layout
    ∧ (releaseLock s).scores.lastEnd = s.scores.lastEnd
    ∧ (releaseLock s).notices.enabled = s.notices.enabled ∧ (releaseLock s).board.panels = s.board.panels
    ∧ (releaseLock s).board.routes = s.board.routes ∧ (releaseLock s).board.auto = s.board.auto
    ∧ (releaseLock s).board.operation = s.board.operation := by
  unfold releaseLock
  (try dsimp only)
  (repeat' split) <;> simp

@[simp] theorem endLock_parts (s : State) :
    (endLock s).roster.pads = s.roster.pads ∧ (endLock s).roster.layout = s.roster.layout
    ∧ (endLock s).scores.lastEnd = s.scores.lastEnd ∧ (endLock s).notices.enabled = s.notices.enabled
    ∧ (endLock s).board.panels = s.board.panels ∧ (endLock s).board.routes = s.board.routes
    ∧ (endLock s).board.auto = s.board.auto ∧ (endLock s).board.operation = s.board.operation := by
  unfold endLock
  (try dsimp only)
  (repeat' split) <;> simp

@[simp] theorem handOver_parts (a : Award) (s : State) :
    (handOver a s).roster.pads = s.roster.pads ∧ (handOver a s).roster.layout = s.roster.layout
    ∧ (handOver a s).notices.enabled = s.notices.enabled ∧ (handOver a s).board.panels = s.board.panels
    ∧ (handOver a s).board.routes = s.board.routes ∧ (handOver a s).board.auto = s.board.auto
    ∧ (handOver a s).board.operation = s.board.operation := by
  unfold handOver
  (try dsimp only)
  (repeat' split) <;> simp

@[simp] theorem handOverAll_parts (l : List Award) (s : State) :
    (handOverAll l s).roster.pads = s.roster.pads ∧ (handOverAll l s).roster.layout = s.roster.layout
    ∧ (handOverAll l s).notices.enabled = s.notices.enabled
    ∧ (handOverAll l s).board.panels = s.board.panels ∧ (handOverAll l s).board.routes = s.board.routes
    ∧ (handOverAll l s).board.auto = s.board.auto ∧ (handOverAll l s).board.operation = s.board.operation := by
  induction l generalizing s with
  | nil => simp [handOverAll]
  | cons x xs ih => simp [handOverAll, ih]

@[simp] theorem lapse_parts (s : State) :
    (lapse s).roster.pads = s.roster.pads ∧ (lapse s).roster.layout = s.roster.layout
    ∧ (lapse s).notices.enabled = s.notices.enabled ∧ (lapse s).board.panels = s.board.panels
    ∧ (lapse s).board.routes = s.board.routes ∧ (lapse s).board.auto = s.board.auto
    ∧ (lapse s).board.operation = s.board.operation := by
  unfold lapse
  (try dsimp only)
  (repeat' split) <;> simp

@[simp] theorem enterOpen_parts (c : Context) (s : State) :
    (enterOpen c s).engine.tiePointer = s.engine.tiePointer
    ∧ (enterOpen c s).notices.enabled = s.notices.enabled ∧ (enterOpen c s).board.panels = s.board.panels
    ∧ (enterOpen c s).board.routes = s.board.routes ∧ (enterOpen c s).board.auto = s.board.auto
    ∧ (enterOpen c s).board.operation = s.board.operation ∧ (enterOpen c s).desk.speed = s.desk.speed
    ∧ (enterOpen c s).desk.setting = s.desk.setting ∧ (enterOpen c s).desk.cycleKind = s.desk.cycleKind
    ∧ (enterOpen c s).desk.stage = s.desk.stage ∧ (enterOpen c s).desk.pointer = s.desk.pointer
    ∧ (enterOpen c s).desk.sprintCount = s.desk.sprintCount ∧ (enterOpen c s).desk.changed = s.desk.changed := by
  unfold enterOpen
  (try dsimp only)
  (repeat' split) <;> simp

@[simp] theorem closeRound_parts (e : Ending) (c : Context) (s : State) :
    (closeRound e c s).engine.tiePointer = s.engine.tiePointer
    ∧ (closeRound e c s).notices.enabled = s.notices.enabled
    ∧ (closeRound e c s).board.panels = s.board.panels ∧ (closeRound e c s).board.routes = s.board.routes
    ∧ (closeRound e c s).board.auto = s.board.auto ∧ (closeRound e c s).board.operation = s.board.operation
    ∧ (closeRound e c s).desk.speed = s.desk.speed ∧ (closeRound e c s).desk.setting = s.desk.setting
    ∧ (closeRound e c s).desk.cycleKind = s.desk.cycleKind ∧ (closeRound e c s).desk.stage = s.desk.stage
    ∧ (closeRound e c s).desk.pointer = s.desk.pointer
    ∧ (closeRound e c s).desk.sprintCount = s.desk.sprintCount
    ∧ (closeRound e c s).desk.changed = s.desk.changed := by
  unfold closeRound
  (try dsimp only)
  (repeat' split) <;> simp

@[simp] theorem settleTest_parts (s : State) :
    (settleTest s).notices.enabled = s.notices.enabled ∧ (settleTest s).board.panels = s.board.panels
    ∧ (settleTest s).board.routes = s.board.routes ∧ (settleTest s).board.auto = s.board.auto
    ∧ (settleTest s).board.operation = s.board.operation ∧ (settleTest s).desk.speed = s.desk.speed
    ∧ (settleTest s).desk.setting = s.desk.setting ∧ (settleTest s).desk.cycleKind = s.desk.cycleKind
    ∧ (settleTest s).desk.stage = s.desk.stage ∧ (settleTest s).desk.pointer = s.desk.pointer
    ∧ (settleTest s).desk.sprintCount = s.desk.sprintCount ∧ (settleTest s).desk.changed = s.desk.changed := by
  unfold settleTest
  (try dsimp only)
  (repeat' split) <;> simp

@[simp] theorem admitClaim_parts (q : Claim) (c : Context) (s : State) :
    (admitClaim q c s).engine.tiePointer = s.engine.tiePointer
    ∧ (admitClaim q c s).notices.enabled = s.notices.enabled
    ∧ (admitClaim q c s).board.panels = s.board.panels ∧ (admitClaim q c s).board.routes = s.board.routes
    ∧ (admitClaim q c s).board.auto = s.board.auto ∧ (admitClaim q c s).board.operation = s.board.operation
    ∧ (admitClaim q c s).desk.speed = s.desk.speed ∧ (admitClaim q c s).desk.setting = s.desk.setting
    ∧ (admitClaim q c s).desk.cycleKind = s.desk.cycleKind ∧ (admitClaim q c s).desk.stage = s.desk.stage
    ∧ (admitClaim q c s).desk.pointer = s.desk.pointer
    ∧ (admitClaim q c s).desk.sprintCount = s.desk.sprintCount
    ∧ (admitClaim q c s).desk.changed = s.desk.changed := by
  unfold admitClaim
  (try dsimp only)
  (repeat' split) <;> simp

@[simp] theorem meetFullQueue_parts (q last : Claim) (c : Context) (s : State) :
    (meetFullQueue q last c s).engine.tiePointer = s.engine.tiePointer
    ∧ (meetFullQueue q last c s).notices.enabled = s.notices.enabled
    ∧ (meetFullQueue q last c s).board.panels = s.board.panels
    ∧ (meetFullQueue q last c s).board.routes = s.board.routes
    ∧ (meetFullQueue q last c s).board.auto = s.board.auto
    ∧ (meetFullQueue q last c s).board.operation = s.board.operation
    ∧ (meetFullQueue q last c s).desk.speed = s.desk.speed
    ∧ (meetFullQueue q last c s).desk.setting = s.desk.setting
    ∧ (meetFullQueue q last c s).desk.cycleKind = s.desk.cycleKind
    ∧ (meetFullQueue q last c s).desk.stage = s.desk.stage
    ∧ (meetFullQueue q last c s).desk.pointer = s.desk.pointer
    ∧ (meetFullQueue q last c s).desk.sprintCount = s.desk.sprintCount
    ∧ (meetFullQueue q last c s).desk.changed = s.desk.changed := by
  unfold meetFullQueue
  (try dsimp only)
  (repeat' split) <;> simp

@[simp] theorem newClaim_parts (q : Claim) (c : Context) (s : State) :
    (newClaim q c s).engine.tiePointer = s.engine.tiePointer
    ∧ (newClaim q c s).notices.enabled = s.notices.enabled ∧ (newClaim q c s).board.panels = s.board.panels
    ∧ (newClaim q c s).board.routes = s.board.routes ∧ (newClaim q c s).board.auto = s.board.auto
    ∧ (newClaim q c s).board.operation = s.board.operation ∧ (newClaim q c s).desk.speed = s.desk.speed
    ∧ (newClaim q c s).desk.setting = s.desk.setting ∧ (newClaim q c s).desk.cycleKind = s.desk.cycleKind
    ∧ (newClaim q c s).desk.stage = s.desk.stage ∧ (newClaim q c s).desk.pointer = s.desk.pointer
    ∧ (newClaim q c s).desk.sprintCount = s.desk.sprintCount
    ∧ (newClaim q c s).desk.changed = s.desk.changed := by
  unfold newClaim
  (try dsimp only)
  (repeat' split) <;> simp

@[simp] theorem improveClaim_parts (p : Press) (old : Claim) (c : Context) (s : State) :
    (improveClaim p old c s).engine.tiePointer = s.engine.tiePointer
    ∧ (improveClaim p old c s).notices.enabled = s.notices.enabled
    ∧ (improveClaim p old c s).board.panels = s.board.panels
    ∧ (improveClaim p old c s).board.routes = s.board.routes
    ∧ (improveClaim p old c s).board.auto = s.board.auto
    ∧ (improveClaim p old c s).board.operation = s.board.operation
    ∧ (improveClaim p old c s).desk.speed = s.desk.speed
    ∧ (improveClaim p old c s).desk.setting = s.desk.setting
    ∧ (improveClaim p old c s).desk.switch = s.desk.switch
    ∧ (improveClaim p old c s).desk.cycleKind = s.desk.cycleKind
    ∧ (improveClaim p old c s).desk.stage = s.desk.stage
    ∧ (improveClaim p old c s).desk.pointer = s.desk.pointer
    ∧ (improveClaim p old c s).desk.sprintCount = s.desk.sprintCount
    ∧ (improveClaim p old c s).desk.changed = s.desk.changed := by
  unfold improveClaim
  (try dsimp only)
  (repeat' split) <;> simp

@[simp] theorem takeClaim_parts (p : Press) (c : Context) (s : State) :
    (takeClaim p c s).engine.tiePointer = s.engine.tiePointer
    ∧ (takeClaim p c s).notices.enabled = s.notices.enabled
    ∧ (takeClaim p c s).board.panels = s.board.panels ∧ (takeClaim p c s).board.routes = s.board.routes
    ∧ (takeClaim p c s).board.auto = s.board.auto ∧ (takeClaim p c s).board.operation = s.board.operation
    ∧ (takeClaim p c s).desk.speed = s.desk.speed ∧ (takeClaim p c s).desk.setting = s.desk.setting
    ∧ (takeClaim p c s).desk.cycleKind = s.desk.cycleKind ∧ (takeClaim p c s).desk.stage = s.desk.stage
    ∧ (takeClaim p c s).desk.pointer = s.desk.pointer
    ∧ (takeClaim p c s).desk.sprintCount = s.desk.sprintCount
    ∧ (takeClaim p c s).desk.changed = s.desk.changed := by
  unfold takeClaim
  (try dsimp only)
  (repeat' split) <;> simp

@[simp] theorem floorPass_parts (cause : EndCause) (c : Context) (s : State) :
    (floorPass cause c s).notices.enabled = s.notices.enabled
    ∧ (floorPass cause c s).board.panels = s.board.panels
    ∧ (floorPass cause c s).board.routes = s.board.routes ∧ (floorPass cause c s).board.auto = s.board.auto
    ∧ (floorPass cause c s).board.operation = s.board.operation
    ∧ (floorPass cause c s).desk.speed = s.desk.speed ∧ (floorPass cause c s).desk.setting = s.desk.setting
    ∧ (floorPass cause c s).desk.cycleKind = s.desk.cycleKind
    ∧ (floorPass cause c s).desk.stage = s.desk.stage ∧ (floorPass cause c s).desk.pointer = s.desk.pointer
    ∧ (floorPass cause c s).desk.sprintCount = s.desk.sprintCount
    ∧ (floorPass cause c s).desk.changed = s.desk.changed := by
  unfold floorPass
  (try dsimp only)
  (repeat' split) <;> simp

@[simp] theorem correctVerdict_parts (t : TeamId) (c : Context) (s : State) :
    (correctVerdict t c s).engine.tiePointer = s.engine.tiePointer
    ∧ (correctVerdict t c s).desk.speed = s.desk.speed
    ∧ (correctVerdict t c s).desk.setting = s.desk.setting
    ∧ (correctVerdict t c s).desk.cycleKind = s.desk.cycleKind
    ∧ (correctVerdict t c s).desk.stage = s.desk.stage
    ∧ (correctVerdict t c s).desk.pointer = s.desk.pointer
    ∧ (correctVerdict t c s).desk.sprintCount = s.desk.sprintCount
    ∧ (correctVerdict t c s).desk.changed = s.desk.changed
    ∧ (correctVerdict t c s).board.panels = s.board.panels
    ∧ (correctVerdict t c s).board.routes = s.board.routes
    ∧ (correctVerdict t c s).board.auto = s.board.auto
    ∧ (correctVerdict t c s).board.operation = s.board.operation
    ∧ (correctVerdict t c s).notices.enabled = s.notices.enabled
    ∧ (correctVerdict t c s).roster.pads = s.roster.pads
    ∧ (correctVerdict t c s).roster.layout = s.roster.layout := by
  unfold correctVerdict
  (try dsimp only)
  (repeat' split) <;> simp

@[simp] theorem wrongVerdict_parts (cause : EndCause) (t : TeamId) (c : Context) (s : State) :
    (wrongVerdict cause t c s).desk.speed = s.desk.speed
    ∧ (wrongVerdict cause t c s).desk.setting = s.desk.setting
    ∧ (wrongVerdict cause t c s).desk.cycleKind = s.desk.cycleKind
    ∧ (wrongVerdict cause t c s).desk.stage = s.desk.stage
    ∧ (wrongVerdict cause t c s).desk.pointer = s.desk.pointer
    ∧ (wrongVerdict cause t c s).desk.sprintCount = s.desk.sprintCount
    ∧ (wrongVerdict cause t c s).desk.changed = s.desk.changed
    ∧ (wrongVerdict cause t c s).board.panels = s.board.panels
    ∧ (wrongVerdict cause t c s).board.routes = s.board.routes
    ∧ (wrongVerdict cause t c s).board.auto = s.board.auto
    ∧ (wrongVerdict cause t c s).board.operation = s.board.operation
    ∧ (wrongVerdict cause t c s).notices.enabled = s.notices.enabled
    ∧ (wrongVerdict cause t c s).roster.pads = s.roster.pads
    ∧ (wrongVerdict cause t c s).roster.layout = s.roster.layout := by
  unfold wrongVerdict
  (try dsimp only)
  (repeat' split) <;> simp

@[simp] theorem voidVerdict_parts (cause : EndCause) (t : TeamId) (c : Context) (s : State) :
    (voidVerdict cause t c s).notices.enabled = s.notices.enabled
    ∧ (voidVerdict cause t c s).board.panels = s.board.panels
    ∧ (voidVerdict cause t c s).board.routes = s.board.routes
    ∧ (voidVerdict cause t c s).board.auto = s.board.auto
    ∧ (voidVerdict cause t c s).board.operation = s.board.operation
    ∧ (voidVerdict cause t c s).desk.speed = s.desk.speed
    ∧ (voidVerdict cause t c s).desk.setting = s.desk.setting
    ∧ (voidVerdict cause t c s).desk.cycleKind = s.desk.cycleKind
    ∧ (voidVerdict cause t c s).desk.stage = s.desk.stage
    ∧ (voidVerdict cause t c s).desk.pointer = s.desk.pointer
    ∧ (voidVerdict cause t c s).desk.sprintCount = s.desk.sprintCount
    ∧ (voidVerdict cause t c s).desk.changed = s.desk.changed := by
  unfold voidVerdict
  (try dsimp only)
  (repeat' split) <;> simp

@[simp] theorem endAnswer_parts (cause : EndCause) (c : Context) (s : State) :
    (endAnswer cause c s).desk.speed = s.desk.speed ∧ (endAnswer cause c s).desk.setting = s.desk.setting
    ∧ (endAnswer cause c s).desk.cycleKind = s.desk.cycleKind
    ∧ (endAnswer cause c s).desk.stage = s.desk.stage ∧ (endAnswer cause c s).desk.pointer = s.desk.pointer
    ∧ (endAnswer cause c s).desk.sprintCount = s.desk.sprintCount
    ∧ (endAnswer cause c s).desk.changed = s.desk.changed
    ∧ (endAnswer cause c s).board.panels = s.board.panels
    ∧ (endAnswer cause c s).board.routes = s.board.routes ∧ (endAnswer cause c s).board.auto = s.board.auto
    ∧ (endAnswer cause c s).board.operation = s.board.operation
    ∧ (endAnswer cause c s).notices.enabled = s.notices.enabled
    ∧ (endAnswer cause c s).roster.pads = s.roster.pads
    ∧ (endAnswer cause c s).roster.layout = s.roster.layout := by
  unfold endAnswer
  (try dsimp only)
  (repeat' split) <;> simp

@[simp] theorem answerExpiry_parts (s : State) :
    (answerExpiry s).desk.speed = s.desk.speed ∧ (answerExpiry s).desk.setting = s.desk.setting
    ∧ (answerExpiry s).desk.cycleKind = s.desk.cycleKind ∧ (answerExpiry s).desk.stage = s.desk.stage
    ∧ (answerExpiry s).desk.pointer = s.desk.pointer
    ∧ (answerExpiry s).desk.sprintCount = s.desk.sprintCount
    ∧ (answerExpiry s).desk.changed = s.desk.changed ∧ (answerExpiry s).board.panels = s.board.panels
    ∧ (answerExpiry s).board.routes = s.board.routes ∧ (answerExpiry s).board.auto = s.board.auto
    ∧ (answerExpiry s).board.operation = s.board.operation
    ∧ (answerExpiry s).notices.enabled = s.notices.enabled ∧ (answerExpiry s).roster.pads = s.roster.pads
    ∧ (answerExpiry s).roster.layout = s.roster.layout := by
  unfold answerExpiry
  (try dsimp only)
  (repeat' split) <;> simp

@[simp] theorem flashReached_parts (s : State) :
    (flashReached s).engine.tiePointer = s.engine.tiePointer := by
  unfold flashReached
  (try dsimp only)
  (repeat' split) <;> simp

@[simp] theorem applyVerdict_parts (v : Verdict) (t : TeamId) (c : Context) (s : State) :
    (applyVerdict v t c s).desk.speed = s.desk.speed ∧ (applyVerdict v t c s).desk.setting = s.desk.setting
    ∧ (applyVerdict v t c s).desk.cycleKind = s.desk.cycleKind
    ∧ (applyVerdict v t c s).desk.stage = s.desk.stage
    ∧ (applyVerdict v t c s).desk.pointer = s.desk.pointer
    ∧ (applyVerdict v t c s).desk.sprintCount = s.desk.sprintCount
    ∧ (applyVerdict v t c s).desk.changed = s.desk.changed
    ∧ (applyVerdict v t c s).board.panels = s.board.panels
    ∧ (applyVerdict v t c s).board.routes = s.board.routes
    ∧ (applyVerdict v t c s).board.auto = s.board.auto
    ∧ (applyVerdict v t c s).board.operation = s.board.operation
    ∧ (applyVerdict v t c s).notices.enabled = s.notices.enabled
    ∧ (applyVerdict v t c s).roster.pads = s.roster.pads
    ∧ (applyVerdict v t c s).roster.layout = s.roster.layout := by
  unfold applyVerdict
  (try dsimp only)
  (repeat' split) <;> simp

@[simp] theorem reopenEmptied_parts (c : Context) (s : State) :
    (reopenEmptied c s).engine.tiePointer = s.engine.tiePointer
    ∧ (reopenEmptied c s).notices.enabled = s.notices.enabled
    ∧ (reopenEmptied c s).board.panels = s.board.panels ∧ (reopenEmptied c s).board.routes = s.board.routes
    ∧ (reopenEmptied c s).board.auto = s.board.auto
    ∧ (reopenEmptied c s).board.operation = s.board.operation
    ∧ (reopenEmptied c s).desk.speed = s.desk.speed ∧ (reopenEmptied c s).desk.setting = s.desk.setting
    ∧ (reopenEmptied c s).desk.cycleKind = s.desk.cycleKind ∧ (reopenEmptied c s).desk.stage = s.desk.stage
    ∧ (reopenEmptied c s).desk.pointer = s.desk.pointer
    ∧ (reopenEmptied c s).desk.sprintCount = s.desk.sprintCount
    ∧ (reopenEmptied c s).desk.changed = s.desk.changed := by
  unfold reopenEmptied
  (try dsimp only)
  (repeat' split) <;> simp

@[simp] theorem removeClaim_parts (t : TeamId) (c : Context) (s : State) :
    (removeClaim t c s).notices.enabled = s.notices.enabled
    ∧ (removeClaim t c s).board.panels = s.board.panels ∧ (removeClaim t c s).board.routes = s.board.routes
    ∧ (removeClaim t c s).board.auto = s.board.auto
    ∧ (removeClaim t c s).board.operation = s.board.operation
    ∧ (removeClaim t c s).desk.speed = s.desk.speed ∧ (removeClaim t c s).desk.setting = s.desk.setting
    ∧ (removeClaim t c s).desk.cycleKind = s.desk.cycleKind ∧ (removeClaim t c s).desk.stage = s.desk.stage
    ∧ (removeClaim t c s).desk.pointer = s.desk.pointer
    ∧ (removeClaim t c s).desk.sprintCount = s.desk.sprintCount
    ∧ (removeClaim t c s).desk.changed = s.desk.changed := by
  unfold removeClaim
  (try dsimp only)
  (repeat' split) <;> simp

@[simp] theorem takeVote_parts (p : Press) (c : Context) (s : State) :
    (takeVote p c s).engine.tiePointer = s.engine.tiePointer := by
  unfold takeVote
  (try dsimp only)
  (repeat' split) <;> simp

@[simp] theorem takePress_parts (p : Press) (s : State) :
    (takePress p s).engine.tiePointer = s.engine.tiePointer
    ∧ (takePress p s).notices.enabled = s.notices.enabled ∧ (takePress p s).board.panels = s.board.panels
    ∧ (takePress p s).board.routes = s.board.routes ∧ (takePress p s).board.auto = s.board.auto
    ∧ (takePress p s).board.operation = s.board.operation ∧ (takePress p s).desk.speed = s.desk.speed
    ∧ (takePress p s).desk.setting = s.desk.setting ∧ (takePress p s).desk.cycleKind = s.desk.cycleKind
    ∧ (takePress p s).desk.stage = s.desk.stage ∧ (takePress p s).desk.pointer = s.desk.pointer
    ∧ (takePress p s).desk.sprintCount = s.desk.sprintCount ∧ (takePress p s).desk.changed = s.desk.changed := by
  unfold takePress
  (try dsimp only)
  (repeat' split) <;> simp

@[simp] theorem takePresses_parts (l : List Press) (s : State) :
    (takePresses l s).engine.tiePointer = s.engine.tiePointer
    ∧ (takePresses l s).notices.enabled = s.notices.enabled
    ∧ (takePresses l s).board.panels = s.board.panels ∧ (takePresses l s).board.routes = s.board.routes
    ∧ (takePresses l s).board.auto = s.board.auto ∧ (takePresses l s).board.operation = s.board.operation
    ∧ (takePresses l s).desk.speed = s.desk.speed ∧ (takePresses l s).desk.setting = s.desk.setting
    ∧ (takePresses l s).desk.cycleKind = s.desk.cycleKind ∧ (takePresses l s).desk.stage = s.desk.stage
    ∧ (takePresses l s).desk.pointer = s.desk.pointer
    ∧ (takePresses l s).desk.sprintCount = s.desk.sprintCount
    ∧ (takePresses l s).desk.changed = s.desk.changed := by
  induction l generalizing s with
  | nil => simp [takePresses]
  | cons x xs ih => simp [takePresses, ih]

@[simp] theorem closeVoting_parts (cause : EndCause) (instant : ClockValue) (c : Context) (s : State) :
    (closeVoting cause instant c s).engine.tiePointer = s.engine.tiePointer
    ∧ (closeVoting cause instant c s).notices.enabled = s.notices.enabled
    ∧ (closeVoting cause instant c s).board.panels = s.board.panels
    ∧ (closeVoting cause instant c s).board.routes = s.board.routes
    ∧ (closeVoting cause instant c s).board.auto = s.board.auto
    ∧ (closeVoting cause instant c s).board.operation = s.board.operation
    ∧ (closeVoting cause instant c s).desk.speed = s.desk.speed
    ∧ (closeVoting cause instant c s).desk.setting = s.desk.setting
    ∧ (closeVoting cause instant c s).desk.cycleKind = s.desk.cycleKind
    ∧ (closeVoting cause instant c s).desk.stage = s.desk.stage
    ∧ (closeVoting cause instant c s).desk.pointer = s.desk.pointer
    ∧ (closeVoting cause instant c s).desk.sprintCount = s.desk.sprintCount
    ∧ (closeVoting cause instant c s).desk.changed = s.desk.changed := by
  unfold closeVoting
  (try dsimp only)
  (repeat' split) <;> simp

@[simp] theorem closingTest_parts (s : State) :
    (closingTest s).engine.tiePointer = s.engine.tiePointer
    ∧ (closingTest s).notices.enabled = s.notices.enabled ∧ (closingTest s).board.panels = s.board.panels
    ∧ (closingTest s).board.routes = s.board.routes ∧ (closingTest s).board.auto = s.board.auto
    ∧ (closingTest s).board.operation = s.board.operation ∧ (closingTest s).desk.speed = s.desk.speed
    ∧ (closingTest s).desk.setting = s.desk.setting ∧ (closingTest s).desk.cycleKind = s.desk.cycleKind
    ∧ (closingTest s).desk.stage = s.desk.stage ∧ (closingTest s).desk.pointer = s.desk.pointer
    ∧ (closingTest s).desk.sprintCount = s.desk.sprintCount ∧ (closingTest s).desk.changed = s.desk.changed := by
  unfold closingTest
  (try dsimp only)
  (repeat' split) <;> simp

@[simp] theorem cycleCompleted_parts (s : State) :
    (cycleCompleted s).notices.enabled = s.notices.enabled
    ∧ (cycleCompleted s).board.panels = s.board.panels ∧ (cycleCompleted s).board.routes = s.board.routes
    ∧ (cycleCompleted s).board.auto = s.board.auto ∧ (cycleCompleted s).board.operation = s.board.operation
    ∧ (cycleCompleted s).desk.speed = s.desk.speed ∧ (cycleCompleted s).desk.setting = s.desk.setting
    ∧ (cycleCompleted s).desk.cycleKind = s.desk.cycleKind ∧ (cycleCompleted s).desk.stage = s.desk.stage
    ∧ (cycleCompleted s).desk.pointer = s.desk.pointer
    ∧ (cycleCompleted s).desk.sprintCount = s.desk.sprintCount
    ∧ (cycleCompleted s).desk.changed = s.desk.changed := by
  unfold cycleCompleted
  (try dsimp only)
  (repeat' split) <;> simp

@[simp] theorem expireRound_parts (instant : ClockValue) (c : Context) (s : State) :
    (expireRound instant c s).engine.tiePointer = s.engine.tiePointer
    ∧ (expireRound instant c s).notices.enabled = s.notices.enabled
    ∧ (expireRound instant c s).board.panels = s.board.panels
    ∧ (expireRound instant c s).board.routes = s.board.routes
    ∧ (expireRound instant c s).board.auto = s.board.auto
    ∧ (expireRound instant c s).board.operation = s.board.operation
    ∧ (expireRound instant c s).desk.speed = s.desk.speed
    ∧ (expireRound instant c s).desk.setting = s.desk.setting
    ∧ (expireRound instant c s).desk.cycleKind = s.desk.cycleKind
    ∧ (expireRound instant c s).desk.stage = s.desk.stage
    ∧ (expireRound instant c s).desk.pointer = s.desk.pointer
    ∧ (expireRound instant c s).desk.sprintCount = s.desk.sprintCount
    ∧ (expireRound instant c s).desk.changed = s.desk.changed := by
  unfold expireRound
  (try dsimp only)
  (repeat' split) <;> simp

@[simp] theorem roundExpiry_parts (s : State) :
    (roundExpiry s).engine.tiePointer = s.engine.tiePointer
    ∧ (roundExpiry s).notices.enabled = s.notices.enabled ∧ (roundExpiry s).board.panels = s.board.panels
    ∧ (roundExpiry s).board.routes = s.board.routes ∧ (roundExpiry s).board.auto = s.board.auto
    ∧ (roundExpiry s).board.operation = s.board.operation ∧ (roundExpiry s).desk.speed = s.desk.speed
    ∧ (roundExpiry s).desk.setting = s.desk.setting ∧ (roundExpiry s).desk.cycleKind = s.desk.cycleKind
    ∧ (roundExpiry s).desk.stage = s.desk.stage ∧ (roundExpiry s).desk.pointer = s.desk.pointer
    ∧ (roundExpiry s).desk.sprintCount = s.desk.sprintCount ∧ (roundExpiry s).desk.changed = s.desk.changed := by
  unfold roundExpiry
  (try dsimp only)
  (repeat' split) <;> simp

@[simp] theorem silenceReached_parts (s : State) :
    (silenceReached s).engine.tiePointer = s.engine.tiePointer
    ∧ (silenceReached s).notices.enabled = s.notices.enabled
    ∧ (silenceReached s).board.panels = s.board.panels ∧ (silenceReached s).board.routes = s.board.routes
    ∧ (silenceReached s).board.auto = s.board.auto ∧ (silenceReached s).board.operation = s.board.operation := by
  unfold silenceReached
  (try dsimp only)
  (repeat' split) <;> simp

@[simp] theorem unholdActive_parts (s : State) :
    (unholdActive s).notices.enabled = s.notices.enabled ∧ (unholdActive s).board.panels = s.board.panels
    ∧ (unholdActive s).board.routes = s.board.routes ∧ (unholdActive s).board.auto = s.board.auto
    ∧ (unholdActive s).board.operation = s.board.operation ∧ (unholdActive s).desk.speed = s.desk.speed
    ∧ (unholdActive s).desk.setting = s.desk.setting ∧ (unholdActive s).desk.cycleKind = s.desk.cycleKind
    ∧ (unholdActive s).desk.stage = s.desk.stage ∧ (unholdActive s).desk.pointer = s.desk.pointer
    ∧ (unholdActive s).desk.sprintCount = s.desk.sprintCount
    ∧ (unholdActive s).desk.changed = s.desk.changed := by
  unfold unholdActive
  (try dsimp only)
  (repeat' split) <;> simp

@[simp] theorem endHold_parts (period : Nat) (s : State) :
    (endHold period s).notices.enabled = s.notices.enabled
    ∧ (endHold period s).board.panels = s.board.panels ∧ (endHold period s).board.routes = s.board.routes
    ∧ (endHold period s).board.auto = s.board.auto ∧ (endHold period s).board.operation = s.board.operation
    ∧ (endHold period s).desk.speed = s.desk.speed ∧ (endHold period s).desk.setting = s.desk.setting
    ∧ (endHold period s).desk.cycleKind = s.desk.cycleKind ∧ (endHold period s).desk.stage = s.desk.stage
    ∧ (endHold period s).desk.pointer = s.desk.pointer
    ∧ (endHold period s).desk.sprintCount = s.desk.sprintCount
    ∧ (endHold period s).desk.changed = s.desk.changed := by
  unfold endHold
  (try dsimp only)
  (repeat' split) <;> simp

@[simp] theorem validFrame_parts (s : State) :
    (validFrame s).notices.enabled = s.notices.enabled ∧ (validFrame s).board.panels = s.board.panels
    ∧ (validFrame s).board.routes = s.board.routes ∧ (validFrame s).board.auto = s.board.auto
    ∧ (validFrame s).board.operation = s.board.operation ∧ (validFrame s).desk.speed = s.desk.speed
    ∧ (validFrame s).desk.setting = s.desk.setting ∧ (validFrame s).desk.cycleKind = s.desk.cycleKind
    ∧ (validFrame s).desk.stage = s.desk.stage ∧ (validFrame s).desk.pointer = s.desk.pointer
    ∧ (validFrame s).desk.sprintCount = s.desk.sprintCount ∧ (validFrame s).desk.changed = s.desk.changed := by
  unfold validFrame
  (try dsimp only)
  (repeat' split) <;> simp

@[simp] theorem dropBenchedClaim_parts (t : TeamId) (s : State) :
    (dropBenchedClaim t s).notices.enabled = s.notices.enabled
    ∧ (dropBenchedClaim t s).board.panels = s.board.panels
    ∧ (dropBenchedClaim t s).board.routes = s.board.routes
    ∧ (dropBenchedClaim t s).board.auto = s.board.auto
    ∧ (dropBenchedClaim t s).board.operation = s.board.operation
    ∧ (dropBenchedClaim t s).desk.speed = s.desk.speed
    ∧ (dropBenchedClaim t s).desk.setting = s.desk.setting
    ∧ (dropBenchedClaim t s).desk.cycleKind = s.desk.cycleKind
    ∧ (dropBenchedClaim t s).desk.stage = s.desk.stage
    ∧ (dropBenchedClaim t s).desk.pointer = s.desk.pointer
    ∧ (dropBenchedClaim t s).desk.sprintCount = s.desk.sprintCount
    ∧ (dropBenchedClaim t s).desk.changed = s.desk.changed := by
  unfold dropBenchedClaim
  (try dsimp only)
  (repeat' split) <;> simp

@[simp] theorem changeTeam_parts (t : TeamId) (state : Option TeamState) (tag : Option (Option (List Glyph))) (s : State) :
    (changeTeam t state tag s).roster.pads = s.roster.pads
    ∧ (changeTeam t state tag s).roster.layout = s.roster.layout
    ∧ (changeTeam t state tag s).notices.enabled = s.notices.enabled
    ∧ (changeTeam t state tag s).board.panels = s.board.panels
    ∧ (changeTeam t state tag s).board.routes = s.board.routes
    ∧ (changeTeam t state tag s).board.auto = s.board.auto
    ∧ (changeTeam t state tag s).board.operation = s.board.operation
    ∧ (changeTeam t state tag s).desk.speed = s.desk.speed
    ∧ (changeTeam t state tag s).desk.setting = s.desk.setting
    ∧ (changeTeam t state tag s).desk.cycleKind = s.desk.cycleKind
    ∧ (changeTeam t state tag s).desk.stage = s.desk.stage
    ∧ (changeTeam t state tag s).desk.pointer = s.desk.pointer
    ∧ (changeTeam t state tag s).desk.sprintCount = s.desk.sprintCount
    ∧ (changeTeam t state tag s).desk.changed = s.desk.changed := by
  unfold changeTeam
  (try dsimp only)
  (repeat' split) <;> simp

@[simp] theorem playCue_parts (x : SlotId) (cue : Cue) (s : State) :
    (playCue x cue s).notices.enabled = s.notices.enabled := by
  unfold playCue
  (try dsimp only)
  (repeat' split) <;> simp

@[simp] theorem armContext_parts (x : SlotId) (cue : Cue) (s : State) :
    (armContext x cue s).engine.tiePointer = s.engine.tiePointer
    ∧ (armContext x cue s).notices.enabled = s.notices.enabled
    ∧ (armContext x cue s).board.panels = s.board.panels
    ∧ (armContext x cue s).board.routes = s.board.routes ∧ (armContext x cue s).board.auto = s.board.auto
    ∧ (armContext x cue s).board.operation = s.board.operation
    ∧ (armContext x cue s).desk.speed = s.desk.speed ∧ (armContext x cue s).desk.setting = s.desk.setting
    ∧ (armContext x cue s).desk.cycleKind = s.desk.cycleKind
    ∧ (armContext x cue s).desk.stage = s.desk.stage ∧ (armContext x cue s).desk.pointer = s.desk.pointer
    ∧ (armContext x cue s).desk.sprintCount = s.desk.sprintCount
    ∧ (armContext x cue s).desk.changed = s.desk.changed := by
  unfold armContext
  (try dsimp only)
  (repeat' split) <;> simp

@[simp] theorem confirm_parts (a : PadAddr) (c : Candidate) (s : State) :
    (confirm a c s).roster.teams = s.roster.teams ∧ (confirm a c s).roster.layout = s.roster.layout
    ∧ (confirm a c s).engine.tiePointer = s.engine.tiePointer
    ∧ (confirm a c s).notices.enabled = s.notices.enabled ∧ (confirm a c s).board.panels = s.board.panels
    ∧ (confirm a c s).board.routes = s.board.routes ∧ (confirm a c s).board.auto = s.board.auto
    ∧ (confirm a c s).board.operation = s.board.operation ∧ (confirm a c s).desk.speed = s.desk.speed
    ∧ (confirm a c s).desk.setting = s.desk.setting ∧ (confirm a c s).desk.cycleKind = s.desk.cycleKind
    ∧ (confirm a c s).desk.stage = s.desk.stage ∧ (confirm a c s).desk.pointer = s.desk.pointer
    ∧ (confirm a c s).desk.sprintCount = s.desk.sprintCount ∧ (confirm a c s).desk.changed = s.desk.changed := by
  unfold confirm
  (try dsimp only)
  (repeat' split) <;> simp

@[simp] theorem countCandidate_parts (a : PadAddr) (c : Candidate) (s : State) :
    (countCandidate a c s).roster.teams = s.roster.teams
    ∧ (countCandidate a c s).roster.layout = s.roster.layout
    ∧ (countCandidate a c s).engine.tiePointer = s.engine.tiePointer
    ∧ (countCandidate a c s).notices.enabled = s.notices.enabled
    ∧ (countCandidate a c s).board.panels = s.board.panels
    ∧ (countCandidate a c s).board.routes = s.board.routes
    ∧ (countCandidate a c s).board.auto = s.board.auto
    ∧ (countCandidate a c s).board.operation = s.board.operation
    ∧ (countCandidate a c s).desk.speed = s.desk.speed
    ∧ (countCandidate a c s).desk.setting = s.desk.setting
    ∧ (countCandidate a c s).desk.cycleKind = s.desk.cycleKind
    ∧ (countCandidate a c s).desk.stage = s.desk.stage
    ∧ (countCandidate a c s).desk.pointer = s.desk.pointer
    ∧ (countCandidate a c s).desk.sprintCount = s.desk.sprintCount
    ∧ (countCandidate a c s).desk.changed = s.desk.changed := by
  unfold countCandidate
  (try dsimp only)
  (repeat' split) <;> simp

@[simp] theorem makeCandidate_parts (a : PadAddr) (keys : Keys) (age : Byte) (s : State) :
    (makeCandidate a keys age s).roster.teams = s.roster.teams
    ∧ (makeCandidate a keys age s).roster.layout = s.roster.layout
    ∧ (makeCandidate a keys age s).engine.tiePointer = s.engine.tiePointer
    ∧ (makeCandidate a keys age s).notices.enabled = s.notices.enabled
    ∧ (makeCandidate a keys age s).board.panels = s.board.panels
    ∧ (makeCandidate a keys age s).board.routes = s.board.routes
    ∧ (makeCandidate a keys age s).board.auto = s.board.auto
    ∧ (makeCandidate a keys age s).board.operation = s.board.operation
    ∧ (makeCandidate a keys age s).desk.speed = s.desk.speed
    ∧ (makeCandidate a keys age s).desk.setting = s.desk.setting
    ∧ (makeCandidate a keys age s).desk.cycleKind = s.desk.cycleKind
    ∧ (makeCandidate a keys age s).desk.stage = s.desk.stage
    ∧ (makeCandidate a keys age s).desk.pointer = s.desk.pointer
    ∧ (makeCandidate a keys age s).desk.sprintCount = s.desk.sprintCount
    ∧ (makeCandidate a keys age s).desk.changed = s.desk.changed := by
  unfold makeCandidate
  (try dsimp only)
  (repeat' split) <;> simp

@[simp] theorem captureReply_parts (a : PadAddr) (keys : Keys) (age : Byte) (s : State) :
    (captureReply a keys age s).roster.teams = s.roster.teams
    ∧ (captureReply a keys age s).roster.layout = s.roster.layout
    ∧ (captureReply a keys age s).engine.tiePointer = s.engine.tiePointer
    ∧ (captureReply a keys age s).notices.enabled = s.notices.enabled
    ∧ (captureReply a keys age s).board.panels = s.board.panels
    ∧ (captureReply a keys age s).board.routes = s.board.routes
    ∧ (captureReply a keys age s).board.auto = s.board.auto
    ∧ (captureReply a keys age s).board.operation = s.board.operation
    ∧ (captureReply a keys age s).desk.speed = s.desk.speed
    ∧ (captureReply a keys age s).desk.setting = s.desk.setting
    ∧ (captureReply a keys age s).desk.cycleKind = s.desk.cycleKind
    ∧ (captureReply a keys age s).desk.stage = s.desk.stage
    ∧ (captureReply a keys age s).desk.pointer = s.desk.pointer
    ∧ (captureReply a keys age s).desk.sprintCount = s.desk.sprintCount
    ∧ (captureReply a keys age s).desk.changed = s.desk.changed := by
  unfold captureReply
  (try dsimp only)
  (repeat' split) <;> simp

@[simp] theorem discoverPad_parts (a : PadAddr) (s : State) :
    (discoverPad a s).roster.teams = s.roster.teams ∧ (discoverPad a s).roster.layout = s.roster.layout
    ∧ (discoverPad a s).desk.speed = s.desk.speed ∧ (discoverPad a s).desk.setting = s.desk.setting
    ∧ (discoverPad a s).desk.switch = s.desk.switch ∧ (discoverPad a s).desk.cycleKind = s.desk.cycleKind
    ∧ (discoverPad a s).desk.stage = s.desk.stage ∧ (discoverPad a s).desk.pointer = s.desk.pointer
    ∧ (discoverPad a s).desk.sprintCount = s.desk.sprintCount
    ∧ (discoverPad a s).notices.enabled = s.notices.enabled := by
  unfold discoverPad
  (try dsimp only)
  (repeat' split) <;> simp

@[simp] theorem copyStatus_parts (a : PadAddr) (batteryLow : Bool) (s : State) :
    (copyStatus a batteryLow s).roster.teams = s.roster.teams
    ∧ (copyStatus a batteryLow s).roster.layout = s.roster.layout
    ∧ (copyStatus a batteryLow s).desk.speed = s.desk.speed
    ∧ (copyStatus a batteryLow s).desk.setting = s.desk.setting
    ∧ (copyStatus a batteryLow s).desk.switch = s.desk.switch
    ∧ (copyStatus a batteryLow s).desk.cycleKind = s.desk.cycleKind
    ∧ (copyStatus a batteryLow s).desk.stage = s.desk.stage
    ∧ (copyStatus a batteryLow s).desk.pointer = s.desk.pointer
    ∧ (copyStatus a batteryLow s).desk.sprintCount = s.desk.sprintCount
    ∧ (copyStatus a batteryLow s).notices.enabled = s.notices.enabled := by
  unfold copyStatus
  (try dsimp only)
  (repeat' split) <;> simp

@[simp] theorem recordEcho_parts (a : PadAddr) (echo : LineSpeed) (s : State) :
    (recordEcho a echo s).roster.teams = s.roster.teams
    ∧ (recordEcho a echo s).roster.layout = s.roster.layout
    ∧ (recordEcho a echo s).desk.speed = s.desk.speed ∧ (recordEcho a echo s).desk.setting = s.desk.setting
    ∧ (recordEcho a echo s).desk.cycleKind = s.desk.cycleKind
    ∧ (recordEcho a echo s).desk.stage = s.desk.stage ∧ (recordEcho a echo s).desk.pointer = s.desk.pointer
    ∧ (recordEcho a echo s).desk.sprintCount = s.desk.sprintCount
    ∧ (recordEcho a echo s).notices.enabled = s.notices.enabled := by
  unfold recordEcho
  (try dsimp only)
  (repeat' split) <;> simp

@[simp] theorem handToCapture_parts (a : PadAddr) (r : PadReply) (s : State) :
    (handToCapture a r s).roster.teams = s.roster.teams
    ∧ (handToCapture a r s).roster.layout = s.roster.layout
    ∧ (handToCapture a r s).engine.tiePointer = s.engine.tiePointer
    ∧ (handToCapture a r s).notices.enabled = s.notices.enabled
    ∧ (handToCapture a r s).board.panels = s.board.panels
    ∧ (handToCapture a r s).board.routes = s.board.routes ∧ (handToCapture a r s).board.auto = s.board.auto
    ∧ (handToCapture a r s).board.operation = s.board.operation
    ∧ (handToCapture a r s).desk.speed = s.desk.speed ∧ (handToCapture a r s).desk.setting = s.desk.setting
    ∧ (handToCapture a r s).desk.cycleKind = s.desk.cycleKind
    ∧ (handToCapture a r s).desk.stage = s.desk.stage ∧ (handToCapture a r s).desk.pointer = s.desk.pointer
    ∧ (handToCapture a r s).desk.sprintCount = s.desk.sprintCount
    ∧ (handToCapture a r s).desk.changed = s.desk.changed := by
  unfold handToCapture
  (try dsimp only)
  (repeat' split) <;> simp

@[simp] theorem takeReply_parts (a : PadAddr) (r : PadReply) (s : State) :
    (takeReply a r s).roster.teams = s.roster.teams ∧ (takeReply a r s).roster.layout = s.roster.layout
    ∧ (takeReply a r s).engine.tiePointer = s.engine.tiePointer
    ∧ (takeReply a r s).notices.enabled = s.notices.enabled
    ∧ (takeReply a r s).board.panels = s.board.panels ∧ (takeReply a r s).board.routes = s.board.routes
    ∧ (takeReply a r s).board.auto = s.board.auto ∧ (takeReply a r s).board.operation = s.board.operation
    ∧ (takeReply a r s).desk.speed = s.desk.speed ∧ (takeReply a r s).desk.setting = s.desk.setting
    ∧ (takeReply a r s).desk.cycleKind = s.desk.cycleKind ∧ (takeReply a r s).desk.stage = s.desk.stage
    ∧ (takeReply a r s).desk.pointer = s.desk.pointer
    ∧ (takeReply a r s).desk.sprintCount = s.desk.sprintCount := by
  unfold takeReply
  (try dsimp only)
  (repeat' split) <;> simp

@[simp] theorem losePad_parts (a : PadAddr) (s : State) :
    (losePad a s).roster.teams = s.roster.teams ∧ (losePad a s).roster.layout = s.roster.layout
    ∧ (losePad a s).desk.speed = s.desk.speed ∧ (losePad a s).desk.setting = s.desk.setting
    ∧ (losePad a s).desk.switch = s.desk.switch ∧ (losePad a s).desk.cycleKind = s.desk.cycleKind
    ∧ (losePad a s).desk.stage = s.desk.stage ∧ (losePad a s).desk.pointer = s.desk.pointer
    ∧ (losePad a s).desk.sprintCount = s.desk.sprintCount
    ∧ (losePad a s).notices.enabled = s.notices.enabled := by
  unfold losePad
  (try dsimp only)
  (repeat' split) <;> simp

@[simp] theorem takeMiss_parts (a : PadAddr) (s : State) :
    (takeMiss a s).roster.teams = s.roster.teams ∧ (takeMiss a s).roster.layout = s.roster.layout
    ∧ (takeMiss a s).desk.speed = s.desk.speed ∧ (takeMiss a s).desk.setting = s.desk.setting
    ∧ (takeMiss a s).desk.switch = s.desk.switch ∧ (takeMiss a s).desk.cycleKind = s.desk.cycleKind
    ∧ (takeMiss a s).desk.stage = s.desk.stage ∧ (takeMiss a s).desk.pointer = s.desk.pointer
    ∧ (takeMiss a s).desk.sprintCount = s.desk.sprintCount
    ∧ (takeMiss a s).notices.enabled = s.notices.enabled := by
  unfold takeMiss
  (try dsimp only)
  (repeat' split) <;> simp

@[simp] theorem afterPoll_parts (stage : CycleStage) (s : State) :
    (afterPoll stage s).desk.speed = s.desk.speed ∧ (afterPoll stage s).desk.setting = s.desk.setting
    ∧ (afterPoll stage s).desk.switch = s.desk.switch
    ∧ (afterPoll stage s).desk.cycleKind = s.desk.cycleKind
    ∧ (afterPoll stage s).desk.sprintCount = s.desk.sprintCount
    ∧ (afterPoll stage s).desk.changed = s.desk.changed := by
  unfold afterPoll
  (try dsimp only)
  (repeat' split) <;> simp

@[simp] theorem abandonedSlotCloses_parts (s : State) :
    (abandonedSlotCloses s).desk.speed = s.desk.speed ∧ (abandonedSlotCloses s).desk.setting = s.desk.setting
    ∧ (abandonedSlotCloses s).desk.sprintCount = s.desk.sprintCount
    ∧ (abandonedSlotCloses s).desk.changed = s.desk.changed := by
  unfold abandonedSlotCloses
  split <;> simp

@[simp] theorem replyArrives_parts (r : PadReply) (s : State) :
    (replyArrives r s).roster.teams = s.roster.teams ∧ (replyArrives r s).roster.layout = s.roster.layout
    ∧ (replyArrives r s).engine.tiePointer = s.engine.tiePointer
    ∧ (replyArrives r s).notices.enabled = s.notices.enabled
    ∧ (replyArrives r s).board.panels = s.board.panels ∧ (replyArrives r s).board.routes = s.board.routes
    ∧ (replyArrives r s).board.auto = s.board.auto ∧ (replyArrives r s).board.operation = s.board.operation
    ∧ (replyArrives r s).desk.speed = s.desk.speed ∧ (replyArrives r s).desk.setting = s.desk.setting
    ∧ (replyArrives r s).desk.sprintCount = s.desk.sprintCount := by
  unfold replyArrives
  (try dsimp only)
  (repeat' split) <;> simp

@[simp] theorem pollMissed_parts (s : State) :
    (pollMissed s).roster.teams = s.roster.teams ∧ (pollMissed s).roster.layout = s.roster.layout
    ∧ (pollMissed s).desk.speed = s.desk.speed ∧ (pollMissed s).desk.setting = s.desk.setting
    ∧ (pollMissed s).desk.sprintCount = s.desk.sprintCount
    ∧ (pollMissed s).notices.enabled = s.notices.enabled := by
  unfold pollMissed
  (try dsimp only)
  (repeat' split) <;> simp

@[simp] theorem roamStart_parts (s : State) :
    (roamStart s).desk.speed = s.desk.speed ∧ (roamStart s).desk.setting = s.desk.setting
    ∧ (roamStart s).desk.sprintCount = s.desk.sprintCount ∧ (roamStart s).desk.changed = s.desk.changed := by
  unfold roamStart
  (try dsimp only)
  (repeat' split) <;> simp

@[simp] theorem sprintStart_parts (s : State) :
    (sprintStart s).desk.speed = s.desk.speed ∧ (sprintStart s).desk.setting = s.desk.setting
    ∧ (sprintStart s).desk.switch = s.desk.switch ∧ (sprintStart s).desk.sprintCount = s.desk.sprintCount
    ∧ (sprintStart s).desk.changed = s.desk.changed := by
  unfold sprintStart
  (try dsimp only)
  (repeat' split) <;> simp

@[simp] theorem sprintInUse_parts (s : State) :
    (sprintInUse s).engine.tiePointer = s.engine.tiePointer
    ∧ (sprintInUse s).notices.enabled = s.notices.enabled ∧ (sprintInUse s).board.panels = s.board.panels
    ∧ (sprintInUse s).board.routes = s.board.routes ∧ (sprintInUse s).board.auto = s.board.auto
    ∧ (sprintInUse s).board.operation = s.board.operation ∧ (sprintInUse s).desk.speed = s.desk.speed
    ∧ (sprintInUse s).desk.setting = s.desk.setting ∧ (sprintInUse s).desk.cycleKind = s.desk.cycleKind
    ∧ (sprintInUse s).desk.stage = s.desk.stage ∧ (sprintInUse s).desk.pointer = s.desk.pointer
    ∧ (sprintInUse s).desk.sprintCount = s.desk.sprintCount ∧ (sprintInUse s).desk.changed = s.desk.changed := by
  unfold sprintInUse
  (try dsimp only)
  (repeat' split) <;> simp

@[simp] theorem completeSwitch_parts (outstanding : List PadAddr) (s : State) :
    (completeSwitch outstanding s).roster.teams = s.roster.teams
    ∧ (completeSwitch outstanding s).roster.layout = s.roster.layout
    ∧ (completeSwitch outstanding s).engine.tiePointer = s.engine.tiePointer
    ∧ (completeSwitch outstanding s).notices.enabled = s.notices.enabled
    ∧ (completeSwitch outstanding s).board.panels = s.board.panels
    ∧ (completeSwitch outstanding s).board.routes = s.board.routes
    ∧ (completeSwitch outstanding s).board.auto = s.board.auto
    ∧ (completeSwitch outstanding s).board.operation = s.board.operation
    ∧ (completeSwitch outstanding s).desk.setting = s.desk.setting
    ∧ (completeSwitch outstanding s).desk.sprintCount = s.desk.sprintCount := by
  unfold completeSwitch
  (try dsimp only)
  (repeat' split) <;> simp

@[simp] theorem switchCycleEnded_parts (s : State) :
    (switchCycleEnded s).roster.teams = s.roster.teams
    ∧ (switchCycleEnded s).roster.layout = s.roster.layout
    ∧ (switchCycleEnded s).engine.tiePointer = s.engine.tiePointer
    ∧ (switchCycleEnded s).notices.enabled = s.notices.enabled
    ∧ (switchCycleEnded s).board.panels = s.board.panels
    ∧ (switchCycleEnded s).board.routes = s.board.routes ∧ (switchCycleEnded s).board.auto = s.board.auto
    ∧ (switchCycleEnded s).board.operation = s.board.operation
    ∧ (switchCycleEnded s).desk.setting = s.desk.setting
    ∧ (switchCycleEnded s).desk.sprintCount = s.desk.sprintCount := by
  unfold switchCycleEnded
  (try dsimp only)
  (repeat' split) <;> simp

@[simp] theorem returnToRoam_parts (s : State) :
    (returnToRoam s).roster.teams = s.roster.teams ∧ (returnToRoam s).roster.layout = s.roster.layout
    ∧ (returnToRoam s).desk.setting = s.desk.setting
    ∧ (returnToRoam s).desk.sprintCount = s.desk.sprintCount
    ∧ (returnToRoam s).notices.enabled = s.notices.enabled := by
  unfold returnToRoam
  (try dsimp only)
  (repeat' split) <;> simp

@[simp] theorem readNeed_parts (s : State) :
    (readNeed s).roster.teams = s.roster.teams ∧ (readNeed s).roster.layout = s.roster.layout
    ∧ (readNeed s).desk.setting = s.desk.setting ∧ (readNeed s).desk.sprintCount = s.desk.sprintCount
    ∧ (readNeed s).notices.enabled = s.notices.enabled := by
  unfold readNeed
  (try dsimp only)
  (repeat' split) <;> simp

@[simp] theorem sprintCycleEnded_parts (s : State) :
    (sprintCycleEnded s).roster.teams = s.roster.teams
    ∧ (sprintCycleEnded s).roster.layout = s.roster.layout
    ∧ (sprintCycleEnded s).notices.enabled = s.notices.enabled
    ∧ (sprintCycleEnded s).board.panels = s.board.panels
    ∧ (sprintCycleEnded s).board.routes = s.board.routes ∧ (sprintCycleEnded s).board.auto = s.board.auto
    ∧ (sprintCycleEnded s).board.operation = s.board.operation
    ∧ (sprintCycleEnded s).desk.setting = s.desk.setting := by
  unfold sprintCycleEnded
  (try dsimp only)
  (repeat' split) <;> simp

@[simp] theorem completeOperation_parts (result : BoardResult) (s : State) :
    (completeOperation result s).board.panels = s.board.panels
    ∧ (completeOperation result s).board.routes = s.board.routes
    ∧ (completeOperation result s).board.auto = s.board.auto
    ∧ (completeOperation result s).notices.enabled = s.notices.enabled := by
  unfold completeOperation
  (try dsimp only)
  (repeat' split) <;> simp

@[simp] theorem visitPanels_parts (image : List (List Cell)) (l : List PanelId) (l1 : List PanelResult) (s : State) :
    (visitPanels image l l1 s).board.panels = s.board.panels
    ∧ (visitPanels image l l1 s).board.routes = s.board.routes
    ∧ (visitPanels image l l1 s).board.auto = s.board.auto
    ∧ (visitPanels image l l1 s).notices.enabled = s.notices.enabled := by
  induction l generalizing l1 s with
  | nil => simp [visitPanels]
  | cons x xs ih =>
    unfold visitPanels
    (repeat' split) <;> simp [*]

@[simp] theorem startPublish_parts (s : State) :
    (startPublish s).board.panels = s.board.panels ∧ (startPublish s).board.routes = s.board.routes
    ∧ (startPublish s).board.auto = s.board.auto ∧ (startPublish s).notices.enabled = s.notices.enabled := by
  unfold startPublish
  (try dsimp only)
  (repeat' split) <;> simp

@[simp] theorem takeRequest_parts (s : State) :
    (takeRequest s).board.panels = s.board.panels ∧ (takeRequest s).board.routes = s.board.routes
    ∧ (takeRequest s).board.auto = s.board.auto ∧ (takeRequest s).notices.enabled = s.notices.enabled := by
  unfold takeRequest
  (try dsimp only)
  (repeat' split) <;> simp

@[simp] theorem updateAcknowledged_parts (image : List (List Cell)) (p : PanelId) (runs : List Run) (results : List PanelResult) (s : State) :
    (updateAcknowledged image p runs results s).board.routes = s.board.routes
    ∧ (updateAcknowledged image p runs results s).board.auto = s.board.auto
    ∧ (updateAcknowledged image p runs results s).notices.enabled = s.notices.enabled := by
  unfold updateAcknowledged
  (try dsimp only)
  (repeat' split) <;> simp

@[simp] theorem updateUnanswered_parts (image : List (List Cell)) (p : PanelId) (runs : List Run) (results : List PanelResult) (s : State) :
    (updateUnanswered image p runs results s).board.routes = s.board.routes
    ∧ (updateUnanswered image p runs results s).board.auto = s.board.auto
    ∧ (updateUnanswered image p runs results s).notices.enabled = s.notices.enabled := by
  unfold updateUnanswered
  (try dsimp only)
  (repeat' split) <;> simp

@[simp] theorem panelAnswers_parts (a : PanelAnswer) (s : State) :
    (panelAnswers a s).board.routes = s.board.routes ∧ (panelAnswers a s).board.auto = s.board.auto
    ∧ (panelAnswers a s).notices.enabled = s.notices.enabled := by
  unfold panelAnswers
  (try dsimp only)
  (repeat' split) <;> simp

@[simp] theorem panelSilent_parts (s : State) :
    (panelSilent s).board.routes = s.board.routes ∧ (panelSilent s).board.auto = s.board.auto
    ∧ (panelSilent s).notices.enabled = s.notices.enabled := by
  unfold panelSilent
  (try dsimp only)
  (repeat' split) <;> simp

@[simp] theorem scanNext_parts (p : PanelId) (s : State) :
    (scanNext p s).board.panels = s.board.panels ∧ (scanNext p s).board.routes = s.board.routes
    ∧ (scanNext p s).board.auto = s.board.auto ∧ (scanNext p s).notices.enabled = s.notices.enabled := by
  unfold scanNext
  (try dsimp only)
  (repeat' split) <;> simp

@[simp] theorem identifyDone_parts (p : PanelId) (cells : Option Nat) (s : State) :
    (identifyDone p cells s).board.routes = s.board.routes
    ∧ (identifyDone p cells s).board.auto = s.board.auto
    ∧ (identifyDone p cells s).notices.enabled = s.notices.enabled := by
  unfold identifyDone
  (try dsimp only)
  (repeat' split) <;> simp

@[simp] theorem identifyAnswers_parts (a : IdentifyReply) (s : State) :
    (identifyAnswers a s).board.routes = s.board.routes ∧ (identifyAnswers a s).board.auto = s.board.auto
    ∧ (identifyAnswers a s).notices.enabled = s.notices.enabled := by
  unfold identifyAnswers
  (try dsimp only)
  (repeat' split) <;> simp

@[simp] theorem identifySilent_parts (s : State) :
    (identifySilent s).board.routes = s.board.routes ∧ (identifySilent s).board.auto = s.board.auto
    ∧ (identifySilent s).notices.enabled = s.notices.enabled := by
  unfold identifySilent
  (try dsimp only)
  (repeat' split) <;> simp

@[simp] theorem countdownSecond_parts (s : State) :
    (countdownSecond s).board.panels = s.board.panels ∧ (countdownSecond s).board.routes = s.board.routes
    ∧ (countdownSecond s).board.auto = s.board.auto
    ∧ (countdownSecond s).board.operation = s.board.operation := by
  unfold countdownSecond
  (try dsimp only)
  (repeat' split) <;> simp

@[simp] theorem teamSet_parts (args : TeamSetArgs) (s : State) :
    (teamSet args s).1.roster.pads = s.roster.pads ∧ (teamSet args s).1.roster.layout = s.roster.layout
    ∧ (teamSet args s).1.notices.enabled = s.notices.enabled
    ∧ (teamSet args s).1.board.panels = s.board.panels ∧ (teamSet args s).1.board.routes = s.board.routes
    ∧ (teamSet args s).1.board.auto = s.board.auto ∧ (teamSet args s).1.board.operation = s.board.operation
    ∧ (teamSet args s).1.desk.speed = s.desk.speed ∧ (teamSet args s).1.desk.setting = s.desk.setting
    ∧ (teamSet args s).1.desk.cycleKind = s.desk.cycleKind ∧ (teamSet args s).1.desk.stage = s.desk.stage
    ∧ (teamSet args s).1.desk.pointer = s.desk.pointer
    ∧ (teamSet args s).1.desk.sprintCount = s.desk.sprintCount
    ∧ (teamSet args s).1.desk.changed = s.desk.changed := by
  unfold teamSet
  (try dsimp only)
  (repeat' split) <;> simp

@[simp] theorem padAssign_parts (args : PadAssignArgs) (s : State) :
    (padAssign args s).1.roster.teams = s.roster.teams
    ∧ (padAssign args s).1.roster.layout = s.roster.layout := by
  unfold padAssign
  simp only [assignToPlace]
  (repeat' split) <;> simp

@[simp] theorem layoutSet_parts (b : Byte) (s : State) :
    (layoutSet b s).1.roster.teams = s.roster.teams := by
  unfold layoutSet
  (try dsimp only)
  (repeat' split) <;> simp

@[simp] theorem padForget_parts (b : Byte) (s : State) :
    (padForget b s).1.roster.teams = s.roster.teams ∧ (padForget b s).1.roster.layout = s.roster.layout := by
  unfold padForget
  (try dsimp only)
  (repeat' split) <;> simp

@[simp] theorem deskSpeed_parts (b : Byte) (s : State) :
    (deskSpeed b s).1.desk.speed = s.desk.speed ∧ (deskSpeed b s).1.desk.cycleKind = s.desk.cycleKind
    ∧ (deskSpeed b s).1.desk.stage = s.desk.stage ∧ (deskSpeed b s).1.desk.pointer = s.desk.pointer
    ∧ (deskSpeed b s).1.desk.sprintCount = s.desk.sprintCount
    ∧ (deskSpeed b s).1.desk.changed = s.desk.changed := by
  unfold deskSpeed
  (try dsimp only)
  (repeat' split) <;> simp

@[simp] theorem lampSet_parts (args : LampSetArgs) (s : State) :
    (lampSet args s).1.roster.teams = s.roster.teams ∧ (lampSet args s).1.roster.layout = s.roster.layout := by
  unfold lampSet
  (try dsimp only)
  (repeat' split) <;> simp

@[simp] theorem cueLoad_parts (p : Payload CueLoadArgs) (s : State) :
    (cueLoad p s).1.cues.pointer = s.cues.pointer ∧ (cueLoad p s).1.cues.wrapped = s.cues.wrapped := by
  unfold cueLoad
  (try dsimp only)
  (repeat' split) <;> simp

@[simp] theorem cueErase_parts (t : EraseTarget) (s : State) :
    (cueErase t s).1.cues.pointer = s.cues.pointer ∧ (cueErase t s).1.cues.wrapped = s.cues.wrapped := by
  unfold cueErase
  (try dsimp only)
  (repeat' split) <;> simp

@[simp] theorem cuePoint_parts (b : Byte) (s : State) :
    (cuePoint b s).1.cues.slots = s.cues.slots ∧ (cuePoint b s).1.cues.wrapped = s.cues.wrapped := by
  unfold cuePoint
  (try dsimp only)
  (repeat' split) <;> simp

@[simp] theorem roundArm_parts (o : Option Byte) (s : State) :
    (roundArm o s).1.engine.tiePointer = s.engine.tiePointer
    ∧ (roundArm o s).1.notices.enabled = s.notices.enabled ∧ (roundArm o s).1.board.panels = s.board.panels
    ∧ (roundArm o s).1.board.routes = s.board.routes ∧ (roundArm o s).1.board.auto = s.board.auto
    ∧ (roundArm o s).1.board.operation = s.board.operation ∧ (roundArm o s).1.desk.speed = s.desk.speed
    ∧ (roundArm o s).1.desk.setting = s.desk.setting ∧ (roundArm o s).1.desk.cycleKind = s.desk.cycleKind
    ∧ (roundArm o s).1.desk.stage = s.desk.stage ∧ (roundArm o s).1.desk.pointer = s.desk.pointer
    ∧ (roundArm o s).1.desk.sprintCount = s.desk.sprintCount
    ∧ (roundArm o s).1.desk.changed = s.desk.changed := by
  unfold roundArm
  simp only [armCue, armOrdinary, armInterjection]
  (repeat' split) <;> simp

@[simp] theorem roundOpen_parts (a : NoArgs) (s : State) :
    (roundOpen a s).1.engine.tiePointer = s.engine.tiePointer
    ∧ (roundOpen a s).1.notices.enabled = s.notices.enabled
    ∧ (roundOpen a s).1.board.panels = s.board.panels ∧ (roundOpen a s).1.board.routes = s.board.routes
    ∧ (roundOpen a s).1.board.auto = s.board.auto ∧ (roundOpen a s).1.board.operation = s.board.operation
    ∧ (roundOpen a s).1.desk.speed = s.desk.speed ∧ (roundOpen a s).1.desk.setting = s.desk.setting
    ∧ (roundOpen a s).1.desk.cycleKind = s.desk.cycleKind ∧ (roundOpen a s).1.desk.stage = s.desk.stage
    ∧ (roundOpen a s).1.desk.pointer = s.desk.pointer
    ∧ (roundOpen a s).1.desk.sprintCount = s.desk.sprintCount
    ∧ (roundOpen a s).1.desk.changed = s.desk.changed := by
  unfold roundOpen
  (try dsimp only)
  (repeat' split) <;> simp

@[simp] theorem callTime_parts (a : NoArgs) (s : State) :
    (callTime a s).1.notices.enabled = s.notices.enabled ∧ (callTime a s).1.board.panels = s.board.panels
    ∧ (callTime a s).1.board.routes = s.board.routes ∧ (callTime a s).1.board.auto = s.board.auto
    ∧ (callTime a s).1.board.operation = s.board.operation ∧ (callTime a s).1.desk.speed = s.desk.speed
    ∧ (callTime a s).1.desk.setting = s.desk.setting ∧ (callTime a s).1.desk.cycleKind = s.desk.cycleKind
    ∧ (callTime a s).1.desk.stage = s.desk.stage ∧ (callTime a s).1.desk.pointer = s.desk.pointer
    ∧ (callTime a s).1.desk.sprintCount = s.desk.sprintCount
    ∧ (callTime a s).1.desk.changed = s.desk.changed ∧ (callTime a s).1.roster.pads = s.roster.pads
    ∧ (callTime a s).1.roster.layout = s.roster.layout := by
  unfold callTime
  (try dsimp only)
  (repeat' split) <;> simp

@[simp] theorem roundAbort_parts (a : NoArgs) (s : State) :
    (roundAbort a s).1.engine.tiePointer = s.engine.tiePointer
    ∧ (roundAbort a s).1.notices.enabled = s.notices.enabled
    ∧ (roundAbort a s).1.board.panels = s.board.panels ∧ (roundAbort a s).1.board.routes = s.board.routes
    ∧ (roundAbort a s).1.board.auto = s.board.auto ∧ (roundAbort a s).1.board.operation = s.board.operation
    ∧ (roundAbort a s).1.desk.speed = s.desk.speed ∧ (roundAbort a s).1.desk.setting = s.desk.setting
    ∧ (roundAbort a s).1.desk.cycleKind = s.desk.cycleKind ∧ (roundAbort a s).1.desk.stage = s.desk.stage
    ∧ (roundAbort a s).1.desk.pointer = s.desk.pointer
    ∧ (roundAbort a s).1.desk.sprintCount = s.desk.sprintCount
    ∧ (roundAbort a s).1.desk.changed = s.desk.changed := by
  unfold roundAbort
  (try dsimp only)
  (repeat' split) <;> simp

@[simp] theorem roundClear_parts (a : NoArgs) (s : State) :
    (roundClear a s).1.engine.tiePointer = s.engine.tiePointer
    ∧ (roundClear a s).1.notices.enabled = s.notices.enabled
    ∧ (roundClear a s).1.board.panels = s.board.panels ∧ (roundClear a s).1.board.routes = s.board.routes
    ∧ (roundClear a s).1.board.auto = s.board.auto ∧ (roundClear a s).1.board.operation = s.board.operation
    ∧ (roundClear a s).1.desk.speed = s.desk.speed ∧ (roundClear a s).1.desk.setting = s.desk.setting
    ∧ (roundClear a s).1.desk.cycleKind = s.desk.cycleKind ∧ (roundClear a s).1.desk.stage = s.desk.stage
    ∧ (roundClear a s).1.desk.pointer = s.desk.pointer
    ∧ (roundClear a s).1.desk.sprintCount = s.desk.sprintCount
    ∧ (roundClear a s).1.desk.changed = s.desk.changed := by
  unfold roundClear
  (try dsimp only)
  (repeat' split) <;> simp

@[simp] theorem judge_parts (p : Payload JudgeArgs) (s : State) :
    (judge p s).1.notices.enabled = s.notices.enabled ∧ (judge p s).1.board.panels = s.board.panels
    ∧ (judge p s).1.board.routes = s.board.routes ∧ (judge p s).1.board.auto = s.board.auto
    ∧ (judge p s).1.board.operation = s.board.operation ∧ (judge p s).1.desk.speed = s.desk.speed
    ∧ (judge p s).1.desk.setting = s.desk.setting ∧ (judge p s).1.desk.cycleKind = s.desk.cycleKind
    ∧ (judge p s).1.desk.stage = s.desk.stage ∧ (judge p s).1.desk.pointer = s.desk.pointer
    ∧ (judge p s).1.desk.sprintCount = s.desk.sprintCount ∧ (judge p s).1.desk.changed = s.desk.changed
    ∧ (judge p s).1.roster.pads = s.roster.pads ∧ (judge p s).1.roster.layout = s.roster.layout := by
  unfold judge
  simp only [judgeTeam, refuseJudge]
  (repeat' split) <;> simp

@[simp] theorem claimDrop_parts (b : Byte) (s : State) :
    (claimDrop b s).1.notices.enabled = s.notices.enabled ∧ (claimDrop b s).1.board.panels = s.board.panels
    ∧ (claimDrop b s).1.board.routes = s.board.routes ∧ (claimDrop b s).1.board.auto = s.board.auto
    ∧ (claimDrop b s).1.board.operation = s.board.operation ∧ (claimDrop b s).1.desk.speed = s.desk.speed
    ∧ (claimDrop b s).1.desk.setting = s.desk.setting ∧ (claimDrop b s).1.desk.cycleKind = s.desk.cycleKind
    ∧ (claimDrop b s).1.desk.stage = s.desk.stage ∧ (claimDrop b s).1.desk.pointer = s.desk.pointer
    ∧ (claimDrop b s).1.desk.sprintCount = s.desk.sprintCount
    ∧ (claimDrop b s).1.desk.changed = s.desk.changed := by
  unfold claimDrop
  (try dsimp only)
  (repeat' split) <;> simp

@[simp] theorem reveal_parts (o : Option Byte) (s : State) :
    (reveal o s).1.engine.tiePointer = s.engine.tiePointer
    ∧ (reveal o s).1.notices.enabled = s.notices.enabled ∧ (reveal o s).1.board.panels = s.board.panels
    ∧ (reveal o s).1.board.routes = s.board.routes ∧ (reveal o s).1.board.auto = s.board.auto
    ∧ (reveal o s).1.board.operation = s.board.operation ∧ (reveal o s).1.desk.speed = s.desk.speed
    ∧ (reveal o s).1.desk.setting = s.desk.setting ∧ (reveal o s).1.desk.cycleKind = s.desk.cycleKind
    ∧ (reveal o s).1.desk.stage = s.desk.stage ∧ (reveal o s).1.desk.pointer = s.desk.pointer
    ∧ (reveal o s).1.desk.sprintCount = s.desk.sprintCount ∧ (reveal o s).1.desk.changed = s.desk.changed
    ∧ (reveal o s).1.roster.pads = s.roster.pads ∧ (reveal o s).1.roster.layout = s.roster.layout := by
  unfold reveal
  simp only [revealWith, acceptReveal]
  (repeat' split) <;> simp

@[simp] theorem scoreAdjust_parts (args : ScoreAdjustArgs) (s : State) :
    (scoreAdjust args s).1.roster.pads = s.roster.pads
    ∧ (scoreAdjust args s).1.roster.layout = s.roster.layout
    ∧ (scoreAdjust args s).1.scores.lock = s.scores.lock
    ∧ (scoreAdjust args s).1.scores.pendingAwards = s.scores.pendingAwards
    ∧ (scoreAdjust args s).1.scores.lastEnd = s.scores.lastEnd
    ∧ (scoreAdjust args s).1.notices.enabled = s.notices.enabled
    ∧ (scoreAdjust args s).1.board.panels = s.board.panels
    ∧ (scoreAdjust args s).1.board.routes = s.board.routes
    ∧ (scoreAdjust args s).1.board.auto = s.board.auto
    ∧ (scoreAdjust args s).1.board.operation = s.board.operation := by
  unfold scoreAdjust
  (try dsimp only)
  (repeat' split) <;> simp

@[simp] theorem scoreLock_parts (b : Byte) (s : State) :
    (scoreLock b s).1.scores.pendingAwards = s.scores.pendingAwards
    ∧ (scoreLock b s).1.scores.changed = s.scores.changed
    ∧ (scoreLock b s).1.scores.lastEnd = s.scores.lastEnd ∧ (scoreLock b s).1.board.panels = s.board.panels
    ∧ (scoreLock b s).1.board.routes = s.board.routes ∧ (scoreLock b s).1.board.auto = s.board.auto
    ∧ (scoreLock b s).1.board.operation = s.board.operation := by
  unfold scoreLock
  (try dsimp only)
  (repeat' split) <;> simp

@[simp] theorem scoreUnlock_parts (a : NoArgs) (s : State) :
    (scoreUnlock a s).1.roster.pads = s.roster.pads ∧ (scoreUnlock a s).1.roster.layout = s.roster.layout
    ∧ (scoreUnlock a s).1.scores.lastEnd = s.scores.lastEnd
    ∧ (scoreUnlock a s).1.notices.enabled = s.notices.enabled
    ∧ (scoreUnlock a s).1.board.panels = s.board.panels ∧ (scoreUnlock a s).1.board.routes = s.board.routes
    ∧ (scoreUnlock a s).1.board.auto = s.board.auto
    ∧ (scoreUnlock a s).1.board.operation = s.board.operation := by
  unfold scoreUnlock
  (try dsimp only)
  (repeat' split) <;> simp

@[simp] theorem roundSuspend_parts (a : NoArgs) (s : State) :
    (roundSuspend a s).1.engine.tiePointer = s.engine.tiePointer
    ∧ (roundSuspend a s).1.notices.enabled = s.notices.enabled
    ∧ (roundSuspend a s).1.board.panels = s.board.panels
    ∧ (roundSuspend a s).1.board.routes = s.board.routes ∧ (roundSuspend a s).1.board.auto = s.board.auto
    ∧ (roundSuspend a s).1.board.operation = s.board.operation
    ∧ (roundSuspend a s).1.desk.speed = s.desk.speed ∧ (roundSuspend a s).1.desk.setting = s.desk.setting
    ∧ (roundSuspend a s).1.desk.cycleKind = s.desk.cycleKind
    ∧ (roundSuspend a s).1.desk.stage = s.desk.stage ∧ (roundSuspend a s).1.desk.pointer = s.desk.pointer
    ∧ (roundSuspend a s).1.desk.sprintCount = s.desk.sprintCount
    ∧ (roundSuspend a s).1.desk.changed = s.desk.changed := by
  unfold roundSuspend
  simp only [suspendContext]
  (repeat' split) <;> simp

@[simp] theorem roundResume_parts (a : NoArgs) (s : State) :
    (roundResume a s).1.engine.tiePointer = s.engine.tiePointer
    ∧ (roundResume a s).1.notices.enabled = s.notices.enabled
    ∧ (roundResume a s).1.board.panels = s.board.panels ∧ (roundResume a s).1.board.routes = s.board.routes
    ∧ (roundResume a s).1.board.auto = s.board.auto
    ∧ (roundResume a s).1.board.operation = s.board.operation
    ∧ (roundResume a s).1.desk.speed = s.desk.speed ∧ (roundResume a s).1.desk.setting = s.desk.setting
    ∧ (roundResume a s).1.desk.cycleKind = s.desk.cycleKind ∧ (roundResume a s).1.desk.stage = s.desk.stage
    ∧ (roundResume a s).1.desk.pointer = s.desk.pointer
    ∧ (roundResume a s).1.desk.sprintCount = s.desk.sprintCount
    ∧ (roundResume a s).1.desk.changed = s.desk.changed := by
  unfold roundResume
  simp only [resumeContext]
  (repeat' split) <;> simp

@[simp] theorem boardScan_parts (a : NoArgs) (s : State) :
    (boardScan a s).1.board.panels = s.board.panels ∧ (boardScan a s).1.board.routes = s.board.routes
    ∧ (boardScan a s).1.board.auto = s.board.auto ∧ (boardScan a s).1.board.request = s.board.request := by
  unfold boardScan
  (try dsimp only)
  (repeat' split) <;> simp

@[simp] theorem boardPublish_parts (a : NoArgs) (s : State) :
    (boardPublish a s).1.board.panels = s.board.panels ∧ (boardPublish a s).1.board.routes = s.board.routes
    ∧ (boardPublish a s).1.board.auto = s.board.auto
    ∧ (boardPublish a s).1.board.operation = s.board.operation := by
  unfold boardPublish
  (try dsimp only)
  (repeat' split) <;> simp

@[simp] theorem boardSet_parts (b : Bool) (s : State) :
    (boardSet b s).1.board.panels = s.board.panels ∧ (boardSet b s).1.board.routes = s.board.routes
    ∧ (boardSet b s).1.board.operation = s.board.operation := by
  unfold boardSet
  (try dsimp only)
  (repeat' split) <;> simp

@[simp] theorem routeSet_parts (args : RouteSetArgs) (s : State) :
    (routeSet args s).1.board.panels = s.board.panels ∧ (routeSet args s).1.board.auto = s.board.auto
    ∧ (routeSet args s).1.board.operation = s.board.operation
    ∧ (routeSet args s).1.board.request = s.board.request := by
  unfold routeSet
  (try dsimp only)
  (repeat' split) <;> simp

@[simp] theorem routeClear_parts (t : RouteTarget) (s : State) :
    (routeClear t s).1.board.panels = s.board.panels ∧ (routeClear t s).1.board.auto = s.board.auto
    ∧ (routeClear t s).1.board.operation = s.board.operation
    ∧ (routeClear t s).1.board.request = s.board.request := by
  unfold routeClear
  (try dsimp only)
  (repeat' split) <;> simp

@[simp] theorem noticeEnable_parts (args : NoticeEnableArgs) (s : State) :
    (noticeEnable args s).1.desk.speed = s.desk.speed
    ∧ (noticeEnable args s).1.desk.setting = s.desk.setting
    ∧ (noticeEnable args s).1.desk.switch = s.desk.switch
    ∧ (noticeEnable args s).1.desk.cycleKind = s.desk.cycleKind
    ∧ (noticeEnable args s).1.desk.stage = s.desk.stage
    ∧ (noticeEnable args s).1.desk.pointer = s.desk.pointer
    ∧ (noticeEnable args s).1.desk.sprintCount = s.desk.sprintCount
    ∧ (noticeEnable args s).1.scores.lock = s.scores.lock
    ∧ (noticeEnable args s).1.scores.pendingAwards = s.scores.pendingAwards
    ∧ (noticeEnable args s).1.scores.lastEnd = s.scores.lastEnd
    ∧ (noticeEnable args s).1.cues.slots = s.cues.slots
    ∧ (noticeEnable args s).1.cues.pointer = s.cues.pointer
    ∧ (noticeEnable args s).1.board.panels = s.board.panels
    ∧ (noticeEnable args s).1.board.routes = s.board.routes
    ∧ (noticeEnable args s).1.board.auto = s.board.auto
    ∧ (noticeEnable args s).1.board.operation = s.board.operation
    ∧ (noticeEnable args s).1.board.request = s.board.request := by
  unfold noticeEnable
  (try dsimp only)
  (repeat' split) <;> simp

@[simp] theorem noticeClear_parts (t : NoticeTarget) (s : State) :
    (noticeClear t s).1.notices.enabled = s.notices.enabled ∧ (noticeClear t s).1.desk.speed = s.desk.speed
    ∧ (noticeClear t s).1.desk.setting = s.desk.setting ∧ (noticeClear t s).1.desk.switch = s.desk.switch
    ∧ (noticeClear t s).1.desk.cycleKind = s.desk.cycleKind ∧ (noticeClear t s).1.desk.stage = s.desk.stage
    ∧ (noticeClear t s).1.desk.pointer = s.desk.pointer
    ∧ (noticeClear t s).1.desk.sprintCount = s.desk.sprintCount
    ∧ (noticeClear t s).1.scores.lock = s.scores.lock
    ∧ (noticeClear t s).1.scores.pendingAwards = s.scores.pendingAwards
    ∧ (noticeClear t s).1.scores.lastEnd = s.scores.lastEnd ∧ (noticeClear t s).1.cues.slots = s.cues.slots
    ∧ (noticeClear t s).1.cues.pointer = s.cues.pointer ∧ (noticeClear t s).1.board.panels = s.board.panels
    ∧ (noticeClear t s).1.board.routes = s.board.routes ∧ (noticeClear t s).1.board.auto = s.board.auto
    ∧ (noticeClear t s).1.board.operation = s.board.operation
    ∧ (noticeClear t s).1.board.request = s.board.request := by
  unfold noticeClear
  (try dsimp only)
  (repeat' split) <;> simp

end Sys2Proof.Machine
end

