-- ==== Sys2Proof/Laws/Cycles.lean ====
section
/-! SUPPORT. The course of a cycle on the desk line: what the next poll, the start of a cycle, the close of an abandoned
slot and the line at RESTART come to. -/

namespace Sys2Proof.Machine

/-- A state that differs in the stage and the discovery pointer alone sends the same polls. -/
theorem pollOf_stage_pointer (s : State) (st : CycleStage) (p : PadAddr) (a : PadAddr) :
    State.pollOf { s with desk := { s.desk with stage := st, pointer := p } } a = s.pollOf a := rfl

theorem pollOf_setStage (s : State) (st : CycleStage) (a : PadAddr) : (s.setStage st).pollOf a = s.pollOf a := rfl

/-- With no target for a probe every pad is PRESENT: the addresses counted from the pointer are all 64. -/
theorem all_present_of_probeTarget_none (s : State) (h : s.probeTarget = none) (a : PadAddr) :
    (s.pad a).presence = .present := by
  simp only [State.probeTarget, List.find?_eq_none, List.mem_map, List.mem_finRange, true_and,
    forall_exists_index, decide_eq_true_eq] at h
  exact Classical.not_not.mp (h a (a - s.desk.pointer - 1) (by grind))

/-- The target of a probe is the first address after the pointer that is not PRESENT. -/
theorem probeTarget_some (s : State) (a : PadAddr) (h : s.probeTarget = some a) :
    ∃ k : Fin 64, a = s.desk.pointer + k + 1 ∧ (s.pad a).presence ≠ .present
      ∧ ∀ j : Fin 64, j < k → (s.pad (s.desk.pointer + j + 1)).presence = .present := by
  rw [State.probeTarget, List.find?_eq_some_iff_getElem] at h
  obtain ⟨hp, i, hi, ha, hb⟩ := h
  simp only [List.length_map, List.length_finRange] at hi
  simp only [List.getElem_map, List.getElem_finRange, decide_eq_true_eq, Fin.cast_mk] at ha hp hb
  refine ⟨⟨i, hi⟩, ha.symm, hp, fun j hj => ?_⟩
  have := hb j.val hj
  simpa using this

theorem sendProbe_sent (s : State) (h : s.desk.cycleKind ≠ .sprint) : probeSent s (sendProbe s) := by
  unfold sendProbe
  split
  · contradiction
  all_goals
    split
    · rename_i hn
      exact .inl ⟨all_present_of_probeTarget_none s hn, rfl, rfl⟩
    · rename_i a ha
      obtain ⟨k, hk, hp, hb⟩ := probeTarget_some s a ha
      subst hk
      exact .inr ⟨k, hp, hb, rfl, rfl⟩

/-- The polls of the pads left go on as `pollsGoOn` says (R24, R26). -/
theorem sendNext_goesOn (rest : List PadAddr) (s : State) : pollsGoOn rest s (sendNext rest s) := by
  match rest with
  | a :: more => exact ⟨by rw [sendNext, pollOf_setStage]; rfl, rfl⟩
  | [] =>
    rw [pollsGoOn, sendNext]
    by_cases hk : s.desk.cycleKind = .sprint
    · rw [if_pos (by simp [hk])]
      simp [sendProbe, hk, State.setStage]
    · rw [if_neg (by simp [hk])]
      exact sendProbe_sent s hk

/-- A cycle of a kind is begun over the pads PRESENT now. -/
theorem startCycle_goesOn (k : CycleKind) (s : State) :
    (startCycle k s).desk.cycleKind = k ∧ pollsGoOn (s.padsWith .present) s (startCycle k s) :=
  ⟨by simp [startCycle], sendNext_goesOn (s.padsWith .present) { s with desk := { s.desk with cycleKind := k } }⟩

theorem padsWith_congr (p : PadPresence) (s t : State) (h : t.roster = s.roster) : t.padsWith p = s.padsWith p := by
  unfold State.padsWith State.pad
  rw [h]

/-- A cycle that starts as one of a kind from a state with the same roster and pointer goes on as the polls of the state
do. -/
theorem startCycle_goesOn_from (k : CycleKind) (s u : State) (hr : u.roster = s.roster)
    (hp : u.desk.pointer = s.desk.pointer) : pollsGoOn (s.padsWith .present) s (startCycle k u) := by
  have h := (startCycle_goesOn k u).2
  rw [padsWith_congr .present s u hr] at h
  unfold pollsGoOn probeSent at h ⊢
  rw [hp] at h
  exact h

/-- A ROAM-cadence cycle is begun as `roamCycleBegun` says (R24, R28, R32). -/
theorem startRoamCycle_begun (s : State) : roamCycleBegun s (startRoamCycle s) := by
  have hn : (judgeNeed s).sprintNeeded = s.sprintNeeded := by
    simp [State.sprintNeeded, State.roundNeedsSprint]
  refine ⟨?_, by simp, by simp, by simp, by simp, ?_⟩
  · unfold startRoamCycle
    simp only [hn]
    by_cases h : s.sprintNeeded = true <;> cases hs : s.desk.switch <;> cases hv : s.desk.speed <;>
      simp [judgeNeed, h, hs, hv, startCycle]
  · unfold startRoamCycle
    dsimp only
    split
    · exact startCycle_goesOn_from _ s _ (by simp) (by simp)
    · exact startCycle_goesOn_from _ s _ (by simp) (by simp)

/-- An abandoned slot that closes begins a ROAM-cadence cycle (R40). -/
theorem abandonedSlotCloses_begun (s : State) (p : Poll) (h : s.desk.stage = .draining p) :
    roamCycleBegun s (abandonedSlotCloses s) := by
  unfold abandonedSlotCloses
  rw [h]
  exact startRoamCycle_begun s

/-- The line at RESTART waits for the slot of a poll on the line (R40). -/
theorem restartLine_waits (p : Poll) (s : State) : restartLine (some p) s = s.setStage (.draining p) := rfl

/-- With no poll on the line a ROAM-cadence cycle is begun at RESTART (R40). -/
theorem restartLine_begun (s : State) : roamCycleBegun s (restartLine none s) := startRoamCycle_begun s

@[simp] theorem restartLine_frame (onLine : Option Poll) (s : State) :
    (restartLine onLine s).clock = s.clock ∧ (restartLine onLine s).roster = s.roster
    ∧ (restartLine onLine s).debounce = s.debounce ∧ (restartLine onLine s).cues = s.cues
    ∧ (restartLine onLine s).engine = s.engine ∧ (restartLine onLine s).stack = s.stack
    ∧ (restartLine onLine s).scores = s.scores ∧ (restartLine onLine s).silence = s.silence
    ∧ (restartLine onLine s).board = s.board ∧ (restartLine onLine s).notices = s.notices
    ∧ (restartLine onLine s).link = s.link ∧ (restartLine onLine s).cause = s.cause
    ∧ (restartLine onLine s).strap = s.strap ∧ (restartLine onLine s).pending = s.pending := by
  cases onLine <;> simp [restartLine]

@[simp] theorem restartLine_parts (onLine : Option Poll) (s : State) :
    (restartLine onLine s).desk.speed = s.desk.speed ∧ (restartLine onLine s).desk.setting = s.desk.setting
    ∧ (restartLine onLine s).desk.sprintCount = s.desk.sprintCount
    ∧ (restartLine onLine s).desk.changed = s.desk.changed := by
  cases onLine <;> simp [restartLine]

end Sys2Proof.Machine
end

