-- ==== Sys2Proof/Laws/PerInstr.lean ====
section
/-! SUPPORT. A law of every command as syntax: the payload a well-formed command is written as has 1 to 250
bytes, as R187 asks of a frame.  One lemma for each constructor of `Instr`. -/

namespace Sys2Proof.Laws.FrameSize

/-- The payload of the command frame this is, where it is one and its arguments fit their layout, has 1 to 250
bytes (R187). -/
def Statement (i : Instr) : Prop :=
  ∀ (c : Command) (bytes : List Byte), i.wellFormed = true → i.frameCommand = some c → c.payload = some bytes →
    1 ≤ bytes.length ∧ bytes.length ≤ 250

/-- A constructor that stands for an event has no frame. -/
theorem of_event {i : Instr} (h : i.frameCommand = none) : Statement i := by
  intro c bytes _ hf
  rw [h] at hf
  cases hf

/-- A command is lawful if every payload its arguments are written as has 1 to 250 bytes. -/
theorem of_write {α : Type} {i : Instr} {c : Command} {p : Payload α} {w : α → List Byte}
    (hf : i.frameCommand = some c) (hp : c.payload = p.write w)
    (h : ∀ a, i.wellFormed = true → p = .fits a → 1 ≤ (w a).length ∧ (w a).length ≤ 250) : Statement i := by
  intro c' bytes hw hf' hb
  rw [hf] at hf'
  cases hf'
  rw [hp] at hb
  cases p with
  | misfit => cases hb
  | fits a =>
    cases hb
    exact h a hw rfl

theorem length_writeHalf (v : Half) : (writeHalf v).length = 2 := rfl
theorem length_writeFlag (b : Bool) : (writeFlag b).length = 1 := rfl
theorem length_writeByte (b : Byte) : (writeByte b).length = 1 := rfl
theorem length_writeNone (a : NoArgs) : (writeNone a).length = 1 := rfl
theorem length_writeOptional_byte (o : Option Byte) : (writeOptional writeByte o).length = optionSize o := by
  cases o <;> rfl
theorem length_writeOptional_flag (o : Option Bool) : (writeOptional writeFlag o).length = optionSize o := by
  cases o <;> rfl
theorem length_writeOptional_bytes (o : Option (List Byte)) :
    (writeOptional writeBytes o).length = optionListSize o := by
  cases o with
  | none => rfl
  | some l => simp only [writeOptional, writeBytes, optionListSize, List.length_cons]; omega

theorem optionSize_bounds {α : Type} (o : Option α) : 1 ≤ optionSize o ∧ optionSize o ≤ 2 := by
  cases o <;> exact ⟨by simp [optionSize], by simp [optionSize]⟩

theorem length_toList (o : Option Byte) : o.toList.length + 1 = optionSize o := by cases o <;> rfl

theorem powerOnReset (strap : PinLevel) : Statement (.powerOnReset strap) := of_event rfl

theorem lineReset (strap : PinLevel) : Statement (.lineReset strap) := of_event rfl

theorem teamSet (p : Payload TeamSetArgs) : Statement (.teamSet p) :=
  of_write (w := TeamSetArgs.write) rfl rfl <|
  fun a hw hp => by
    subst hp
    have hs := optionSize_bounds a.state
    simp only [TeamSetArgs.write, List.length_cons, List.length_append, length_writeOptional_byte]
    rcases ht : a.tag with _ | t
    · simp only [writeOptional, List.length_cons, List.length_nil]; omega
    · have hw : a.fitsFrame = true := hw
      rw [TeamSetArgs.fitsFrame, ht] at hw
      have hw : 2 + optionSize a.state + optionListSize t ≤ 250 := of_decide_eq_true hw
      simp only [writeOptional, List.length_cons]
      have := length_writeOptional_bytes t
      simp only [writeOptional] at this
      omega

theorem padAssign (p : Payload PadAssignArgs) : Statement (.padAssign p) :=
  of_write (w := PadAssignArgs.write) rfl rfl <|
  fun a _ _ => by
    simp only [PadAssignArgs.write]
    cases a.target <;> simp only [List.length_cons, List.length_nil] <;> omega

theorem layoutSet (p : Payload Byte) : Statement (.layoutSet p) :=
  of_write (w := writeByte) rfl rfl <|
  fun a _ _ => by simp only [length_writeByte]; omega

theorem padForget (p : Payload Byte) : Statement (.padForget p) :=
  of_write (w := writeByte) rfl rfl <|
  fun a _ _ => by simp only [length_writeByte]; omega

theorem queryTeam (p : Payload Byte) : Statement (.queryTeam p) :=
  of_write (w := writeByte) rfl rfl <|
  fun a _ _ => by simp only [length_writeByte]; omega

theorem queryPad (p : Payload Byte) : Statement (.queryPad p) :=
  of_write (w := writeByte) rfl rfl <|
  fun a _ _ => by simp only [length_writeByte]; omega

theorem deskSpeed (p : Payload Byte) : Statement (.deskSpeed p) :=
  of_write (w := writeByte) rfl rfl <|
  fun a _ _ => by simp only [length_writeByte]; omega

theorem lampSet (p : Payload LampSetArgs) : Statement (.lampSet p) :=
  of_write (w := LampSetArgs.write) rfl rfl <|
  fun a _ _ => by
    simp only [LampSetArgs.write, List.length_append]
    cases a.pads <;> cases a.choice <;> simp only [List.length_cons, List.length_nil] <;> omega

theorem queryDesk (p : Payload NoArgs) : Statement (.queryDesk p) :=
  of_write (w := writeNone) rfl rfl <|
  fun a _ _ => by simp only [length_writeNone]; omega

theorem captureSet (p : Payload Byte) : Statement (.captureSet p) :=
  of_write (w := writeByte) rfl rfl <|
  fun a _ _ => by simp only [length_writeByte]; omega

theorem queryClock (p : Payload NoArgs) : Statement (.queryClock p) :=
  of_write (w := writeNone) rfl rfl <|
  fun a _ _ => by simp only [length_writeNone]; omega

theorem cueLoad (p : Payload CueLoadArgs) : Statement (.cueLoad p) :=
  of_write (w := CueLoadArgs.write) rfl rfl <|
  fun a hw hp => by
    subst hp
    have hw := of_decide_eq_true (show a.fitsFrame = true from hw)
    simp only [Config.maxPayload] at hw
    simp only [CueLoadArgs.write, List.length_cons, List.length_append, length_writeOptional_byte,
      length_writeOptional_flag, length_writeOptional_bytes, length_writeHalf]
    omega

theorem cueErase (p : Payload EraseTarget) : Statement (.cueErase p) :=
  of_write (w := EraseTarget.write) rfl rfl <|
  fun a _ _ => by cases a <;> simp only [EraseTarget.write, List.length_cons, List.length_nil] <;> omega

theorem cuePoint (p : Payload Byte) : Statement (.cuePoint p) :=
  of_write (w := writeByte) rfl rfl <|
  fun a _ _ => by simp only [length_writeByte]; omega

theorem queryCue (p : Payload CueQuery) : Statement (.queryCue p) :=
  of_write (w := CueQuery.write) rfl rfl <|
  fun a _ _ => by cases a <;> simp only [CueQuery.write, List.length_cons, List.length_nil] <;> omega

theorem roundArm (p : Payload (Option Byte)) : Statement (.roundArm p) :=
  of_write (w := (writeOptional writeByte)) rfl rfl <|
  fun a _ _ => by
    have h := optionSize_bounds a
    simp only [length_writeOptional_byte]
    omega

theorem roundOpen (p : Payload NoArgs) : Statement (.roundOpen p) :=
  of_write (w := writeNone) rfl rfl <|
  fun a _ _ => by simp only [length_writeNone]; omega

theorem callTime (p : Payload NoArgs) : Statement (.callTime p) :=
  of_write (w := writeNone) rfl rfl <|
  fun a _ _ => by simp only [length_writeNone]; omega

theorem roundAbort (p : Payload NoArgs) : Statement (.roundAbort p) :=
  of_write (w := writeNone) rfl rfl <|
  fun a _ _ => by simp only [length_writeNone]; omega

theorem roundClear (p : Payload NoArgs) : Statement (.roundClear p) :=
  of_write (w := writeNone) rfl rfl <|
  fun a _ _ => by simp only [length_writeNone]; omega

theorem queryRound (p : Payload NoArgs) : Statement (.queryRound p) :=
  of_write (w := writeNone) rfl rfl <|
  fun a _ _ => by simp only [length_writeNone]; omega

theorem judge (p : Payload JudgeArgs) : Statement (.judge p) :=
  of_write (w := JudgeArgs.write) rfl rfl <|
  fun a _ _ => by simp only [JudgeArgs.write, List.length_cons, List.length_nil]; omega

theorem claimDrop (p : Payload Byte) : Statement (.claimDrop p) :=
  of_write (w := writeByte) rfl rfl <|
  fun a _ _ => by simp only [length_writeByte]; omega

theorem queryQueue (p : Payload NoArgs) : Statement (.queryQueue p) :=
  of_write (w := writeNone) rfl rfl <|
  fun a _ _ => by simp only [length_writeNone]; omega

theorem reveal (p : Payload (Option Byte)) : Statement (.reveal p) :=
  of_write (w := (writeOptional writeByte)) rfl rfl <|
  fun a _ _ => by
    have h := optionSize_bounds a
    simp only [length_writeOptional_byte]
    omega

theorem queryBallot (p : Payload NoArgs) : Statement (.queryBallot p) :=
  of_write (w := writeNone) rfl rfl <|
  fun a _ _ => by simp only [length_writeNone]; omega

theorem scoreAdjust (p : Payload ScoreAdjustArgs) : Statement (.scoreAdjust p) :=
  of_write (w := ScoreAdjustArgs.write) rfl rfl <|
  fun a _ _ => by
    simp only [ScoreAdjustArgs.write]
    cases a.change <;> simp only [List.length_cons, length_writeHalf] <;> omega

theorem scoreLock (p : Payload Byte) : Statement (.scoreLock p) :=
  of_write (w := writeByte) rfl rfl <|
  fun a _ _ => by simp only [length_writeByte]; omega

theorem scoreUnlock (p : Payload NoArgs) : Statement (.scoreUnlock p) :=
  of_write (w := writeNone) rfl rfl <|
  fun a _ _ => by simp only [length_writeNone]; omega

theorem queryAwards (p : Payload NoArgs) : Statement (.queryAwards p) :=
  of_write (w := writeNone) rfl rfl <|
  fun a _ _ => by simp only [length_writeNone]; omega

theorem roundSuspend (p : Payload NoArgs) : Statement (.roundSuspend p) :=
  of_write (w := writeNone) rfl rfl <|
  fun a _ _ => by simp only [length_writeNone]; omega

theorem roundResume (p : Payload NoArgs) : Statement (.roundResume p) :=
  of_write (w := writeNone) rfl rfl <|
  fun a _ _ => by simp only [length_writeNone]; omega

theorem silenceArm (p : Payload Byte) : Statement (.silenceArm p) :=
  of_write (w := writeByte) rfl rfl <|
  fun a _ _ => by simp only [length_writeByte]; omega

theorem queryStack (p : Payload NoArgs) : Statement (.queryStack p) :=
  of_write (w := writeNone) rfl rfl <|
  fun a _ _ => by simp only [length_writeNone]; omega

theorem boardScan (p : Payload NoArgs) : Statement (.boardScan p) :=
  of_write (w := writeNone) rfl rfl <|
  fun a _ _ => by simp only [length_writeNone]; omega

theorem boardPublish (p : Payload NoArgs) : Statement (.boardPublish p) :=
  of_write (w := writeNone) rfl rfl <|
  fun a _ _ => by simp only [length_writeNone]; omega

theorem boardSet (p : Payload Bool) : Statement (.boardSet p) :=
  of_write (w := writeFlag) rfl rfl <|
  fun a _ _ => by simp only [length_writeFlag]; omega

theorem routeSet (p : Payload RouteSetArgs) : Statement (.routeSet p) :=
  of_write (w := RouteSetArgs.write) rfl rfl <|
  fun a hw hp => by
    subst hp
    have hw := of_decide_eq_true ((Bool.and_eq_true_iff.mp (show a.fitsFrame = true from hw)).2)
    simp only [Config.maxPayload] at hw
    have h1 := length_toList a.parameter
    have h2 := length_toList a.condition
    simp only [RouteSetArgs.write, List.length_cons, List.length_append, List.length_nil,
      length_writeOptional_bytes]
    omega

theorem routeClear (p : Payload RouteTarget) : Statement (.routeClear p) :=
  of_write (w := RouteTarget.write) rfl rfl <|
  fun a _ _ => by cases a <;> simp only [RouteTarget.write, List.length_cons, List.length_nil] <;> omega

theorem queryBoard (p : Payload (Option Byte)) : Statement (.queryBoard p) :=
  of_write (w := (writeOptional writeByte)) rfl rfl <|
  fun a _ _ => by
    have h := optionSize_bounds a
    simp only [length_writeOptional_byte]
    omega

theorem identify (p : Payload NoArgs) : Statement (.identify p) :=
  of_write (w := writeNone) rfl rfl <|
  fun a _ _ => by simp only [length_writeNone]; omega

theorem keepalive (p : Payload NoArgs) : Statement (.keepalive p) :=
  of_write (w := writeNone) rfl rfl <|
  fun a _ _ => by simp only [length_writeNone]; omega

theorem restart (p : Payload NoArgs) : Statement (.restart p) :=
  of_write (w := writeNone) rfl rfl <|
  fun a _ _ => by simp only [length_writeNone]; omega

theorem restartEffect : Statement .restartEffect := of_event rfl

theorem noticeEnable (p : Payload NoticeEnableArgs) : Statement (.noticeEnable p) :=
  of_write (w := NoticeEnableArgs.write) rfl rfl <|
  fun a _ _ => by
    simp only [NoticeEnableArgs.write, List.length_append, length_writeFlag]
    cases a.target <;> simp only [NoticeTarget.write, List.length_cons, List.length_nil] <;> omega

theorem noticeClear (p : Payload NoticeTarget) : Statement (.noticeClear p) :=
  of_write (w := NoticeTarget.write) rfl rfl <|
  fun a _ _ => by cases a <;> simp only [NoticeTarget.write, List.length_cons, List.length_nil] <;> omega

theorem badKindFrame (kind : Byte) : Statement (.badKindFrame kind) := of_event rfl

theorem checkReject : Statement .checkReject := of_event rfl

theorem lengthReject : Statement .lengthReject := of_event rfl

theorem truncatedReject : Statement .truncatedReject := of_event rfl

theorem replySent : Statement .replySent := of_event rfl

theorem noticeBegin : Statement .noticeBegin := of_event rfl

theorem noticeEnd : Statement .noticeEnd := of_event rfl

theorem roamCycleStart : Statement .roamCycleStart := of_event rfl

theorem sprintCycleStart : Statement .sprintCycleStart := of_event rfl

theorem pollReplyTaken (r : PadReply) : Statement (.pollReplyTaken r) := of_event rfl

theorem pollMiss : Statement .pollMiss := of_event rfl

theorem switchCycleEnd : Statement .switchCycleEnd := of_event rfl

theorem sprintCycleEnd : Statement .sprintCycleEnd := of_event rfl

theorem roundDeadlineExpiry : Statement .roundDeadlineExpiry := of_event rfl

theorem answerDeadlineExpiry : Statement .answerDeadlineExpiry := of_event rfl

theorem flashInstant : Statement .flashInstant := of_event rfl

theorem lapse : Statement .lapse := of_event rfl

theorem silenceDeadline : Statement .silenceDeadline := of_event rfl

theorem panelAck (a : PanelAnswer) : Statement (.panelAck a) := of_event rfl

theorem panelAckTimeout : Statement .panelAckTimeout := of_event rfl

theorem identifyAnswer (a : IdentifyReply) : Statement (.identifyAnswer a) := of_event rfl

theorem identifyTimeout : Statement .identifyTimeout := of_event rfl

theorem countdownSecond : Statement .countdownSecond := of_event rfl

theorem byteReceived (byte : Byte) (stopBit : Bool) : Statement (.byteReceived byte stopBit) := of_event rfl

end Sys2Proof.Laws.FrameSize
end

