-- ==== Sys2Proof/Laws/Signals.lean ====
section
/-! SUPPORT. The signals of the engine and the score unit as one equation each: which notice flag they set, what
they ask of the board unit, and how the desk line judges its need. -/

namespace Sys2Proof.Machine

/-- The board with a publish asked for by an automatic trigger (R182). -/
def Board.triggered (b : Board) : Board := if b.auto then { b with request := true } else b

@[simp] theorem triggered_auto (b : Board) : b.triggered.auto = b.auto := by
  unfold Board.triggered; split <;> rfl

@[simp] theorem triggered_twice (b : Board) : b.triggered.triggered = b.triggered := by
  unfold Board.triggered; (repeat' split) <;> simp_all

theorem autoRequest_eq (s : State) : autoRequest s = { s with board := s.board.triggered } := by
  unfold autoRequest Board.triggered; split <;> rfl

theorem setPending_eq (k : NoticeKind) (s : State) :
    setPending k s = { s with notices := s.notices.withPending [k] } := rfl

theorem withPending_append (n : NoticeUnit) (ks ls : List NoticeKind) :
    (n.withPending ks).withPending ls = n.withPending (ks ++ ls) := by
  simp [NoticeUnit.withPending]

theorem withPending_nil (n : NoticeUnit) : n.withPending [] = n := rfl

/-- The need read by the desk line is the one of its setting and the active context (R27). -/
theorem sprintNeeded_eq (s : State) : s.sprintNeeded = needFor s.desk.setting s.engine.active := rfl

theorem judgeNeed_eq (s : State) :
    judgeNeed s = { s with desk := s.desk.judged (needFor s.desk.setting s.engine.active) } := by
  unfold judgeNeed DeskLine.judged
  rw [sprintNeeded_eq]
  cases needFor s.desk.setting s.engine.active <;> cases h : s.desk.speed <;>
    cases h' : s.desk.switch <;> simp [h]

theorem signalRoundChange_eq (s : State) :
    signalRoundChange s = { s with
      notices := s.notices.withPending [.round]
      board := s.board.triggered
      desk := s.desk.judged (needFor s.desk.setting s.engine.active) } := by
  rw [signalRoundChange, judgeNeed_eq, autoRequest_eq, setPending_eq]

theorem signalQueueChange_eq (s : State) :
    signalQueueChange s = { s with
      notices := s.notices.withPending [.queue], board := s.board.triggered } := by
  rw [signalQueueChange, autoRequest_eq, setPending_eq]

/-! ### Awards -/

theorem applyOne_eq (a : Award) (s : State) :
    applyOne a s = { s with
      roster := { s.roster with teams := put s.roster.teams a.team ((s.team a.team).afterAward a) }
      scores := { s.scores with
        changed := joinScoreChanged a.team (saturates ((s.team a.team).score + a.points)) s.scores.changed }
      notices := s.notices.withPending [.score]
      board := s.board.triggered } := by
  simp only [applyOne, autoRequest_eq, setPending_eq]; rfl

theorem withPending_score_twice (n : NoticeUnit) :
    (n.withPending [.score]).withPending [.score] = n.withPending [.score] := rfl

/-- An award and the STREAK award it may bring set SCORE pending and ask for one publish (R143, R145). -/
theorem applyAward_signals (a : Award) (s : State) :
    (applyAward a s).notices = s.notices.withPending [.score] ∧ (applyAward a s).board = s.board.triggered := by
  unfold applyAward
  split <;> simp [applyOne_eq, withPending_score_twice]

/-- A list of awards applied (R150). -/
theorem applyAwards_signals (l : List Award) (s : State) :
    (applyAwards l s).notices = (if l = [] then s.notices else s.notices.withPending [.score])
      ∧ (applyAwards l s).board = (if l = [] then s.board else s.board.triggered) := by
  induction l generalizing s with
  | nil => simp [applyAwards]
  | cons a as ih =>
    have h := applyAward_signals a s
    have h' := ih (applyAward a s)
    rw [applyAwards, h'.1, h'.2, h.1, h.2]
    split <;> simp [withPending_score_twice]

/-- What an operation of the score unit does, it does whatever the link port and the silence monitor hold. -/
theorem applyAward_told (a : Award) (s : State) (l : LinkPort) (m : SilenceMonitor) :
    applyAward a { s with link := l, silence := m } = { applyAward a s with link := l, silence := m } := by
  unfold applyAward
  have : ({ s with link := l, silence := m } : State).team a.team = s.team a.team := rfl
  rw [this]
  split <;> simp only [applyOne_eq] <;> rfl

theorem applyAwards_told (as : List Award) (s : State) (l : LinkPort) (m : SilenceMonitor) :
    applyAwards as { s with link := l, silence := m } = { applyAwards as s with link := l, silence := m } := by
  induction as generalizing s with
  | nil => rfl
  | cons a as ih => rw [applyAwards, applyAward_told, ih]; rfl

theorem releaseLock_told (s : State) (l : LinkPort) (m : SilenceMonitor) :
    releaseLock { s with link := l, silence := m } = { releaseLock s with link := l, silence := m } := by
  unfold releaseLock
  have : ({ s with link := l, silence := m } : State).lockHeld = s.lockHeld := rfl
  rw [this]
  split
  · rw [applyAwards_told]; rfl
  · rfl

theorem endLock_told (s : State) (l : LinkPort) (m : SilenceMonitor) :
    endLock { s with link := l, silence := m } = { endLock s with link := l, silence := m } := by
  unfold endLock
  have : ({ s with link := l, silence := m } : State).lockHeld = s.lockHeld := rfl
  rw [this]
  split
  · rw [releaseLock_told]; simp only [autoRequest_eq]
  · rfl

theorem handOver_told (a : Award) (s : State) (l : LinkPort) (m : SilenceMonitor) :
    handOver a { s with link := l, silence := m } = { handOver a s with link := l, silence := m } := by
  unfold handOver
  cases s.scores.lock with
  | free => exact applyAward_told a s l m
  | held time snapshot =>
    simp only
    split
    · rfl
    · rw [endLock_told]
      exact applyAward_told a (noteLockEnd .full (endLock s)) l m

theorem handOverAll_told (as : List Award) (s : State) (l : LinkPort) (m : SilenceMonitor) :
    handOverAll as { s with link := l, silence := m } = { handOverAll as s with link := l, silence := m } := by
  induction as generalizing s with
  | nil => rfl
  | cons a as ih => rw [handOverAll, handOver_told, ih]; rfl

/-- Handing an award over asks the board unit for a publish at most through an automatic trigger. -/
theorem handOver_board (a : Award) (s : State) :
    (handOver a s).board = s.board ∨ (handOver a s).board = s.board.triggered := by
  unfold handOver
  cases h : s.scores.lock with
  | free => exact .inr (applyAward_signals a s).2
  | held time snapshot =>
    simp only
    split
    · exact .inl rfl
    · right
      rw [(applyAward_signals _ _).2]
      have hl : s.lockHeld = true := by simp [State.lockHeld, h]
      simp only [noteLockEnd, setPending_eq, endLock, hl, if_true, autoRequest_eq, releaseLock, freeLock]
      rw [(applyAwards_signals _ _).2]
      split <;> simp

theorem handOverAll_board (as : List Award) (s : State) :
    (handOverAll as s).board = s.board ∨ (handOverAll as s).board = s.board.triggered := by
  induction as generalizing s with
  | nil => exact .inl rfl
  | cons a as ih =>
    rw [handOverAll]
    rcases ih (handOver a s) with h | h <;> rcases handOver_board a s with h' | h' <;> rw [h, h'] <;> simp

/-- No award changes a team's state or tag. -/
theorem applyOne_state (a : Award) (s : State) (t : TeamId) :
    ((applyOne a s).team t).state = (s.team t).state ∧ ((applyOne a s).team t).tag = (s.team t).tag := by
  have h : (applyOne a s).team t
      = if a.team = t then (s.team a.team).afterAward a else s.team t := by
    simp [State.team, applyOne_eq]
  rw [h]
  by_cases e : a.team = t
  · subst e; simp [TeamRecord.afterAward]
  · simp [e]

theorem applyAward_state (a : Award) (s : State) (t : TeamId) :
    ((applyAward a s).team t).state = (s.team t).state := by
  unfold applyAward
  split
  · exact (applyOne_state a s t).1
  · rw [(applyOne_state _ _ t).1, (applyOne_state a s t).1]

theorem applyAwards_state (as : List Award) (s : State) (t : TeamId) :
    ((applyAwards as s).team t).state = (s.team t).state := by
  induction as generalizing s with
  | nil => rfl
  | cons a as ih => rw [applyAwards, ih, applyAward_state]

theorem handOver_state (a : Award) (s : State) (t : TeamId) :
    ((handOver a s).team t).state = (s.team t).state := by
  unfold handOver
  cases h : s.scores.lock with
  | free => exact applyAward_state a s t
  | held time snapshot =>
    simp only
    split
    · rfl
    · rw [applyAward_state]
      have hl : s.lockHeld = true := by simp [State.lockHeld, h]
      have e : (noteLockEnd .full (endLock s)).team t = (applyAwards s.scores.pendingAwards s).team t := by
        simp only [noteLockEnd, setPending_eq, endLock, hl, if_true, autoRequest_eq, releaseLock, freeLock]
        rfl
      rw [e, applyAwards_state]

end Sys2Proof.Machine
end

