-- ==== Sys2Proof/Laws/Told.lean ====
section
/-! SUPPORT. The state a command acts on, with the silence monitor told of its frame, reads in every report and in
every check as the state before. -/

namespace Sys2Proof.Machine

@[simp] theorem told_frame (s : State) :
    s.told.clock = s.clock ∧ s.told.roster = s.roster ∧ s.told.desk = s.desk ∧ s.told.debounce = s.debounce
    ∧ s.told.cues = s.cues ∧ s.told.engine = s.engine ∧ s.told.stack = s.stack ∧ s.told.scores = s.scores
    ∧ s.told.board = s.board ∧ s.told.notices = s.notices ∧ s.told.cause = s.cause
    ∧ s.told.strap = s.strap ∧ s.told.pending = s.pending := by
  and_intros <;> rfl

theorem told_unchanged (l : List Block) (s : State) : unchangedBut (.link :: .silence :: l) s s.told := by
  intro b hb
  cases b <;> first | rfl | exact absurd (by simp) hb

@[simp] theorem holding_told (s : State) : s.told.holding = s.holding := by
  unfold State.holding State.told
  cases s.silence <;> rfl

@[simp] theorem silenceItems_told (s : State) : silenceItems s.told.silence = silenceItems s.silence := by
  unfold State.told
  cases s.silence <;> rfl

theorem team_told (s : State) (t : TeamId) : s.told.team t = s.team t := rfl
theorem pad_told (s : State) (a : PadAddr) : s.told.pad a = s.pad a := rfl
theorem placeOf_told (s : State) (a : PadAddr) : s.told.placeOf a = s.placeOf a := rfl
theorem holder_told (s : State) : s.told.holder = s.holder := rfl
theorem eligibleFor_told (s : State) (cue : Cue) : s.told.eligibleFor cue = s.eligibleFor cue := rfl
theorem teamsRefusal_told (s : State) (cue : Cue) : teamsRefusal s.told cue = teamsRefusal s cue := rfl
theorem slotToArm_told (s : State) (o : Option Byte) : s.told.slotToArm o = s.slotToArm o := rfl
theorem settled_told (s : State) (q : Claim) : s.told.settled q = s.settled q := rfl
theorem lockHeld_told (s : State) : s.told.lockHeld = s.lockHeld := rfl
theorem atRest_told (s : State) : s.told.atRest = s.atRest := rfl

/-! ### Reports -/

theorem teamReport_told (s : State) (t : TeamId) : teamReport s.told t = teamReport s t := rfl
theorem padReport_told (s : State) (a : PadAddr) : padReport s.told a = padReport s a := rfl
theorem deskReport_told (s : State) : deskReport s.told = deskReport s := rfl
theorem slotReport_told (s : State) (x : SlotId) : slotReport s.told x = slotReport s x := rfl
theorem pageReport_told (s : State) (p : Page) : pageReport s.told p = pageReport s p := rfl
theorem roundReport_told (s : State) (c : Context) : roundReport s.told c = roundReport s c := rfl
theorem ballotReport_told (s : State) (c : Context) (f : PollFields) (b : Ballot) :
    ballotReport s.told c f b = ballotReport s c f b := rfl
theorem awardsReport_told (s : State) : awardsReport s.told = awardsReport s := rfl
theorem identifyReport_told (s : State) : identifyReport s.told = identifyReport s := rfl

theorem claimReports_told (s : State) (n : Nat) (l : List Claim) :
    claimReports s.told n l = claimReports s n l := by
  induction l generalizing n with
  | nil => rfl
  | cons q qs ih => rw [claimReports, claimReports, ih]; rfl

theorem queueReport_told (s : State) (c : Context) : queueReport s.told c = queueReport s c := by
  unfold queueReport
  rw [claimReports_told]
  rfl

theorem conditionHolds_told (s : State) (k : Condition) : s.told.conditionHolds k = s.conditionHolds k := by
  cases k <;> simp [State.conditionHolds, State.activeIn, State.lockHeld]

theorem routeReport_told (s : State) (r : RouteId × Route) : routeReport s.told r = routeReport s r := by
  unfold routeReport State.overlayHolds
  cases r.2.layer <;> simp [conditionHolds_told]

theorem boardReport_told (s : State) : boardReport s.told = boardReport s := by
  have h : routeReport s.told = routeReport s := funext (routeReport_told s)
  have h' : panelReport s.told = panelReport s := rfl
  unfold boardReport
  rw [h, h']
  rfl

end Sys2Proof.Machine
end

