-- ==== Sys2Proof/Tests/Slice0.lean ====
section
/-! SUPPORT. Tests: the well-formedness checks refuse what they should, the frames and checks are those of the
manual, single steps do what the rules say, and every hypothesis of the statements can be met. -/

-- One theorem after another: some hundred small kernel evaluations at once would each hold a thread and its stack.
set_option Elab.async false

namespace Sys2Proof.Tests
open Sys2Proof Sys2Proof.Machine

/-! ### Small states -/

/-- The state a command leaves; none of them stops. -/
def after (i : Instr) (s : State) : State :=
  match exec i s with
  | .next t => t
  | .fault f => nomatch f
  | .refused _ => s

/-- The answer at the back of the reply queue. -/
def lastAnswer (s : State) : Option Answer :=
  match s.link.queue.getLast? with
  | some (.reply r) => some r.answer
  | some (.reject _) => none
  | none => none

/-- The answer a command is given. -/
def answerOf (i : Instr) (s : State) : Option Answer := lastAnswer (after i s)

/-- The reset machine with teams 1 to 3 PRESENT. -/
def teams3 : State :=
  [0, 1, 2].foldl (fun s (t : TeamId) => s.setTeam t { s.team t with state := .present }) State.reset

def floorPart : FloorFields := { answerWindow := 10, rebound := true, expiry := .wrong }
def pollPart : PollFields := { options := 3, correct := some .b, policy := .lastStands, places := 1, placePoints := 20 }
def cueOf (part : KindPart) : Cue :=
  { question := 7, correctPoints := 100, wrongPoints := -50, roundWindow := 20, eligible := none, part := part }
def buzzCue : Cue := cueOf (.buzz floorPart 20)
def tieCue : Cue := cueOf (.tiebreak floorPart)
def pollCue : Cue := cueOf (.poll pollPart)

/-- A context of teams 1 to 3 with 20 s of round time left. -/
def ctx (cue : Cue) (phase : Phase) : Context :=
  { cue := cue, source := 0, phase := phase, held := false, eligible := [0, 1, 2], lockout := [], queue := [],
    overflow := [], ballot := none, roundRemaining := some 80000, roundDeadline := none, openInstant := none,
    answerDeadline := none, answerRemainder := none, flashInstant := none, holder := none, closeInstant := none,
    ending := none, flashing := false }

/-- A claim of a team, joined at a count of SPRINT cycles. -/
def claimOf (t : TeamId) (joined : Nat) : Claim :=
  { team := t, pad := 0, capture := 100#32, joinCycle := BitVec.ofNat 32 joined, contested := false }

/-- A ballot of teams 1 to 3 in which team 1 has chosen B. -/
def ballotOf (startCount : Option ClockValue) : Ballot :=
  { entries := [{ team := 0, vote := some ⟨.b, 90#32, 90#32⟩, changes := 0, skipped := false },
                { team := 1, vote := none, changes := 0, skipped := false },
                { team := 2, vote := none, changes := 0, skipped := false }]
    closeCause := some .expired, startCount := startCount, revealed := none, tallies := none, places := [] }

/-- A context in FLOOR: team 1 holds the floor, its answer deadline at 5. -/
def floorCtx : Context :=
  { ctx buzzCue .floor with
      queue := [claimOf 0 0], holder := some 0, answerDeadline := some 5#32, flashInstant := some 3#32 }

/-- A context in SETTLING with claims of some teams, joined at count 0. -/
def settlingCtx (ts : List TeamId) : Context := { ctx buzzCue .settling with queue := ts.map fun t => claimOf t 0 }

/-- The machine in play on a SPRINT line, the clock at 10 and the SPRINT cycle count at 3. -/
def playing (c : Context) : State :=
  { teams3 with
      clock := 10#32
      engine := { active := some c, tiePointer := 0 }
      desk := { teams3.desk with speed := .sprint, cycleKind := .sprint, sprintCount := 3#32 } }

/-- The machine on a ROAM line with an active context. -/
def onRoam (c : Context) : State := { teams3 with engine := { active := some c, tiePointer := 0 } }

/-- A queue of replies of the given length. -/
def replies (n : Nat) : List QueueEntry := List.replicate n (.reject .check)

def withLink (l : LinkPort) : State := { State.reset with link := l }

theorem ready_reset : State.reset.ready := ⟨rfl, rfl, by decide, rfl, rfl⟩
theorem ready_teams3 : teams3.ready := ⟨rfl, rfl, by decide, rfl, rfl⟩
theorem ready_playing (c : Context) : (playing c).ready := ⟨rfl, rfl, (by decide : (0 : Nat) < 4), rfl, rfl⟩
theorem ready_onRoam (c : Context) : (onRoam c).ready := ⟨rfl, rfl, (by decide : (0 : Nat) < 4), rfl, rfl⟩

/-! ### Well-formedness: one ill-formed term for each check -/

def longList (n : Nat) : List Byte := List.replicate n 0#8

def goodFields : CueFields :=
  { kind := 0#8, question := 7#16, correctPoints := 100#16, wrongPoints := BitVec.ofInt 16 (-50), roundWindow := 20#16,
    eligible := none, answerWindow := some 10#8, rebound := some true, expiryVerdict := some 0#8,
    streakBonus := some 20#8, optionCount := none, correctOption := none, changePolicy := none,
    speedPlaces := none, speedPoints := none }

def goodPoll : CueFields :=
  { goodFields with
      kind := 1#8, answerWindow := none, rebound := none, expiryVerdict := none, streakBonus := none,
      optionCount := some 3#8, correctOption := some 1#8, changePolicy := some 1#8, speedPlaces := some 1#8,
      speedPoints := some 20#8 }

def goodRoute : RouteSetArgs :=
  { route := 0#8, source := 0#8, parameter := some 1#8, panel := 0#8, firstCell := 0#8, width := 5#8, align := 1#8,
    fill := 0#8, look := 0#8, layer := 0#8, condition := none, text := none }

theorem test_wellFormed_teamSet_fits : Instr.wellFormed (.teamSet (.fits ⟨1#8, some 1#8, some (some (longList 244))⟩)) = true := by
  decide +kernel
theorem test_illFormed_teamSet_long :
    Instr.wellFormed (.teamSet (.fits ⟨1#8, some 1#8, some (some (longList 245))⟩)) = false := by decide +kernel
theorem test_wellFormed_cueLoad : Instr.wellFormed (.cueLoad (.fits ⟨0#8, goodFields⟩)) = true := by decide +kernel
theorem test_illFormed_cueLoad_long :
    Instr.wellFormed (.cueLoad (.fits ⟨0#8, { goodFields with eligible := some (longList 226) }⟩)) = false := by
  decide +kernel
theorem test_wellFormed_routeSet : Instr.wellFormed (.routeSet (.fits goodRoute)) = true := by decide +kernel
theorem test_illFormed_routeSet_parameter :
    Instr.wellFormed (.routeSet (.fits { goodRoute with parameter := none })) = false := by decide +kernel
theorem test_illFormed_routeSet_condition :
    Instr.wellFormed (.routeSet (.fits { goodRoute with condition := some 0#8 })) = false := by decide +kernel
theorem test_illFormed_routeSet_long :
    Instr.wellFormed (.routeSet (.fits { goodRoute with text := some (longList 240) })) = false := by decide +kernel
theorem test_illFormed_badKindFrame : Instr.wellFormed (.badKindFrame 0x2D#8) = false := by decide +kernel
theorem test_wellFormed_badKindFrame : Instr.wellFormed (.badKindFrame 0x2E#8) = true := by decide +kernel
theorem test_illFormed_padReply_address :
    Instr.wellFormed (.pollReplyTaken ⟨64#8, noKeys, .roam, false, none, true⟩) = false := by decide +kernel
theorem test_illFormed_padReply_age :
    Instr.wellFormed (.pollReplyTaken ⟨1#8, noKeys, .roam, false, some 0#8, true⟩) = false := by decide +kernel
theorem test_illFormed_padReply_noAge :
    Instr.wellFormed (.pollReplyTaken ⟨1#8, noKeys, .sprint, false, none, true⟩) = false := by decide +kernel

/-! ### The frames (R187, R188, R190) -/

/-- The check of R187 over the digits 1 to 9, the usual check value of this polynomial and initial value. -/
theorem test_crc_of_digits :
    crc16 [0x31#8, 0x32#8, 0x33#8, 0x34#8, 0x35#8, 0x36#8, 0x37#8, 0x38#8, 0x39#8] = 0x29B1#16 := by decide +kernel
theorem test_frame_of_keepalive : frameBytes 0x2A#8 [0#8] = [0xA5#8, 0x01#8, 0x2A#8, 0x00#8, 0x12#8, 0x81#8] := by
  decide +kernel
theorem test_decode_teamSet :
    decodeFrame 0x01#8 [3#8, 1#8, 1#8, 1#8, 1#8, 2#8, 10#8, 11#8]
      = .command (.teamSet (.fits ⟨3#8, some 1#8, some (some [10#8, 11#8])⟩)) := by decide +kernel
theorem test_decode_teamSet_misfit : decodeFrame 0x01#8 [3#8, 1#8, 1#8] = .command (.teamSet .misfit) := by
  decide +kernel
theorem test_decode_padAssign_release : decodeFrame 0x02#8 [63#8, 1#8] = .command (.padAssign (.fits ⟨63#8, .release⟩)) := by
  decide +kernel
theorem test_decode_scoreAdjust_set :
    decodeFrame 0x1B#8 [16#8, 1#8, 0xFF#8, 0x9C#8] = .command (.scoreAdjust (.fits ⟨16#8, .set 0xFF9C#16⟩)) := by
  decide +kernel
theorem test_decode_routeSet_overlay :
    decodeFrame 0x26#8 [31#8, 11#8, 3#8, 0#8, 2#8, 0#8, 0#8, 1#8, 1#8, 2#8, 1#8, 2#8, 5#8, 6#8]
      = .command (.routeSet (.fits ⟨31#8, 11#8, none, 3#8, 0#8, 2#8, 0#8, 0#8, 1#8, 1#8, some 2#8, some [5#8, 6#8]⟩)) := by
  decide +kernel
theorem test_decode_badKind : decodeFrame 0x2E#8 [0#8] = .badKind 0x2E#8 := by decide +kernel
theorem test_reply_frame :
    (QueueEntry.reply { kind := 0x0E#8, answer := ok [.slot 0, .slot 17, .name 1] }).frames
      = [frameBytes 0x80#8 [0x0E#8, 0#8, 0#8, 0#8, 0#8, 0x11#8, 1#8]] := by decide +kernel

/-! ### Single steps -/

theorem test_reset_clock : (after (.powerOnReset .high) (playing floorCtx)).link.rate = .fast := by decide +kernel
theorem test_lineReset_cause : (after (.lineReset .low) (playing floorCtx)).cause = .line := by decide +kernel
theorem test_teamSet : let t := after (.teamSet (.fits ⟨16#8, some 2#8, some (some [10#8, 47#8])⟩)) State.reset
    t.team 15 = { TeamRecord.reset with state := .benched, tag := some [10, 47] }
      ∧ lastAnswer t = some (ok [.name 2, .presence true, .count 2, .u8 10, .u8 47]) := by decide +kernel
theorem test_teamSet_floor_held : answerOf (.teamSet (.fits ⟨1#8, some 2#8, none⟩)) (playing floorCtx)
    = some (refuse .floorHeld) := by decide +kernel
/-- Under GRID16 pad 1 has seat 2 of team 1. -/
theorem test_padAssign_seat_taken : answerOf (.padAssign (.fits ⟨63#8, .place 1#8 2#8⟩)) State.reset
    = some (refuse .seatTaken) := by decide +kernel
theorem test_padAssign : let t := after (.padAssign (.fits ⟨63#8, .place 1#8 5#8⟩)) State.reset
    t.placeOf 63 = some ⟨0, 4⟩
      ∧ lastAnswer t = some (ok [.presence true, .u8 16, .u8 4, .u8 1, .u8 5]) := by decide +kernel
/-- R10: under SPLIT address 31 is seat 4 of team 8, address 32 seat 1 of team 9. -/
theorem test_layoutSet : let t := after (.layoutSet (.fits 2#8)) State.reset
    t.placeOf 31 = some ⟨7, 3⟩ ∧ t.placeOf 32 = some ⟨8, 0⟩ := by decide +kernel
theorem test_layoutSet_in_round : answerOf (.layoutSet (.fits 1#8)) (playing floorCtx) = some (refuse .wrongState) := by
  decide +kernel
theorem test_padForget_absent : answerOf (.padForget (.fits 5#8)) State.reset = some (refuse .wrongState) := by
  decide +kernel
theorem test_queryPad_range : answerOf (.queryPad (.fits 64#8)) State.reset = some (refuse .badValue) := by
  decide +kernel
theorem test_deskSpeed : let t := after (.deskSpeed (.fits 1#8)) State.reset
    t.desk.switch = some ⟨0, []⟩ ∧ lastAnswer t = some (ok [.name 1, .name 0, .flag true]) := by decide +kernel
theorem test_lampSet_all : answerOf (.lampSet (.fits ⟨.all, .clear⟩)) State.reset = some (ok [.u8 0]) := by
  decide +kernel
theorem test_captureSet_settling : answerOf (.captureSet (.fits 3#8)) (playing (settlingCtx [0]))
    = some (refuse .wrongState) := by decide +kernel
theorem test_captureSet_range : answerOf (.captureSet (.fits 5#8)) State.reset = some (refuse .badValue) := by
  decide +kernel
theorem test_cueLoad : let t := after (.cueLoad (.fits ⟨0x11#8, goodFields⟩)) State.reset
    t.cueSlot 17 = .loaded buzzCue ∧ lastAnswer t = some (ok [.name 0, .presence false]) := by decide +kernel
theorem test_cueErase_page : let t := after (.cueErase (.fits (.page 1#8))) (after (.cueLoad (.fits ⟨0x11#8, goodFields⟩)) State.reset)
    t.cueSlot 17 = .empty ∧ lastAnswer t = some (ok [.u8 1]) := by decide +kernel
theorem test_cuePoint : (after (.cuePoint (.fits 0x3F#8)) State.reset).cues.pointer = 63 := by decide +kernel
theorem test_roundArm_empty : answerOf (.roundArm (.fits none)) teams3 = some ⟨.refused .emptyCue, [.slot 0]⟩ := by
  decide +kernel
theorem test_roundOpen : let t := after (.roundOpen (.fits .none)) (playing (ctx buzzCue .armed))
    t.engine.active = some { ctx buzzCue .opened with openInstant := some 10#32, roundDeadline := some 80010#32 } := by
  decide +kernel
theorem test_roundOpen_roam : (after (.roundOpen (.fits .none)) (onRoam (ctx buzzCue .armed))).engine.active
    = some (ctx buzzCue .opening) := by decide +kernel
theorem test_callTime_armed : answerOf (.callTime (.fits .none)) (playing (ctx buzzCue .armed))
    = some (refuse .notTimed) := by decide +kernel
theorem test_roundAbort : ((after (.roundAbort (.fits .none)) (playing floorCtx)).engine.active.bind Context.ending)
    = some ⟨.aborted, .aborted⟩ := by decide +kernel
theorem test_judge_correct : let t := after (.judge (.fits ⟨1#8, 0#8⟩)) (playing floorCtx)
    (t.team 0).score = 100 ∧ (t.team 0).correct = 1 ∧ (t.team 0).streak = 1
      ∧ (t.engine.active.bind Context.ending) = some ⟨.won 0, .judged⟩ := by decide +kernel
theorem test_judge_wrong : let t := after (.judge (.fits ⟨1#8, 1#8⟩)) (playing floorCtx)
    (t.team 0).score = -50 ∧ t.engine.active.map Context.phase = some .opened
      ∧ t.engine.active.map Context.lockout = some [0] := by decide +kernel
theorem test_claimDrop_held : answerOf (.claimDrop (.fits 1#8)) (playing floorCtx) = some (refuse .floorHeld) := by
  decide +kernel
theorem test_reveal : let t := after (.reveal (.fits none)) (playing { ctx pollCue .closed with
      ballot := some (ballotOf (some 0#32)), ending := some ⟨.timeUp, .expired⟩ })
    (t.team 0).score = 120 ∧ (t.team 1).score = 0 ∧ t.engine.active.map Context.phase = some .revealed := by
  decide +kernel
theorem test_scoreAdjust_saturates :
    let s := State.reset.setTeam 0 { TeamRecord.reset with score := 1 }
    let t := after (.scoreAdjust (.fits ⟨1#8, .delta 9999#16⟩)) s
    (t.team 0).score = 9999 ∧ lastAnswer t = some (ok [.i16 1, .i16 9999, .i16 9999, .flag true]) := by decide +kernel
theorem test_scoreLock : answerOf (.scoreLock (.fits 60#8)) (playing floorCtx) = some (ok [.clock 240010#32]) := by
  decide +kernel
theorem test_scoreUnlock_free : answerOf (.scoreUnlock (.fits .none)) State.reset = some (refuse .notHeld) := by
  decide +kernel
theorem test_roundSuspend_floor : answerOf (.roundSuspend (.fits .none)) (playing floorCtx)
    = some (refuse .floorHeld) := by decide +kernel
theorem test_roundResume_empty : answerOf (.roundResume (.fits .none)) State.reset = some (refuse .stackEmpty) := by
  decide +kernel
theorem test_silenceArm : (after (.silenceArm (.fits 2#8)) State.reset).silence = .watching 2 0#32 8000#32 := by
  decide +kernel
theorem test_boardScan_busy : answerOf (.boardScan (.fits .none)) State.reset = some ⟨.retry, []⟩ := by decide +kernel
theorem test_routeSet_range : answerOf (.routeSet (.fits { goodRoute with firstCell := 28#8 })) State.reset
    = some (refuse .range) := by decide +kernel
theorem test_routeSet_overlap : answerOf (.routeSet (.fits { goodRoute with route := 1#8, firstCell := 4#8 }))
    (after (.routeSet (.fits goodRoute)) State.reset) = some (refuse .overlap) := by decide +kernel
theorem test_noticeEnable_range : answerOf (.noticeEnable (.fits ⟨.kind 0x90#8, true⟩)) State.reset
    = some (refuse .badValue) := by decide +kernel
theorem test_misfit : answerOf (.judge .misfit) State.reset = some ⟨.refused .badValue, [.presence false]⟩ := by
  decide +kernel
theorem test_noticeBegin_at_reset : (after .noticeBegin State.reset).link.transmitter
    = .notice ⟨.link, noticeContent .link State.reset⟩ := by decide +kernel
theorem test_roamCycleStart : (after .roamCycleStart State.reset).desk.stage = .probing ⟨1, .roam, .off⟩ := by
  decide +kernel
theorem test_flash : (after .flashInstant (playing floorCtx)).engine.active.map Context.flashing = some true := by
  decide +kernel
theorem test_settle_grants : let t := after .sprintCycleEnd { playing (settlingCtx [1, 2]) with
      desk := { (playing floorCtx).desk with stage := .finished } }
    t.engine.active.bind Context.holder = some 1 ∧ t.engine.tiePointer = 2 ∧ t.desk.sprintCount = 4#32 := by
  decide +kernel
theorem test_identify_finds : (after (.identifyAnswer ⟨0#8, 8#8, true⟩) State.reset).panel 0
    = { presence := .present, cells := some 8, shown := none } := by decide +kernel
/-- R40: RESTART on a line at rest starts a ROAM cycle, whose probe goes to the address after the kept pointer. -/
theorem test_restart_starts_a_cycle :
    (after .restartEffect { State.reset with link := { State.reset.link with restarting := true } }).desk.stage
      = .probing ⟨1, .roam, .off⟩ := by decide +kernel
/-- Log 35: a scan that completes with auto-publish ON leaves a publish, and BOARD_SCAN is then answered RETRY. -/
theorem test_scan_after_scan :
    let s := after (.identifyAnswer ⟨3#8, 8#8, true⟩)
      { State.reset with board := { Board.reset with operation := .scan 3, auto := true } }
    (∃ image p runs results, s.board.operation = .publish image p runs results)
      ∧ answerOf (.boardScan (.fits .none)) s = some ⟨.retry, []⟩ :=
  ⟨⟨_, _, _, _, rfl⟩, by decide +kernel⟩
/-- R186: an answer that is none of the panel addressed changes nothing. -/
theorem test_late_ack : let s := { State.reset with board := { Board.reset with
      operation := .publish [] 3 [⟨0, []⟩] [] } }
    after (.panelAck ⟨2#8, true⟩) s = s := by decide +kernel
theorem test_idle_ticks : step State.reset = .next { State.reset with clock := 1#32 } := rfl

/-! ### Every hypothesis of the statements can be met

One theorem for each statement: for each of its clauses, a state and operands that meet the clause's hypotheses
together, at the ends of the ranges they name. -/

/-- The machine with a command waiting. -/
def waiting (i : Instr) : State := { State.reset with pending := [i] }

theorem witness_StepRunsFrontCommand : ∃ s c rest, State.pending s = c :: rest := ⟨waiting .lapse, _, _, rfl⟩
theorem witness_IdleStepTicks : State.reset.pending = [] := rfl

/-- RESTART executed, its reply alone in the queue. -/
def restarting (queued : Nat) (tr : Transmitter) : State :=
  withLink { State.reset.link with queue := replies queued, transmitter := tr, restarting := true }

/-- RESTART executed, with the line at a stage of a cycle and the lock as given. -/
def restartingAt (stage : CycleStage) (lock : AwardLock) : State :=
  let s := restarting 1 .entry
  { s with desk := { s.desk with stage := stage }, scores := { s.scores with lock := lock } }

theorem witness_RestartWaitsThenTakesEffect :
    (let s := restarting 1 .entry;
      s.noRequest ∧ s.link.restarting = true ∧ s.link.queue.length = 1 ∧ ∀ n, s.link.transmitter ≠ .notice n)
    ∧ (restarting 2 .entry).noRequest ∧ (restarting 2 .entry).link.queue.length = 2
    ∧ (∃ n, (restarting 0 (.notice ⟨.link, []⟩)).link.transmitter = .notice n)
    ∧ State.reset.noRequest ∧ State.reset.link.restarting = false ∧ State.reset.ready
    ∧ (restartingAt .finished .free).desk.stage.pollOnLine = none
    ∧ (∃ p, (restartingAt (.polling ⟨5, .roam, .off⟩ []) .free).desk.stage.pollOnLine = some p)
    ∧ (∃ p, (restartingAt (.draining ⟨5, .roam, .off⟩) .free).desk.stage.pollOnLine = some p)
    ∧ (restartingAt .atStart .free).lockHeld = false
    ∧ (restartingAt .atStart (.held 9#32 (Vector.replicate 16 0))).lockHeld = true :=
  ⟨⟨rfl, rfl, rfl, (fun _ h => nomatch h)⟩, rfl, rfl, ⟨_, rfl⟩, rfl, rfl, ready_reset, rfl, ⟨_, rfl⟩, ⟨_, rfl⟩, rfl,
    rfl⟩

theorem witness_EveryFrameIsAnswered :
    (∃ c, Instr.frameCommand (.keepalive (.fits .none)) = some c) ∧ State.reset.ready
      ∧ (∃ c, Instr.frameCommand (.judge .misfit) = some c ∧ c.payload = none) :=
  ⟨⟨_, rfl⟩, ready_reset, _, rfl, rfl⟩

/-- A link port with a full queue, and an item held or none. -/
def fullQueue (held : Option HeldItem) : State :=
  withLink { State.reset.link with queue := replies 4, transmitter := .entry, held := held }

/-- A link port with a full queue in the middle of a frame. -/
def truncating (held : Option HeldItem) (restarts : Bool) : State :=
  withLink { State.reset.link with
    queue := replies 4, transmitter := .entry, held := held, restarting := restarts, assembler := .inFrame [1#8] false }

theorem witness_FullQueueHoldsThenOverruns :
    (∃ x, arriving (.keepalive (.fits .none)) = some x) ∧ (∃ x, arriving .checkReject = some x)
      ∧ (restarting 1 .entry).noRequest ∧ (restarting 1 .entry).link.restarting = true
      ∧ (let s := fullQueue (some (.rejection .check));
          s.noRequest ∧ s.link.restarting = false ∧ s.link.held.isSome = true)
      ∧ (let s := fullQueue none;
          s.noRequest ∧ s.link.restarting = false ∧ s.link.held = none ∧ 4 ≤ s.link.queue.length) :=
  ⟨⟨_, rfl⟩, ⟨_, rfl⟩, rfl, rfl, ⟨rfl, rfl, rfl⟩, rfl, rfl, rfl, by decide⟩

/-- A truncated frame meets a queue that is full, an item held and a RESTART waiting. -/
theorem witness_FullQueueHoldsThenOverruns_truncated :
    (∀ held restarts, let s := truncating held restarts
      s.noRequest ∧ s.link.assembler ≠ .hunting ∧ 4 ≤ s.link.queue.length ∧ s.link.held = held
        ∧ s.link.restarting = restarts) :=
  fun _ _ => ⟨rfl, (fun h => nomatch h), (by decide : 4 ≤ 4), rfl, rfl⟩

/-- A link port in the middle of a frame, with three entries queued. -/
def midFrame (bytes : List Byte) : State :=
  withLink { State.reset.link with queue := replies 3, transmitter := .entry, assembler := .inFrame bytes false }

theorem witness_RejectionsJoinTheQueue :
    (let s := midFrame [1#8];
      s.noRequest ∧ s.link.restarting = false ∧ s.link.held = none ∧ s.link.queue.length = 3
        ∧ s.link.assembler = .inFrame [1#8] false)
      ∧ State.reset.noRequest ∧ State.reset.link.assembler = .hunting :=
  ⟨⟨rfl, rfl, rfl, rfl, rfl⟩, rfl, rfl⟩

theorem witness_BytesAreAssembled :
    (State.reset.noRequest ∧ State.reset.link.assembler = .hunting ∧ (0xA4#8 : Byte) ≠ 0xA5#8)
      ∧ (midFrame []).link.assembler = .inFrame [] false ∧ (0#8 : Byte).toNat = 0 ∧ 250 < (251#8 : Byte).toNat
      ∧ (∃ n rest, ([] : List Byte) ++ [250#8] = n :: rest ∧ n.toNat ≤ 250 ∧ rest.length < n.toNat + 3)
      ∧ (∃ n rest, ([1#8, 0x2A#8, 0#8, 0#8] : List Byte) ++ [0#8] = n :: rest ∧ 1 ≤ n.toNat
          ∧ rest.length = n.toNat + 3
          ∧ rest.drop (n.toNat + 1) ≠ [highByte (crc16 (n :: rest.take (n.toNat + 1))),
              lowByte (crc16 (n :: rest.take (n.toNat + 1)))]) :=
  ⟨⟨rfl, rfl, by decide⟩, rfl, rfl, by decide, ⟨_, _, rfl, by decide, by decide⟩,
    _, _, rfl, by decide, by decide, by decide +kernel⟩

theorem witness_BytesAreAssembled_complete :
    ∃ n rest kind body, ([1#8, 0x2A#8, 0#8, 0x12#8] : List Byte) ++ [0x81#8] = n :: rest ∧ rest.length = n.toNat + 3
      ∧ rest.take (n.toNat + 1) = kind :: body
      ∧ rest.drop (n.toNat + 1) = [highByte (crc16 (n :: kind :: body)), lowByte (crc16 (n :: kind :: body))]
      ∧ decodeFrame kind body = .command (.keepalive (.fits .none)) :=
  ⟨_, _, _, _, rfl, rfl, rfl, by decide +kernel, by decide +kernel⟩

theorem witness_FrameBytesRunTheCommand :
    ∃ i c payload, Instr.wellFormed i = true ∧ i.frameCommand = some c ∧ c.payload = some payload
      ∧ payload.length = 250 ∧ State.reset.link.assembler = .hunting ∧ State.reset.noRequest :=
  ⟨.teamSet (.fits ⟨1#8, some 1#8, some (some (longList 244))⟩), _, _, by decide +kernel, rfl, rfl,
    by decide +kernel, rfl, rfl⟩

theorem witness_DecodeOfEncodeIsTheCommand :
    ∃ i c payload, Instr.wellFormed i = true ∧ i.frameCommand = some c ∧ c.payload = some payload
      ∧ payload.length = 1 :=
  ⟨.keepalive (.fits .none), _, _, rfl, rfl, rfl, rfl⟩

/-- A link port sending the front of a queue, with an item held or none. -/
def sending (n : Nat) (held : Option HeldItem) : State :=
  withLink { State.reset.link with queue := replies n, transmitter := .entry, held := held }

theorem witness_SentEntryLeavesTheQueue :
    (∃ e rest, (sending 1 none).link.queue = e :: rest ∧ (sending 1 none).link.transmitter = .entry
        ∧ (sending 1 none).noRequest)
      ∧ (∃ e rest, (sending 4 (some (.rejection .length))).link.queue = e :: rest
        ∧ 4 ≤ (sending 4 (some (.rejection .length))).link.queue.length)
      ∧ (∃ i c, Instr.frameCommand i = some c ∧ (let s := sending 4 (some (.frame (.command c)));
          s.link.queue.length = 4 ∧ s.link.held = some (.frame (.command c)) ∧ s.link.restarting = false
            ∧ s.link.assembler = .hunting))
      ∧ (∃ i c, Instr.frameCommand i = some c ∧ (let s := truncating (some (.frame (.command c))) false;
          s.link.queue.length = 4 ∧ s.link.transmitter = .entry ∧ s.link.held = some (.frame (.command c))
            ∧ s.link.assembler ≠ .hunting))
      ∧ (∃ e rest, let s := sending 4 (some (.frame (.badKind 0x2E#8)));
          s.link.queue = e :: rest ∧ 4 ≤ s.link.queue.length ∧ s.link.held = some (.frame (.badKind 0x2E#8)))
      ∧ State.reset.link.transmitter ≠ .entry :=
  ⟨⟨_, _, rfl, rfl, rfl⟩, ⟨_, _, rfl, by decide⟩,
    ⟨.keepalive (.fits .none), _, rfl, rfl, rfl, rfl, rfl⟩,
    ⟨.keepalive (.fits .none), _, rfl, rfl, rfl, rfl, (fun h => nomatch h)⟩, ⟨_, _, rfl, by decide, rfl⟩,
    (fun h => nomatch h)⟩

/-- A notice waits on a free link. -/
def noticing (k : NoticeKind) : State :=
  { State.reset with notices := { State.reset.notices with waiting := NoticeFlags.none.put k true } }

theorem witness_NoticesBeginAndEnd :
    (let s := noticing .hold;
      s.noRequest ∧ s.notices.eligible .hold = true
        ∧ (∀ j : NoticeKind, j.code.toNat < NoticeKind.hold.code.toNat → s.notices.eligible j = false)
        ∧ s.link.queue = [] ∧ s.link.held = none ∧ s.link.transmitter = .idle ∧ s.link.restarting = false)
      ∧ (let s := noticing .link;
          s.notices.eligible .link = true
            ∧ ∀ j : NoticeKind, j.code.toNat < NoticeKind.link.code.toNat → s.notices.eligible j = false)
      ∧ (∀ k, (noticing .queue).notices.eligible k = false) ∧ (sending 1 none).link.queue ≠ []
      ∧ (∃ n, (restarting 0 (.notice ⟨.link, []⟩)).link.transmitter = .notice n)
      ∧ ∀ n, State.reset.link.transmitter ≠ .notice n :=
  ⟨⟨rfl, rfl, by intro j h; cases j <;> first | rfl | exact absurd h (by decide), rfl, rfl, rfl, rfl⟩,
    ⟨rfl, by intro j h; cases j <;> first | rfl | exact absurd h (by decide)⟩,
    by intro k; cases k <;> rfl, List.cons_ne_nil _ _, ⟨_, rfl⟩, (fun _ h => nomatch h)⟩

theorem witness_NoticeFlagsAreSetAndDiscarded :
    State.reset.ready ∧ noticeKindsOf (.kind 0x91#8) = some [.hold] ∧ noticeKindsOf (.kind 0x9A#8) = some [.link]
      ∧ noticeKindsOf .all = some NoticeKind.all ∧ noticeKindsOf (.kind 0x9B#8) = none
      ∧ noticeKindsOf (.kind 0x90#8) = none := ⟨ready_reset, rfl, rfl, rfl, rfl, rfl⟩

/-- The award for a right answer. -/
def awardOf (t : TeamId) : Award := { team := t, points := 100, cause := .correct, question := some 7, bonus := none }

/-- A route of five cells. -/
def routeOf5 : Route :=
  { source := .teamScore 0, panel := 0, first := 0, width := 5, align := .right, fill := .blank, look := .steady,
    layer := .base }

/-- A machine in the middle of a show that keeps every law: a floor is held, two contexts are saved, a lock holds
an award, a route is set and a reply is being sent. -/
def lawful : State :=
  { playing floorCtx with
      stack := [{ context := ctx buzzCue .armed, origin := .suspend },
                { context := { ctx pollCue .opened with ballot := some (ballotOf none) }, origin := .suspend }]
      scores := { lock := .held 100#32 (Vector.replicate 16 0), pendingAwards := [awardOf 0],
                  changed := [⟨0, true⟩, ⟨2, false⟩], lastEnd := none }
      board := { Board.reset with routes := put Board.reset.routes 0 (some routeOf5) }
      link := { State.reset.link with queue := replies 1, transmitter := .entry }
      pending := [.judge (.fits ⟨1#8, 0#8⟩)] }

theorem lawful_steps : ∃ t, step lawful = .next t := ⟨_, rfl⟩

/-- A floor with a contested claim behind the head and an uncontested one between them. -/
def contestedFloor : Context :=
  { floorCtx with queue := [claimOf 0 0, claimOf 1 0, { claimOf 2 0 with contested := true }] }

/-- R112: the content of FLOOR with the holder's claim, the window, the deadline, the time left and the contested team. -/
theorem test_floor_notice : noticeContent .floor { playing contestedFloor with clock := 1#32 } =
    [.presence true, .u8 1, .presence true, .u8 0, .clock 100#32, .presence true, .u8 10, .presence true, .clock 5#32,
      .presence true, .i32 4, .presence true, .u8 3] := by decide +kernel

/-- The content of each kind: the three conditions of the monitor, a floor held and none, a hold's remainder, a POLL
context, a lock ended and a lock held. -/
theorem witness_noticesCarryTheState :
    (∃ period last, ({ State.reset with silence := .holding 60 0#32 } : State).silence = .holding period last)
      ∧ (∃ period last deadline, ({ State.reset with silence := .watching 60 0#32 9#32 } : State).silence
          = .watching period last deadline)
      ∧ State.reset.silence = .disarmed ∧ State.reset.engine.active = none
      ∧ (let c := contestedFloor
        (playing c).engine.active = some c ∧ c.phase = .floor ∧ c.holder = some 0 ∧ c.isPoll = false
          ∧ (∃ q rest, c.queue = q :: rest) ∧ (∃ f, c.floorFields = some f) ∧ (∃ d, c.answerDeadline = some d)
          ∧ ∃ head before q after, c.queue = head :: before ++ q :: after ∧ (∀ x ∈ before, x.contested = false)
              ∧ q.contested = true)
      ∧ (let c := { floorCtx with answerDeadline := none, answerRemainder := some 4 }
        c.answerDeadline = none ∧ c.answerRemainder = some 4 ∧ ∀ x ∈ c.queue.tail, x.contested = false)
      ∧ (let c := ctx pollCue .opened
        (playing c).engine.active = some c ∧ c.phase ≠ .floor ∧ c.floorFields = none ∧ c.answerDeadline = none
          ∧ c.answerRemainder = none ∧ c.isPoll = true)
      ∧ (let c := { floorCtx with holder := none, queue := [] }
        c.phase = .floor ∧ c.holder = none ∧ c.queue = [])
      ∧ ({ State.reset with scores := { State.reset.scores with lastEnd := some .lapsed } } : State).scores.lastEnd
          = some .lapsed
      ∧ ∃ time snapshot, lawful.scores.lock = .held time snapshot :=
  ⟨⟨_, _, rfl⟩, ⟨_, _, _, rfl⟩, rfl, rfl,
    ⟨rfl, rfl, rfl, rfl, ⟨_, _, rfl⟩, ⟨_, rfl⟩, ⟨_, rfl⟩,
      ⟨_, [claimOf 1 0], _, [], rfl, by decide, rfl⟩⟩,
    ⟨rfl, rfl, by decide⟩, ⟨rfl, by decide, rfl, rfl, rfl, rfl⟩, ⟨rfl, rfl, rfl⟩, rfl, _, _, rfl⟩

theorem witness_ScoreUnitStaysLawful :
    lawful.scoresInRange ∧ lawful.awardsBehindLock ∧ lawful.changedAscending ∧ ∃ t, step lawful = .next t :=
  ⟨by unfold State.scoresInRange; decide +kernel, by unfold State.awardsBehindLock; decide +kernel,
    by unfold State.changedAscending; decide +kernel, lawful_steps⟩
theorem witness_StackStaysBounded : lawful.stackBounded ∧ ∃ t, step lawful = .next t := by
  refine ⟨⟨by decide, fun x rest h h2 => ?_⟩, lawful_steps⟩
  cases h
  cases h2
theorem witness_RoutesStayDisjoint : lawful.routesDisjoint ∧ lawful.noRequest ∧ ∃ t, step lawful = .next t := by
  refine ⟨fun m n r q h hr hq => ?_, rfl, lawful_steps⟩
  have key : ∀ n : RouteId, n ≠ 0 → lawful.route n = none := by decide +kernel
  by_cases hm : m = 0
  · rw [key n (fun hn => h (hm.trans hn.symm))] at hq
    cases hq
  · rw [key m hm] at hr
    cases hr
theorem witness_PadsStayLawful : lawful.padsLawful ∧ ∃ t, step lawful = .next t := by
  refine ⟨⟨by decide +kernel, fun a b p h ha hb => ?_⟩, lawful_steps⟩
  have key : ∀ a b : PadAddr, a ≠ b → lawful.placeOf a ≠ lawful.placeOf b := by decide +kernel
  exact key a b h (ha.trans hb.symm)
theorem witness_LinkStaysSound : lawful.linkSound ∧ ∃ t, step lawful = .next t :=
  ⟨⟨by decide, (fun h => nomatch h), (fun _ h => nomatch h), (fun h => nomatch h)⟩, lawful_steps⟩
theorem lawful_roundsSound : lawful.roundsSound := by
  refine ⟨fun c h => ?_, fun x hx => ?_⟩
  · cases h
    exact ⟨by unfold Context.windowsSound; decide +kernel,
      ⟨by decide, by decide +kernel, by decide +kernel, by decide +kernel, by decide +kernel, by decide +kernel,
        fun _ => ⟨_, _, rfl, rfl⟩, by decide +kernel⟩, rfl⟩
  · have hx : x = { context := ctx buzzCue .armed, origin := .suspend }
        ∨ x = { context := { ctx pollCue .opened with ballot := some (ballotOf none) }, origin := .suspend } := by
      simpa [lawful] using hx
    rcases hx with hx | hx <;> subst hx <;>
      exact ⟨by unfold Context.windowsSound; decide +kernel,
        ⟨by decide, by decide +kernel, by decide +kernel, by decide +kernel, by decide +kernel, by decide +kernel,
          (fun h => nomatch h), by decide +kernel⟩, by decide, rfl, rfl⟩
theorem witness_RoundsStaySound : lawful.roundsSound ∧ ∃ t, step lawful = .next t := ⟨lawful_roundsSound, lawful_steps⟩
theorem witness_LiveRoundsStayAtSprint : lawful.liveAtSprint ∧ lawful.roundsSound ∧ ∃ t, step lawful = .next t :=
  ⟨fun _ _ _ => rfl, lawful_roundsSound, lawful_steps⟩
theorem witness_BallotsStayFit : lawful.ballotsFit ∧ ∃ t, step lawful = .next t := by
  refine ⟨⟨fun c h b hb => ?_, fun x hx b hb => ?_⟩, lawful_steps⟩
  · cases h
    cases hb
  · have hx : x = { context := ctx buzzCue .armed, origin := .suspend }
        ∨ x = { context := { ctx pollCue .opened with ballot := some (ballotOf none) }, origin := .suspend } := by
      simpa [lawful] using hx
    rcases hx with hx | hx <;> subst hx <;> cases hb
    rfl

theorem witness_ClockValuesCompareBySignedDifference :
    clockDiff 1#32 0#32 < 0 ∧ clockDiff 1#32 0#32 ≠ -(2 ^ 31 : Int) ∧ clockDiff 0#32 0x80000000#32 = -(2 ^ 31 : Int)
      ∧ clockDiff 0#32 0x7FFFFFFF#32 = 2 ^ 31 - 1 := by decide +kernel

theorem witness_TeamSetActs :
    (State.reset.ready ∧ teamOf 16#8 = some 15 ∧ newStateOf (some 2#8) = some (some .benched)
        ∧ newTagOf (some (some (longList 6))) = some (some (some (List.replicate 6 0)))
        ∧ State.reset.holder = none ∧ State.reset.engine.active = none)
      ∧ (let s := playing floorCtx; s.ready ∧ teamOf 1#8 = some 0 ∧ newStateOf (some 0#8) = some (some .unused)
          ∧ newTagOf none = some none ∧ leavesPlay (some .unused) = true ∧ s.holder = some 0)
      ∧ teamOf 17#8 = none ∧ teamOf 0#8 = none ∧ newStateOf (some 3#8) = none
      ∧ newTagOf (some (some (longList 7))) = none
      ∧ (∃ c, let s := playing c; s.ready ∧ s.teamPresent 1 = true ∧ leavesPlay (some .benched) = true
          ∧ s.engine.active = some c ∧ c.hasClaim 1 = true ∧ c.holder ≠ some 1 ∧ c.isPoll = false
          ∧ c.phase = .settling)
      ∧ (∃ c, let s := playing c; s.ready ∧ s.teamPresent 1 = true ∧ s.engine.active = some c ∧ c.hasClaim 1 = true
          ∧ c.holder ≠ some 1 ∧ c.isPoll = false ∧ c.phase = .floor)
      ∧ (∃ c, let s := playing c; s.ready ∧ s.teamPresent 1 = true ∧ s.engine.active = some c ∧ c.hasClaim 1 = true
          ∧ c.holder ≠ some 1 ∧ c.phase ≠ .settling ∧ c.phase ≠ .floor) :=
  ⟨⟨ready_reset, rfl, rfl, by decide +kernel, rfl, rfl⟩, ⟨ready_playing _, rfl, rfl, rfl, rfl, rfl⟩, rfl, rfl, rfl,
    by decide +kernel,
    ⟨settlingCtx [1, 2], ready_playing _, by decide +kernel, rfl, rfl, rfl, (fun h => nomatch h), rfl, rfl⟩,
    ⟨{ floorCtx with queue := [claimOf 0 0, claimOf 1 0] }, ready_playing _, by decide +kernel, rfl, rfl,
      by decide, rfl, rfl⟩,
    ⟨{ ctx buzzCue .closed with queue := [claimOf 1 0] }, ready_playing _, by decide +kernel, rfl, rfl, by decide,
      by decide, by decide⟩⟩

/-- Pads 32 to 35 given to team 1 beside its four of GRID16, so that it has 8. -/
def fullTeam : State :=
  [(32, 4), (33, 5), (34, 6), (35, 7)].foldl
    (fun s (x : PadAddr × Seat) => s.setPad x.1 { s.pad x.1 with assignment := .override ⟨0, x.2⟩ }) State.reset

theorem witness_PadAssignGivesThePlace :
    (fullTeam.ready ∧ padOf 63#8 = some 63 ∧ teamOf 1#8 = some 0 ∧ seatOf 8#8 = some 7
        ∧ (fullTeam.otherPadsOfTeam 0 63).length = 8)
      ∧ ((fullTeam.otherPadsOfTeam 0 0).length = 7 ∧ fullTeam.placeOf 1 = some ⟨0, 1⟩)
      ∧ (State.reset.ready ∧ (State.reset.otherPadsOfTeam 0 63).length < 8
        ∧ ∀ b : PadAddr, b ≠ 63 → State.reset.placeOf b ≠ some ⟨0, 7⟩)
      ∧ padOf 64#8 = none ∧ seatOf 9#8 = none ∧ seatOf 0#8 = none :=
  ⟨⟨⟨rfl, rfl, (by decide : (0 : Nat) < 4), rfl, rfl⟩, rfl, rfl, rfl, by decide +kernel⟩,
    by decide +kernel, ⟨ready_reset, by decide +kernel, by decide +kernel⟩, rfl, rfl, rfl⟩

/-- Pad 63 LOST. -/
def lostPad : State := State.reset.setPad 63 { State.reset.pad 63 with presence := .lost, misses := 3 }

theorem witness_LayoutAndForgetAct :
    (State.reset.ready ∧ layoutOf 3#8 = some .free ∧ State.reset.engine.active = none ∧ State.reset.stack = [])
      ∧ layoutOf 4#8 = none ∧ (let s := playing floorCtx; s.ready ∧ s.engine.active ≠ none ∧ layoutOf 0#8 ≠ none)
      ∧ (lostPad.ready ∧ padOf 63#8 = some 63 ∧ (lostPad.pad 63).presence = .lost)
      ∧ (State.reset.pad 63).presence ≠ .lost ∧ padOf 64#8 = none :=
  ⟨⟨ready_reset, rfl, rfl, rfl⟩, rfl, ⟨ready_playing _, (fun h => nomatch h), (fun h => nomatch h)⟩,
    ⟨⟨rfl, rfl, (by decide : (0 : Nat) < 4), rfl, rfl⟩, rfl, by decide +kernel⟩, by decide +kernel, rfl⟩

theorem witness_QueriesReportOrAreRefused :
    State.reset.ready ∧ teamOf 16#8 = some 15 ∧ padOf 63#8 = some 63 ∧ slotOf 63#8 = some 63 ∧ pageOf 3#8 = some 3
      ∧ panelOf 3#8 = some 3 ∧ State.reset.engine.active = none
      ∧ (∃ c, (playing c).ready ∧ (playing c).engine.active = some c ∧ c.isPoll = false)
      ∧ (∃ c f b, (playing c).engine.active = some c ∧ c.pollFields = some f ∧ c.ballot = some b ∧ c.isPoll = true)
      ∧ teamOf 0#8 = none ∧ padOf 64#8 = none ∧ slotOf 64#8 = none ∧ pageOf 4#8 = none ∧ panelOf 4#8 = none :=
  ⟨ready_reset, rfl, rfl, rfl, rfl, rfl, rfl, ⟨floorCtx, ready_playing _, rfl, rfl⟩,
    ⟨{ ctx pollCue .opened with ballot := some (ballotOf none) }, _, _, rfl, rfl, rfl, rfl⟩, rfl, rfl, rfl, rfl, rfl⟩

/-- R7: of the three PRESENT teams, all at 0 points, team 3 is third, and team 4, which is not PRESENT, has no rank. -/
theorem test_team_ranks : teamReport teams3 2
      = [.u8 3, .name 1, .presence false, .i16 0, .u8 0, .u8 0, .u8 0, .presence false, .u8 4, .u8 0, .u8 0,
          .presence true, .u8 3]
    ∧ (teamReport teams3 3).getLast? = some (.presence false) := by decide +kernel

/-- What the reports read: the three kinds of assignment and of cue, the lock FREE and HELD, the three conditions of the
monitor. -/
theorem witness_reportsCarryTheState :
    (State.reset.pad 0).assignment = .byDefault
      ∧ ((after (.padAssign (.fits ⟨63#8, .place 1#8 5#8⟩)) State.reset).pad 63).assignment = .override ⟨0, 4⟩
      ∧ ((after (.padAssign (.fits ⟨63#8, .release⟩)) State.reset).pad 63).assignment = .released
      ∧ buzzCue.part = .buzz floorPart 20 ∧ tieCue.part = .tiebreak floorPart ∧ pollCue.part = .poll pollPart
      ∧ State.reset.scores.lock = .free ∧ (∃ time snapshot, lawful.scores.lock = .held time snapshot)
      ∧ State.reset.silence = .disarmed
      ∧ (∃ period last deadline, ({ State.reset with silence := .watching 60 0#32 9#32 } : State).silence
          = .watching period last deadline)
      ∧ ∃ period last, ({ State.reset with silence := .holding 60 0#32 } : State).silence = .holding period last :=
  ⟨by decide +kernel, by decide +kernel, by decide +kernel, rfl, rfl, rfl, rfl, ⟨_, _, rfl⟩, rfl, ⟨_, _, _, rfl⟩, _, _,
    rfl⟩

theorem witness_DeskSpeedLampAndCaptureSettingsAct :
    State.reset.ready ∧ settingOf 1#8 = some .sprint ∧ settingOf 2#8 = none
      ∧ lampChoiceOf (.lamp 3#8) = some (some .fast) ∧ lampChoiceOf .clear = some none
      ∧ lampChoiceOf (.lamp 4#8) = none ∧ padOf 63#8 = some 63 ∧ padOf 64#8 = none
      ∧ within 1 4 4#8 = some 4 ∧ State.reset.debounceFixed = false ∧ (playing (settlingCtx [0])).debounceFixed = true
      ∧ within 1 4 5#8 = none ∧ within 1 4 0#8 = none :=
  ⟨ready_reset, rfl, rfl, rfl, rfl, rfl, rfl, rfl, rfl, rfl, rfl, rfl, rfl⟩

/-- The rows of the lamp policy: no override on an unassigned pad, on a pad of a team that is not PRESENT, in IDLE and
under a context; a state with no lamps; a holder; a claim; a lockout; a vote and none. -/
theorem witness_lampsFollowThePolicy :
    ((State.reset.setPad 5 { State.reset.pad 5 with lampOverride := some .fast }).pad 5).lampOverride = some .fast
      ∧ ((State.reset.pad 63).lampOverride = none ∧ State.reset.placeOf 63 = some ⟨15, 3⟩
        ∧ (State.reset.team 15).state ≠ .present)
      ∧ (State.reset.setPad 63 { State.reset.pad 63 with assignment := .released }).placeOf 63 = none
      ∧ ((teams3.pad 0).lampOverride = none ∧ teams3.placeOf 0 = some ⟨0, 0⟩ ∧ (teams3.team 0).state = .present
        ∧ teams3.engine.active = none)
      ∧ (floorCtx.phase = .floor ∧ 0 ∈ floorCtx.eligible ∧ floorCtx.isPoll = false ∧ floorCtx.holder = some 0)
      ∧ (floorCtx.holder ≠ some 1 ∧ (∀ q ∈ floorCtx.queue, q.team ≠ 1) ∧ (1 : TeamId) ∉ floorCtx.lockout)
      ∧ ((settlingCtx [1]).holder ≠ some 1 ∧ (∃ q ∈ (settlingCtx [1]).queue, q.team = 1)
        ∧ (settlingCtx [1]).phase ≠ .floor ∧ (3 : TeamId) ∉ (settlingCtx [1]).eligible)
      ∧ (let c := { ctx pollCue .opened with ballot := some (ballotOf none), lockout := [2] };
          c.isPoll = true ∧ c.phase = .opened ∧ 2 ∈ c.lockout ∧ 2 ∈ c.eligible
            ∧ ∃ e v, (ballotOf none).entries.find? (fun e => e.team == 0) = some e ∧ e.vote = some v)
      ∧ (ctx pollCue .closing).phase ≠ .opened := by
  refine ⟨by decide +kernel, by decide +kernel, by decide +kernel, by decide +kernel, by decide +kernel,
    by decide +kernel, by decide +kernel, ⟨rfl, rfl, by decide, by decide, _, _, rfl, rfl⟩, by decide⟩

theorem witness_CueLoadAndEraseAct :
    State.reset.ready ∧ checkLoad ⟨63#8, goodFields⟩ = .ok (63, buzzCue) ∧ (∃ n, checkLoad ⟨64#8, goodFields⟩ = .error n)
      ∧ (∃ covers, eraseSlots (.page 3#8) = some covers) ∧ (∃ covers, eraseSlots (.slot 63#8) = some covers)
      ∧ (∃ covers, eraseSlots .all = some covers) ∧ eraseSlots (.slot 64#8) = none ∧ eraseSlots (.page 4#8) = none :=
  ⟨ready_reset, by rfl, ⟨_, rfl⟩, ⟨_, rfl⟩, ⟨_, rfl⟩, ⟨_, rfl⟩, rfl, rfl⟩

/-- A CUE_LOAD of the last slot. -/
def loadOf (f : CueFields) : CueLoadArgs := ⟨63#8, f⟩

/-- A record that passes every check, and for each check one that passes those before it and fails it. -/
theorem witness_loadsAreChecked :
    checkLoad ⟨64#8, goodFields⟩ = .error 1
      ∧ checkLoad (loadOf { goodFields with kind := 3#8 }) = .error 2
      ∧ checkLoad (loadOf { goodFields with streakBonus := none }) = .error 3
      ∧ checkLoad (loadOf { goodFields with answerWindow := some 61#8 }) = .error 4
      ∧ checkLoad (loadOf { goodFields with eligible := some [1#8, 1#8] }) = .error 5
      ∧ checkLoad (loadOf { goodFields with kind := 2#8, streakBonus := none, eligible := some [1#8] }) = .error 6
      ∧ checkLoad (loadOf goodPoll) = .ok (63, pollCue)
      ∧ checkLoad (loadOf { goodPoll with speedPlaces := some 0#8 }) = .error 7 :=
  ⟨by rfl, by rfl, by rfl, by rfl, by rfl, by rfl, by rfl, by rfl⟩

theorem witness_CuePointMovesThePointer :
    State.reset.ready ∧ (63#8 : Byte).toNat = (63 : SlotId).val ∧ 64 ≤ (64#8 : Byte).toNat :=
  ⟨ready_reset, rfl, by decide⟩

/-- A cue in the last slot of page 0, the pointer at it, over a state. -/
def loaded (cue : Cue) (s : State) : State :=
  { s with cues := { s.cues with slots := put s.cues.slots 15 (.loaded cue), pointer := 15 } }

theorem witness_RoundArmMakesAContext :
    (let s := loaded buzzCue teams3; s.ready ∧ s.slotToArm none = some 15 ∧ s.slotToArm (some 15#8) = some 15
        ∧ (s.cueSlot 15).record = some buzzCue ∧ s.atRest = true ∧ teamsRefusal s buzzCue = none)
      ∧ (let s := loaded buzzCue State.reset; s.ready ∧ s.atRest = true ∧ ∃ a, teamsRefusal s buzzCue = some a)
      ∧ (State.reset.ready ∧ State.reset.slotToArm (some 63#8) = some 63 ∧ (State.reset.cueSlot 63).record = none)
      ∧ slotOf 64#8 = none :=
  ⟨⟨⟨rfl, rfl, (by decide : (0 : Nat) < 4), rfl, rfl⟩, rfl, rfl, by decide +kernel, rfl, by decide +kernel⟩,
    ⟨⟨rfl, rfl, (by decide : (0 : Nat) < 4), rfl, rfl⟩, rfl, _, rfl⟩, ⟨ready_reset, rfl, by decide +kernel⟩, rfl⟩

/-- A stack of saved contexts. -/
def saved (n : Nat) : List SavedContext := List.replicate n { context := ctx buzzCue .armed, origin := .tiebreak }

/-- An active context with team 1 alone PRESENT. -/
def onlyTeam1 (c : Context) : State :=
  let s := State.reset.setTeam 0 { TeamRecord.reset with state := .present }
  { s with engine := { active := some c, tiePointer := 0 } }

/-- A cue without its teams: a TIEBREAK cue with no team, one team and three at the top; another cue with no list or with
one, and none of its teams PRESENT; another cue with its teams. -/
theorem witness_cuesNeedTeams :
    tieCue.part = .tiebreak floorPart ∧ State.reset.topTeams = [] ∧ (onlyTeam1 floorCtx).topTeams = [0]
      ∧ 2 ≤ teams3.topTeams.length ∧ (∀ f, buzzCue.part ≠ .tiebreak f)
      ∧ (State.reset.eligibleFor buzzCue = [] ∧ buzzCue.eligible = none)
      ∧ (let cue := { buzzCue with eligible := some [15, 4] }
        teams3.eligibleFor cue = [] ∧ cue.eligible = some [15, 4] ∧ ∀ f, cue.part ≠ .tiebreak f)
      ∧ teams3.eligibleFor buzzCue ≠ [] :=
  ⟨rfl, by decide +kernel, by decide +kernel, by decide +kernel, (fun _ h => nomatch h), ⟨by decide +kernel, rfl⟩,
    ⟨by decide +kernel, rfl, (fun _ h => nomatch h)⟩, by decide +kernel⟩

/-- R77: the named set is written in ascending order. -/
theorem test_no_teams : teamsRefusal teams3 { buzzCue with eligible := some [15, 4] }
    = some ⟨.refused .noTeams, [.presence true, .count 2, .u8 5, .u8 16]⟩ := by decide +kernel

theorem witness_InterjectionPushesTheContext :
    (∃ c f, let s := { loaded tieCue (playing c) with stack := saved 2 }; s.ready ∧ s.slotToArm none = some 15
        ∧ (s.cueSlot 15).record = some tieCue ∧ s.engine.active = some c ∧ tieCue.part = .tiebreak f
        ∧ c.phase = .opened ∧ s.stack.length < 3 ∧ 2 ≤ s.topTeams.length)
      ∧ (∃ c, let s := { loaded tieCue (playing c) with stack := saved 3 }; s.ready ∧ c.phase = .armed
        ∧ 3 ≤ s.stack.length)
      ∧ (∃ c, let s := loaded buzzCue (playing c); s.ready ∧ s.atRest = false ∧ ∀ f, buzzCue.part ≠ .tiebreak f)
      ∧ (∃ c, let s := loaded tieCue (playing c); s.ready ∧ s.atRest = false ∧ c.phase ≠ .armed
        ∧ c.phase ≠ .opened)
      ∧ (∃ c a, let s := loaded tieCue (onlyTeam1 c); s.ready ∧ s.engine.active = some c ∧ c.phase = .armed
        ∧ s.stack.length < 3 ∧ teamsRefusal s tieCue = some a) :=
  ⟨⟨ctx buzzCue .opened, floorPart, ⟨rfl, rfl, (by decide : (0 : Nat) < 4), rfl, rfl⟩, rfl, by decide +kernel, rfl, rfl,
      rfl, by decide +kernel, by decide +kernel⟩,
    ⟨ctx buzzCue .armed, ⟨rfl, rfl, (by decide : (0 : Nat) < 4), rfl, rfl⟩, rfl, by decide +kernel⟩,
    ⟨ctx buzzCue .opened, ⟨rfl, rfl, (by decide : (0 : Nat) < 4), rfl, rfl⟩, rfl, (fun _ h => nomatch h)⟩,
    ⟨floorCtx, ⟨rfl, rfl, (by decide : (0 : Nat) < 4), rfl, rfl⟩, rfl, (fun h => nomatch h), (fun h => nomatch h)⟩,
    ⟨ctx buzzCue .armed, _, ⟨rfl, rfl, (by decide : (0 : Nat) < 4), rfl, rfl⟩, rfl, rfl, by decide +kernel, rfl⟩⟩

theorem witness_EligibleTeamsAreThePresentOnes :
    tieCue.part = .tiebreak floorPart ∧ (∀ f, buzzCue.part ≠ .tiebreak f) ∧ State.reset.scores.lock = .free
      ∧ ∃ time snapshot, lawful.scores.lock = .held time snapshot :=
  ⟨rfl, (fun _ h => nomatch h), rfl, _, _, rfl⟩

theorem witness_RoundOpenAbortAndClearAct :
    (∃ c, (playing c).ready ∧ (playing c).engine.active = some c ∧ c.phase = .armed ∧ c.held = false
        ∧ (playing c).desk.speed = .sprint)
      ∧ (∃ c, (onRoam c).ready ∧ (onRoam c).engine.active = some c ∧ c.phase = .armed ∧ c.held = false
        ∧ (onRoam c).desk.speed = .roam)
      ∧ (∀ c, State.reset.engine.active = some c → c.phase ≠ .armed)
      ∧ (∃ c, (playing c).ready ∧ (playing c).engine.active = some c ∧ c.phase.needsSprint = true ∧ c.phase = .closing)
      ∧ (∃ c, (playing c).engine.active = some c ∧ c.phase = .revealed ∧ (playing c).atRest = true)
      ∧ State.reset.ready ∧ State.reset.engine.active = none ∧ State.reset.atRest = true :=
  ⟨⟨ctx buzzCue .armed, ready_playing _, rfl, rfl, rfl, rfl⟩, ⟨ctx buzzCue .armed, ready_onRoam _, rfl, rfl, rfl, rfl⟩,
    (fun _ h => nomatch h), ⟨ctx pollCue .closing, ready_playing _, rfl, rfl, rfl⟩,
    ⟨ctx pollCue .revealed, rfl, rfl, rfl⟩, ready_reset, rfl, rfl⟩

theorem witness_CallTimeEndsTheWindow :
    (∃ c, (playing c).ready ∧ (playing c).engine.active = some c ∧ c.phase = .opened ∧ c.isPoll = false)
      ∧ (∃ c, (playing c).ready ∧ (playing c).engine.active = some c ∧ c.phase = .opened ∧ c.isPoll = true)
      ∧ (∃ c f holder, (playing c).ready ∧ (playing c).engine.active = some c ∧ c.phase = .floor
        ∧ c.holder = some holder ∧ c.floorFields = some f ∧ c.held = false)
      ∧ State.reset.engine.active = none
      ∧ (∃ c, (playing c).engine.active = some c ∧ c.phase ≠ .opened ∧ c.phase ≠ .floor) :=
  ⟨⟨ctx buzzCue .opened, ready_playing _, rfl, rfl, rfl⟩, ⟨ctx pollCue .opened, ready_playing _, rfl, rfl, rfl⟩,
    ⟨floorCtx, _, _, ready_playing _, rfl, rfl, rfl, rfl, rfl⟩, rfl,
    ⟨settlingCtx [0], rfl, (fun h => nomatch h), (fun h => nomatch h)⟩⟩

/-- The cases of a floor pass: a settled claim behind the holder's, one not settled, none with every team locked
out, none with a rebound allowed, none without, and no round time left. -/
theorem witness_floorPassed :
    (∃ head rest c, c.queue = head :: rest ∧ hasSettled (playing c) head)
      ∧ (∃ head rest c, c.queue = head :: rest ∧ ¬hasSettled (playing c) head)
      ∧ (∃ c : Context, c.queue = [] ∧ ∀ u ∈ c.eligible, ((playing c).team u).state = .present → u ∈ c.lockout)
      ∧ (∃ c : Context, c.queue = [] ∧ (∃ u ∈ c.eligible, ((playing c).team u).state = .present ∧ u ∉ c.lockout)
          ∧ c.allowsRebound = true ∧ c.roundRemaining ≠ some 0)
      ∧ (∃ c : Context, c.queue = [] ∧ (∃ u ∈ c.eligible, ((playing c).team u).state = .present ∧ u ∉ c.lockout)
          ∧ c.allowsRebound = false)
      ∧ (∃ c : Context, c.queue = [] ∧ (∃ u ∈ c.eligible, ((playing c).team u).state = .present ∧ u ∉ c.lockout)
          ∧ c.roundRemaining = some 0) :=
  ⟨⟨_, _, { ctx buzzCue .floor with queue := [claimOf 1 0] }, rfl, by unfold hasSettled; decide +kernel⟩,
    ⟨_, _, { ctx buzzCue .floor with queue := [claimOf 1 1] }, rfl, by unfold hasSettled; decide +kernel⟩,
    ⟨{ ctx buzzCue .floor with lockout := [0, 1, 2] }, rfl, by decide +kernel⟩,
    ⟨{ ctx buzzCue .floor with lockout := [0, 1] }, rfl, ⟨2, by decide +kernel⟩, rfl, (fun h => nomatch h)⟩,
    ⟨ctx (cueOf (.buzz { floorPart with rebound := false } 0)) .floor, rfl, ⟨2, by decide +kernel⟩, rfl⟩,
    ⟨{ ctx buzzCue .floor with roundRemaining := some 0 }, rfl, ⟨2, by decide +kernel⟩, rfl⟩⟩

theorem witness_JudgeAppliesTheVerdict :
    (∃ c, (playing c).ready ∧ teamOf 1#8 = some 0 ∧ verdictOf 2#8 = some .void ∧ (playing c).engine.active = some c
        ∧ c.phase = .floor ∧ c.holder = some 0 ∧ c.held = false)
      ∧ teamOf 17#8 = none ∧ verdictOf 3#8 = none
      ∧ ((playing floorCtx).ready ∧ teamOf 2#8 = some 1
        ∧ ∀ c, (playing floorCtx).engine.active = some c → c.phase ≠ .floor ∨ c.holder ≠ some 1) :=
  ⟨⟨floorCtx, ready_playing _, rfl, rfl, rfl, rfl, rfl, rfl⟩, rfl, rfl, ready_playing _, rfl,
    fun c h => by cases h; exact Or.inr (by decide)⟩

theorem witness_AnswerExpiryPassesTheFloor :
    (∃ c f holder d, (playing c).noRequest ∧ (playing c).engine.active = some c ∧ c.phase = .floor
        ∧ c.holder = some holder ∧ c.floorFields = some f ∧ c.held = false ∧ c.answerDeadline = some d
        ∧ clockDiff (playing c).clock d = 0)
      ∧ (∃ c d, (playing c).engine.active = some c ∧ c.answerDeadline = some d ∧ clockDiff (playing c).clock d = 1) :=
  ⟨⟨{ floorCtx with answerDeadline := some 10#32 }, _, _, _, rfl, rfl, rfl, rfl, rfl, rfl, rfl, by decide +kernel⟩,
    ⟨{ floorCtx with answerDeadline := some 11#32 }, _, rfl, rfl, by decide +kernel⟩⟩

theorem witness_ClaimDropRemovesTheClaim :
    (∃ c, (playing c).ready ∧ (playing c).engine.active = some c ∧ c.held = false ∧ c.isPoll = false
        ∧ teamOf 2#8 = some 1 ∧ c.phase = .floor ∧ c.holder ≠ some 1 ∧ c.hasClaim 1 = true)
      ∧ (∃ c head rest next more, (playing c).ready ∧ (playing c).engine.active = some c ∧ c.queue = head :: rest
        ∧ c.phase = .settling ∧ head.team = 0 ∧ c.hasClaim 0 = true
        ∧ (c.queue.filter fun q => q.team != 0) = next :: more ∧ hasSettled (playing c) next)
      ∧ (∃ c, (playing c).ready ∧ c.phase = .settling ∧ (c.queue.filter fun q => q.team != 0) = []
        ∧ c.roundRemaining = some 0 ∧ c.hasClaim 0 = true)
      ∧ (∃ c, (playing c).ready ∧ c.phase = .settling ∧ (c.queue.filter fun q => q.team != 0) = []
        ∧ c.roundRemaining ≠ some 0 ∧ c.hasClaim 0 = true)
      ∧ (∃ c, (playing c).ready ∧ c.phase = .floor ∧ c.holder = some 0)
      ∧ (∃ c, (playing c).ready ∧ c.phase = .opened ∧ c.holder ≠ some 15 ∧ c.hasClaim 15 = false)
      ∧ teamOf 17#8 = none
      ∧ (∀ c, State.reset.engine.active = some c → c.isPoll = true
          ∨ (c.phase ≠ .opened ∧ c.phase ≠ .settling ∧ c.phase ≠ .floor))
      ∧ (∀ c, (playing (ctx pollCue .opened)).engine.active = some c → c.isPoll = true) :=
  ⟨⟨{ floorCtx with queue := [claimOf 0 0, claimOf 1 0] }, ready_playing _, rfl, rfl, rfl, rfl, rfl, by decide, rfl⟩,
    ⟨settlingCtx [0, 1], _, _, _, _, ready_playing _, rfl, rfl, rfl, rfl, rfl, rfl, by unfold hasSettled; decide +kernel⟩,
    ⟨{ settlingCtx [0] with roundRemaining := some 0 }, ready_playing _, rfl, rfl, rfl, rfl⟩,
    ⟨settlingCtx [0], ready_playing _, rfl, rfl, by decide, rfl⟩,
    ⟨floorCtx, ready_playing _, rfl, rfl⟩, ⟨ctx buzzCue .opened, ready_playing _, rfl, by decide, rfl⟩,
    rfl, (fun _ h => nomatch h), fun c h => by cases h; rfl⟩

theorem witness_ClaimsAreOrderedAndTiesRotate :
    (claimOf 15 0).capture = (claimOf 0 0).capture ∧ ({ claimOf 15 0 with capture := 101#32 } : Claim).capture ≠ (claimOf 0 0).capture
      ∧ Phase.settling ≠ .floor := ⟨rfl, by decide, by decide⟩

theorem witness_RevealAwardsTheVotes :
    (∃ c f b e o, (playing c).ready ∧ (playing c).engine.active = some c ∧ c.pollFields = some f ∧ c.ballot = some b
        ∧ c.ending = some e ∧ c.phase = .closed ∧ e.outcome = .timeUp ∧ letterOf 2#8 = some o ∧ o.code < f.options
        ∧ f.correct = some .b)
      ∧ (∃ o, letterOf 3#8 = some o ∧ pollPart.options ≤ o.code) ∧ ({ pollPart with correct := none } : PollFields).correct = none
      ∧ letterOf 4#8 = none
      ∧ (∀ c e, (playing (ctx pollCue .opened)).engine.active = some c → c.isPoll = true → c.ending = some e →
          c.phase ≠ .closed ∨ e.outcome ≠ .timeUp) :=
  ⟨⟨{ ctx pollCue .closed with ballot := some (ballotOf none), ending := some ⟨.timeUp, .expired⟩ }, _, _, _, _,
      ready_playing _, rfl, rfl, rfl, rfl, rfl, rfl, rfl, by decide, rfl⟩, ⟨_, rfl, by decide⟩, rfl, rfl,
    fun c e h _ he => by cases h; cases he⟩

/-- Capture times on both sides of an overflow of the clock, within half its range of one of them. -/
theorem witness_speedPlacesFollowTheTimes :
    let e := fun (t : TeamId) (at' : ClockValue) =>
      ({ team := t, vote := some ⟨.b, at', at'⟩, changes := 0, skipped := false } : BallotEntry)
    (∀ x ∈ [e 0 5#32, e 1 0xFFFFFFF0#32, e 2 5#32], ∀ v, x.vote = some v → (v.capture - 0xFFFFFFF0#32).toNat < 2 ^ 31)
      ∧ speedPlaces 1 .b 2 [e 0 5#32, e 1 0xFFFFFFF0#32, e 2 5#32] = [1, 2] := by decide +kernel

/-- The machine with a held lock, its lapse time at 10, and so many awards waiting. -/
def locked (n : Nat) : State :=
  { playing floorCtx with
      scores := { lock := .held 10#32 (Vector.replicate 16 0), pendingAwards := List.replicate n (awardOf 0),
                  changed := [], lastEnd := none } }

theorem ready_locked (n : Nat) : (locked n).ready := ⟨rfl, rfl, (by decide : (0 : Nat) < 4), rfl, rfl⟩

theorem witness_CountsFollowTheCause : lawful.scoresInRange ∧ (awardOf 0).cause = .correct :=
  ⟨by unfold State.scoresInRange; decide +kernel, rfl⟩

theorem witness_AwardsReachTheirTeams :
    (∃ n, State.reset.scores.lock = .free ∧ (awardOf 0).cause = .correct
        ∧ ({ awardOf 0 with bonus := some 1 } : Award).bonus = some n ∧ 0 < n)
      ∧ (let s := State.reset.setTeam 0 { TeamRecord.reset with streak := 254 };
          (s.team 0).streak < 255 ∧ ((s.team 0).streak + 1) % 3 = 0)
      ∧ ((State.reset.team 0).streak + 1) % 3 ≠ 0
      ∧ (∃ time snapshot, (locked 15).scores.lock = .held time snapshot) ∧ (locked 15).scores.pendingAwards.length = 15
      ∧ 16 ≤ (locked 16).scores.pendingAwards.length
      ∧ (State.reset.team 0).score + 10000 > 9999 ∧ (State.reset.team 0).score - 10000 < -9999
      ∧ lawful.changedAscending := by
  refine ⟨⟨1, rfl, rfl, rfl, by decide⟩, by decide +kernel, by decide +kernel, ⟨_, _, rfl⟩, ?_⟩
  unfold State.changedAscending
  decide +kernel

/-- The saturated mark of an award: set where the score saturates, kept where it was set, clear otherwise. -/
theorem test_saturated_mark :
    (applyOne (awardOf 1) State.reset).scores.changed = [⟨1, false⟩]
      ∧ (applyOne (awardOf 0) lawful).scores.changed = [⟨0, true⟩, ⟨2, false⟩]
      ∧ (applyOne { awardOf 1 with points := 10000 } lawful).scores.changed
          = [⟨0, true⟩, ⟨1, true⟩, ⟨2, false⟩] := by decide +kernel

theorem witness_ScoreAdjustAppliesAManualAward :
    State.reset.ready ∧ teamOf 16#8 = some 15 ∧ (9999#16 : Half).toInt = 9999 ∧ (BitVec.ofInt 16 (-9999)).toInt = -9999
      ∧ 9999 < (10000#16 : Half).toInt ∧ (BitVec.ofInt 16 (-10000)).toInt < -9999 ∧ teamOf 0#8 = none :=
  ⟨ready_reset, rfl, by decide, by decide, by decide, by decide, rfl⟩

theorem witness_ScoreLockTakesTheSnapshot :
    State.reset.ready ∧ State.reset.scores.lock = .free ∧ (locked 0).ready ∧ (locked 0).scores.lock ≠ .free
      ∧ (60#8 : Byte).toNat = 60 ∧ 60 < (61#8 : Byte).toNat :=
  ⟨ready_reset, rfl, ready_locked 0, (fun h => nomatch h), rfl, by decide⟩

theorem witness_UnlockAndLapseEndTheLock :
    (∃ time snapshot, (locked 1).ready ∧ (locked 1).noRequest ∧ (locked 1).scores.lock = .held time snapshot
        ∧ clockDiff (locked 1).clock time = 0)
      ∧ State.reset.ready ∧ State.reset.scores.lock = .free
      ∧ (∃ time snapshot, lawful.scores.lock = .held time snapshot ∧ 0 < clockDiff lawful.clock time) :=
  ⟨⟨_, _, ready_locked 1, rfl, rfl, by decide +kernel⟩, ready_reset, rfl, _, _, rfl, by decide +kernel⟩

theorem witness_SuspendPushesAndResumePops :
    (∃ c, let s := { playing c with stack := saved 1 }; s.ready ∧ s.engine.active = some c ∧ c.phase = .opened
        ∧ s.stack.length < 2)
      ∧ (∃ c, let s := { playing c with stack := saved 2 }; s.ready ∧ c.phase = .armed ∧ 2 ≤ s.stack.length)
      ∧ (∃ c, (playing c).ready ∧ c.phase = .floor)
      ∧ (∃ c, (playing c).ready ∧ c.phase ≠ .armed ∧ c.phase ≠ .opened ∧ c.phase ≠ .floor)
      ∧ (∃ x rest, let s := { State.reset with stack := saved 1 }; s.ready ∧ s.atRest = true ∧ s.stack = x :: rest
        ∧ x.context.held = false ∧ x.context.phase = .armed)
      ∧ State.reset.ready ∧ State.reset.atRest = true ∧ State.reset.stack = [] ∧ (playing floorCtx).atRest = false :=
  ⟨⟨ctx buzzCue .opened, ready_playing (ctx buzzCue .opened), rfl, rfl, by decide +kernel⟩,
    ⟨ctx buzzCue .armed, ready_playing (ctx buzzCue .armed), rfl, by decide +kernel⟩, ⟨floorCtx, ready_playing _, rfl⟩,
    ⟨settlingCtx [0], ready_playing _, by decide, by decide, by decide⟩,
    ⟨_, _, ready_reset, rfl, rfl, rfl, rfl⟩, ready_reset, rfl, rfl, rfl⟩

/-- The machine with the silence monitor WATCHING a deadline, or in a hold. -/
def watched (deadline : ClockValue) : State := { playing floorCtx with silence := .watching 2 0#32 deadline }
def inHold (c : Context) : State := { playing { c with held := true } with silence := .holding 60 0#32 }

theorem witness_SilenceIsArmedAndBeginsAHold :
    (State.reset.ready ∧ State.reset.silence = .disarmed ∧ (60#8 : Byte).toNat = 60 ∧ (2#8 : Byte).toNat = 2)
      ∧ ((watched 11#32).ready ∧ (watched 11#32).silence ≠ .disarmed)
      ∧ (1#8 : Byte).toNat < 2 ∧ 60 < (61#8 : Byte).toNat
      ∧ (∃ period last deadline, (watched 10#32).noRequest ∧ (watched 10#32).silence = .watching period last deadline
        ∧ clockDiff (watched 10#32).clock deadline = 0)
      ∧ (∀ period last deadline, (watched 11#32).silence = .watching period last deadline →
        0 < clockDiff (watched 11#32).clock deadline) :=
  ⟨⟨ready_reset, rfl, rfl, rfl⟩,
    ⟨⟨rfl, rfl, (by decide : (0 : Nat) < 4), rfl, rfl⟩, (fun h => nomatch h)⟩, by decide, by decide,
    ⟨_, _, _, rfl, rfl, by decide +kernel⟩, fun _ _ _ h => by cases h; decide +kernel⟩

theorem witness_AFrameEndsTheHold :
    (∃ c, Instr.frameCommand (.keepalive (.fits .none)) = some c)
      ∧ (∃ period last, (inHold floorCtx).silence = .holding period last) ∧ (inHold floorCtx).link.restarting = false
      ∧ (inHold floorCtx).link.held = none ∧ (inHold floorCtx).link.queue.length < 4
      ∧ (∃ d, (inHold floorCtx).engine.active = some d ∧ d.held = true ∧ d.phase ≠ .settling)
      ∧ (∃ d head rest, (inHold (settlingCtx [0])).engine.active = some d ∧ d.held = true ∧ d.phase = .settling
        ∧ d.queue = head :: rest ∧ hasSettled (inHold (settlingCtx [0])) head)
      ∧ ({ State.reset with silence := .holding 60 0#32 } : State).engine.active = none :=
  ⟨⟨_, rfl⟩, ⟨_, _, rfl⟩, rfl, rfl, by decide +kernel, ⟨_, rfl, rfl, (fun h => nomatch h)⟩,
    ⟨_, _, _, rfl, rfl, rfl, rfl, by unfold hasSettled; decide +kernel⟩, rfl⟩

/-- The machine with an operation of the display line in progress. -/
def displaying (o : LineOperation) (again auto : Bool) : State :=
  { State.reset with board := { Board.reset with operation := o, again := again, auto := auto } }

theorem witness_ScansFindThePanels :
    ((displaying .idle false false).ready ∧ (displaying .idle false false).board.operation = .idle)
      ∧ (State.reset.ready ∧ State.reset.board.operation ≠ .idle)
      ∧ (State.reset.noRequest ∧ State.reset.board.operation = .scan 0)
      ∧ (displaying (.scan 3) true false).board.operation = .scan 3
      ∧ (∀ p, (displaying .idle false false).board.operation ≠ .scan p)
      ∧ ((⟨3#8, 32#8, true⟩ : IdentifyReply).checkGood = true
        ∧ (⟨3#8, 32#8, true⟩ : IdentifyReply).panel.toNat = (3 : PanelId).val)
      ∧ (⟨2#8, 32#8, true⟩ : IdentifyReply).panel.toNat ≠ (3 : PanelId).val
      ∧ (⟨3#8, 32#8, false⟩ : IdentifyReply).checkGood = false :=
  ⟨⟨⟨rfl, rfl, (by decide : (0 : Nat) < 4), rfl, rfl⟩, rfl⟩, ⟨ready_reset, (fun h => nomatch h)⟩, ⟨rfl, rfl⟩, rfl,
    (fun _ h => nomatch h), ⟨rfl, rfl⟩, by decide, rfl⟩

theorem witness_UpdatesAreAcknowledgedOrFault :
    (∃ image p runs results, let s := displaying (.publish [] 3 [⟨0, []⟩] []) true false
      s.noRequest ∧ s.board.operation = .publish image p runs results ∧ s.board.again = true)
      ∧ (displaying (.publish [] 3 [⟨0, []⟩] []) false false).board.again = false
      ∧ (State.reset.panel 0).presence = .absent
      ∧ (∀ image p runs results, State.reset.board.operation ≠ .publish image p runs results)
      ∧ ((⟨3#8, true⟩ : PanelAnswer).checkGood = true ∧ (⟨3#8, true⟩ : PanelAnswer).panel.toNat = (3 : PanelId).val)
      ∧ (⟨2#8, true⟩ : PanelAnswer).panel.toNat ≠ (3 : PanelId).val ∧ (⟨3#8, false⟩ : PanelAnswer).checkGood = false :=
  ⟨⟨_, _, _, _, rfl, rfl, rfl⟩, rfl, by decide +kernel, (fun _ _ _ _ h => nomatch h), ⟨rfl, rfl⟩, by decide, rfl⟩

/-- A row of 32 cells with one glyph throughout, and a panel of some cells that shows an image. -/
def rowOf (g : Glyph) : List Cell := List.replicate 32 { glyph := g, look := .steady }
def showing (cells : Nat) (shown : Option (List Cell)) : PanelRecord :=
  { presence := .present, cells := some cells, shown := shown }

/-- An update of an UNKNOWN image carries every cell, one of an image that differs in two stretches carries two runs, and
one of the same image none. -/
theorem witness_updatesCarryTheDifferences :
    (showing 32 none).shown = none ∧ (runsFor (showing 32 none) (rowOf 36)).map Run.first = [0]
      ∧ runsFor (showing 32 (some (rowOf 36))) (rowOf 36) = []
      ∧ (runsFor (showing 32 (some (rowOf 36))) (rowOf 36 |>.set 0 ⟨1, .steady⟩ |>.set 31 ⟨1, .steady⟩)).map Run.first
          = [0, 31] := by decide +kernel

/-- The countdown of a round on a route, with a deadline. -/
def counting (deadline : ClockValue) (auto : Bool) : State :=
  { playing { ctx buzzCue .opened with roundDeadline := some deadline } with
      board := { Board.reset with
        auto := auto, routes := put Board.reset.routes 31 (some { routeOf5 with source := .roundTime }) } }

theorem witness_PublishesAreAskedFor :
    State.reset.ready ∧ (State.reset.board.auto = false)
      ∧ (∃ c n r d, let s := counting 10#32 true
          s.noRequest ∧ s.engine.active = some c ∧ s.board.auto = true ∧ s.route n = some r ∧ r.source = .roundTime
            ∧ c.roundDeadline = some d ∧ 0 ≤ clockDiff s.clock d ∧ clockDiff s.clock d % 4000 = 0)
      ∧ State.reset.engine.active = none :=
  ⟨ready_reset, rfl, ⟨_, 31, { routeOf5 with source := .roundTime }, _, rfl, rfl, rfl, by decide +kernel, rfl, rfl,
    by decide +kernel, by decide +kernel⟩, rfl⟩

/-- A request with the display line at rest and with a publish in progress, and none. -/
theorem witness_publishesStart :
    (let s := requestPublish (displaying .idle false true);
      s.board.request = true ∧ s.board.operation = .idle)
      ∧ (let s := requestPublish (displaying (.publish [] 3 [⟨0, []⟩] []) false true);
        s.board.request = true ∧ s.board.operation ≠ .idle)
      ∧ State.reset.noRequest :=
  ⟨⟨rfl, rfl⟩, ⟨rfl, (fun h => nomatch h)⟩, rfl⟩

theorem witness_RoutesAreSetAndCleared :
    (∃ n r, State.reset.ready ∧ routeOf 31#8 = some n ∧ routeOfArgs { goodRoute with firstCell := 27#8 } = some r
        ∧ r.first + r.width = 32 ∧ ∀ m q, m ≠ n → State.reset.route m = some q → r.clashes q = false)
      ∧ (∃ r, routeOfArgs { goodRoute with firstCell := 28#8 } = some r ∧ r.first + r.width = 33)
      ∧ (∃ r q, let s := counting 10#32 false
          s.ready ∧ routeOfArgs { goodRoute with firstCell := 4#8 } = some r ∧ r.first + r.width ≤ 32
            ∧ (0 : RouteId) ≠ 31 ∧ s.route 31 = some q ∧ r.clashes q = true)
      ∧ routeOf 32#8 = none ∧ routeOfArgs { goodRoute with panel := 4#8 } = none :=
  ⟨⟨31, _, ready_reset, rfl, rfl, rfl, fun m q _ h => by
      have key : ∀ m : RouteId, State.reset.route m = none := by decide +kernel
      rw [key m] at h
      cases h⟩,
    ⟨_, rfl, rfl⟩,
    ⟨_, { routeOf5 with source := .roundTime }, ⟨rfl, rfl, (by decide : (0 : Nat) < 4), rfl, rfl⟩, rfl, by decide,
      by decide, by decide +kernel, by decide⟩, rfl, rfl⟩

/-- Team 1 with a tag, and team 2 with an empty one. -/
def tagged : State :=
  (teams3.setTeam 0 { teams3.team 0 with tag := some [10, 11] }).setTeam 1 { teams3.team 1 with tag := some [] }

theorem witness_teamSourcesGive :
    (tagged.team 0).tag = some [10, 11] ∧ (tagged.team 1).tag = some [] ∧ (tagged.team 2).tag = none
      ∧ tagged.boardRanks[0]? = some 0 ∧ tagged.boardRanks[15]? = none := by decide +kernel

theorem witness_roundSourcesGive :
    State.reset.engine.active = none
      ∧ (floorCtx.holder = some 0 ∧ (∃ d, floorCtx.answerDeadline = some d) ∧ floorCtx.queue[0]? = some (claimOf 0 0)
        ∧ floorCtx.queue[2]? = none ∧ floorCtx.isPoll = false ∧ floorCtx.roundDeadline = none
        ∧ floorCtx.roundRemaining = some 80000)
      ∧ (let c := { floorCtx with answerDeadline := none, answerRemainder := some 1 };
          c.holder = some 0 ∧ c.answerDeadline = none ∧ c.answerRemainder = some 1)
      ∧ (settlingCtx [0]).holder = none ∧ (ctx pollCue .opened).isPoll = true
      ∧ (∃ d, ({ ctx buzzCue .opened with roundDeadline := some 9#32 } : Context).roundDeadline = some d)
      ∧ (let c := { ctx buzzCue .armed with roundRemaining := none }; c.roundDeadline = none ∧ c.roundRemaining = none)
      ∧ (∃ b x n, let c := { ctx pollCue .closed with
            ballot := some { ballotOf none with tallies := some (tallyOf 3 (ballotOf none).entries) } }
          c.phase = .closed ∧ c.ballot = some b ∧ b.tallies = some x ∧ x.counts[Letter.b.code]? = some n
            ∧ x.counts[Letter.d.code]? = none)
      ∧ floorCtx.phase ≠ .closed ∧ floorCtx.phase ≠ .revealed :=
  ⟨rfl, ⟨rfl, ⟨_, rfl⟩, rfl, rfl, rfl, rfl, rfl⟩, ⟨rfl, rfl, rfl⟩, rfl, rfl, ⟨_, rfl⟩, ⟨rfl, rfl⟩,
    ⟨_, _, _, rfl, rfl, rfl, rfl, rfl⟩, by decide, by decide⟩

/-- A field that is blank, one of glyphs and one of a number of each sign; a number that fits and one that does not. -/
theorem witness_fieldsAreFilled :
    State.reset.sourceValue .question = .blank ∧ State.reset.sourceValue (.text [1, 2]) = .glyphs [1, 2]
      ∧ (State.reset.setTeam 0 { TeamRecord.reset with score := -50 }).sourceValue (.teamScore 0) = .number (-50)
      ∧ State.reset.sourceValue (.teamScore 0) = .number 0
      ∧ spells [5, 0] (-50 : Int).natAbs ∧ spells [0] (0 : Int).natAbs ∧ routeOf5.width ≤ 8 ∧ routeOf5.fill = .blank
      ∧ ({ routeOf5 with fill := .zero } : Route).fill = .zero ∧ 2 < ([37, 5, 0] : List Glyph).length := by
  refine ⟨rfl, rfl, by decide +kernel, by decide +kernel, ?_, ?_, by decide, rfl, rfl, by decide⟩ <;>
    (unfold spells; decide +kernel)

def overlayOf5 : Route := { routeOf5 with layer := .overlay .held }

/-- An overlay route on a machine in a hold, over a BASE route. -/
def overlaid : State :=
  let routes := put (put Board.reset.routes 0 (some routeOf5)) 31 (some overlayOf5)
  { inHold floorCtx with board := { Board.reset with routes := routes } }

theorem witness_imageShowsTheRoutes :
    (∃ r, overlaid.route 31 = some r ∧ coversCell r 0 0 ∧ coversCell r 0 4 ∧ r.layer = .overlay .held
        ∧ overlaid.conditionHolds .held = true)
      ∧ (∃ r, overlaid.route 0 = some r ∧ coversCell r 0 4 ∧ r.layer = .base)
      ∧ ¬coversCell routeOf5 0 5 ∧ ¬coversCell routeOf5 1 0 ∧ lawful.conditionHolds .held = false :=
  ⟨⟨overlayOf5, by decide +kernel, ⟨rfl, by decide, by decide⟩,
      ⟨rfl, by decide, by decide⟩, rfl, rfl⟩,
    ⟨routeOf5, by decide +kernel, ⟨rfl, by decide, by decide⟩, rfl⟩, by unfold coversCell; decide,
    by unfold coversCell; decide, rfl⟩

theorem witness_RoundDeadlineAndFlashAct :
    (∃ c d, (playing c).noRequest ∧ (playing c).engine.active = some c ∧ c.roundDeadline = some d
        ∧ clockDiff (playing c).clock d = 0 ∧ c.phase = .opened ∧ c.isPoll = false)
      ∧ (∃ c d, (playing c).engine.active = some c ∧ c.roundDeadline = some d ∧ clockDiff (playing c).clock d ≤ 0
        ∧ c.phase = .opened ∧ c.isPoll = true)
      ∧ (∃ c d, (playing c).engine.active = some c ∧ c.roundDeadline = some d ∧ clockDiff (playing c).clock d ≤ 0
        ∧ c.phase = .settling)
      ∧ (∃ c d, (playing c).engine.active = some c ∧ c.roundDeadline = some d ∧ clockDiff (playing c).clock d = 1)
      ∧ (∃ c d, (playing c).engine.active = some c ∧ c.flashInstant = some d ∧ clockDiff (playing c).clock d = 0)
      ∧ (∃ c d, (playing c).engine.active = some c ∧ c.flashInstant = some d ∧ clockDiff (playing c).clock d = 1)
      ∧ State.reset.noRequest ∧ State.reset.engine.active = none :=
  ⟨⟨{ ctx buzzCue .opened with roundDeadline := some 10#32 }, _, rfl, rfl, rfl, by decide +kernel, rfl, rfl⟩,
    ⟨{ ctx pollCue .opened with roundDeadline := some 9#32 }, _, rfl, rfl, by decide +kernel, rfl, rfl⟩,
    ⟨{ settlingCtx [0] with roundDeadline := some 10#32 }, _, rfl, rfl, by decide +kernel, rfl⟩,
    ⟨{ settlingCtx [0] with roundDeadline := some 11#32 }, _, rfl, rfl, by decide +kernel⟩,
    ⟨{ floorCtx with flashInstant := some 10#32 }, _, rfl, rfl, by decide +kernel⟩,
    ⟨{ floorCtx with flashInstant := some 11#32 }, _, rfl, rfl, by decide +kernel⟩, rfl, rfl⟩

/-- A line at a stage of a cycle, with pad 5 PRESENT and two misses. -/
def online (speed : LineSpeed) (kind : CycleKind) (stage : CycleStage) (switch : Option SwitchRecord) : State :=
  let s := State.reset.setPad 5 { State.reset.pad 5 with presence := .present, misses := 2 }
  { s with desk := { s.desk with speed := speed, cycleKind := kind, stage := stage, switch := switch } }

def pollOf5 : Poll := { address := 5, flag := .roam, lamp := .off }

theorem witness_CyclesStart :
    (let s := online .roam .roam .atStart none;
      s.noRequest ∧ s.desk.speed = .roam ∧ s.desk.stage = .atStart ∧ s.sprintNeeded = false)
      ∧ (let s := online .roam .roam .finished none; s.desk.stage = .finished ∧ s.desk.cycleKind = .roam)
      ∧ (onRoam (ctx buzzCue .armed)).sprintNeeded = true
      ∧ (let s := online .sprint .sprint .atStart none; s.desk.speed = .sprint ∧ s.desk.stage = .atStart)
      ∧ (∃ p rest, (online .roam .roam (.polling pollOf5 []) none).desk.stage = .polling p rest)
      ∧ (∃ p, (online .roam .roam (.probing pollOf5) none).desk.stage = .probing p)
      ∧ (∃ p, (online .roam .roam (.draining pollOf5) none).desk.stage = .draining p)
      ∧ (let s := online .roam .switching .finished none; s.desk.stage = .finished ∧ s.desk.cycleKind ≠ .roam) :=
  ⟨⟨rfl, rfl, rfl, rfl⟩, ⟨rfl, rfl⟩, rfl, ⟨rfl, rfl⟩, ⟨_, _, rfl⟩, ⟨_, rfl⟩, ⟨_, rfl⟩, rfl, (fun h => nomatch h)⟩

theorem witness_MissesAreCounted :
    (∃ p, let s := online .roam .roam (.polling pollOf5 []) none
      s.noRequest ∧ s.desk.stage.openPoll = some p ∧ (s.pad p.address).presence = .present
        ∧ (s.pad p.address).misses = 2)
      ∧ (∃ p, let s := online .roam .roam (.probing { pollOf5 with address := 6 }) none
          s.desk.stage.openPoll = some p ∧ (s.pad p.address).presence ≠ .present)
      ∧ ((State.reset.setPad 5 { State.reset.pad 5 with presence := .present, misses := 1 }).pad 5).misses < 2
      ∧ (⟨5#8, noKeys, .roam, false, none, false⟩ : PadReply).checkGood = false
      ∧ State.reset.desk.stage.pollOnLine = none
      ∧ (∃ p, (online .roam .roam (.draining pollOf5) none).desk.stage = .draining p) :=
  ⟨⟨_, rfl, rfl, by decide +kernel, by decide +kernel⟩, ⟨_, rfl, by decide +kernel⟩, by decide +kernel, rfl, rfl,
    ⟨_, rfl⟩⟩

/-- R40: a reply in the slot of a cycle that RESTART has abandoned changes no pad, and a ROAM cycle starts (log 30). -/
theorem test_abandoned_slot : let s := online .roam .roam (.draining { pollOf5 with address := 6 }) none
    let t := after (.pollReplyTaken ⟨6#8, noKeys, .roam, true, none, true⟩) s
    t.roster = s.roster ∧ t.desk.stage = .polling pollOf5 [] := by decide +kernel

theorem witness_RepliesUpdateThePad :
    ∃ p r, let s := online .sprint .sprint (.polling pollOf5 []) none
      s.noRequest ∧ s.desk.stage.openPoll = some p ∧ PadReply.checkGood r = true ∧ r.address.toNat = p.address.val :=
  ⟨_, ⟨5#8, noKeys, .roam, true, none, true⟩, rfl, rfl, rfl, rfl⟩

/-- Pad 0 of team 1 with a candidate seen once, its BUZZ key pressed, in an OPEN question on a SPRINT line. -/
def pressing : State :=
  let s := playing { ctx buzzCue .opened with openInstant := some 7#32 }
  let seen : Candidate := ⟨⟨true, false, false, false, false⟩, 9#32, 1#8, 1⟩
  let s := s.setPad 0 { s.pad 0 with presence := .present, candidate := some seen }
  { s with desk := { s.desk with stage := .polling { pollOf5 with address := 0, flag := .sprint } [] } }

/-- R47, R51, R52: the reply that confirms the candidate makes a claim of the pad's team with the candidate's capture
time, which opens SETTLING. -/
theorem test_reply_presses :
    let t := after (.pollReplyTaken ⟨0#8, ⟨true, false, false, false, false⟩, .sprint, false, some 5#8, true⟩) pressing
    t.engine.active.map Context.queue
        = some [{ team := 0, pad := 0, capture := 8#32, joinCycle := 3#32, contested := false }]
      ∧ t.engine.active.map Context.phase = some .settling := by decide +kernel

theorem witness_pressesMade :
    pressing.placeOf 0 = some ⟨0, 0⟩
      ∧ pressesMade pressing 0 noKeys ⟨true, false, true, false, false⟩ 8#32
          = [⟨0, 0, .buzz, 8#32⟩, ⟨0, 0, .option .b, 8#32⟩]
      ∧ (keysAfter 10#32 2 (pressing.pad 0) ⟨true, false, false, false, false⟩ 5#8).1 ≠ (pressing.pad 0).keys := by
  decide +kernel

/-- A press of team 1, at a reading of the clock. -/
def pressAt (at' : ClockValue) (k : Key) : Press := { pad := 0, team := 0, key := k, capture := at' }
def pressOf (k : Key) : Press := pressAt 9#32 k

theorem witness_pressesAreExamined :
    State.reset.engine.active = none
      ∧ ¬passesExamination (pressOf .buzz) (ctx buzzCue .armed) (playing (ctx buzzCue .armed))
      ∧ ¬passesExamination (pressAt 6#32 .buzz) { ctx buzzCue .opened with openInstant := some 7#32 } pressing
      ∧ ¬passesExamination { pressOf .buzz with team := 3 } (ctx buzzCue .opened) pressing :=
  ⟨rfl, fun h => absurd h.1 (by decide), fun h => absurd (h.2.2.2 _ rfl) (by decide +kernel),
    fun h => absurd h.2.1 (by decide)⟩

/-- A press of team 1 passes the examination of every context in play that has teams 1 to 3. -/
theorem passes (c : Context) (p : Press) (hp : p.team = 0) (ht : c.phase.takesPresses = true) (he : c.eligible = [0, 1, 2])
    (ho : c.openInstant = none) : passesExamination p c (playing c) :=
  ⟨ht, by simp [hp, he], (by rw [hp]; exact (by decide +kernel : (teams3.team 0).state = .present)),
    fun t h => by rw [ho] at h; cases h⟩

/-- The claims of teams 2 to 9 and a queue of them, the last at the capture time 100. -/
def eightClaims : List Claim := [1, 2, 3, 4, 5, 6, 7, 8].map fun t => claimOf t 0

/-- The claims met by a press of team 1: an improvement and none, a new claim in OPEN, SETTLING and FLOOR, earlier than
the holder's and not, and a full queue, its last claim later than the press and not. -/
theorem witness_pressesMakeClaims :
    (let c := settlingCtx [0]; passesExamination (pressOf .buzz) c (playing c) ∧ c.isPoll = false
        ∧ c.queue.find? (fun q => q.team == 0) = some (claimOf 0 0) ∧ (0 : TeamId) ∉ c.lockout
        ∧ 0 < clockDiff (pressOf .buzz).capture (claimOf 0 0).capture
        ∧ clockDiff (pressAt 100#32 .buzz).capture (claimOf 0 0).capture = 0)
      ∧ (floorCtx.queue.find? (fun q => q.team == 0) = some (claimOf 0 0) ∧ floorCtx.phase ≠ .settling)
      ∧ (let c := ctx buzzCue .opened; passesExamination (pressOf .buzz) c (playing c) ∧ c.hasClaim 0 = false
        ∧ c.queue.length < 8)
      ∧ (let c := settlingCtx [1]; c.hasClaim 0 = false ∧ c.queue.length < 8)
      ∧ (let c := { floorCtx with queue := [claimOf 1 0], holder := some 1 };
          passesExamination (pressOf .buzz) c (playing c) ∧ c.hasClaim 0 = false ∧ c.queue = [claimOf 1 0]
            ∧ 0 < clockDiff (pressOf .buzz).capture (claimOf 1 0).capture
            ∧ clockDiff (pressAt 101#32 .buzz).capture (claimOf 1 0).capture < 0)
      ∧ (let c := { settlingCtx [] with queue := eightClaims };
          passesExamination (pressOf .buzz) c (playing c) ∧ c.hasClaim 0 = false ∧ c.queue.length = 8
            ∧ c.queue.getLast? = some (claimOf 8 0) ∧ 0 < clockDiff (pressOf .buzz).capture (claimOf 8 0).capture
            ∧ clockDiff (pressAt 100#32 .buzz).capture (claimOf 8 0).capture = 0)
      ∧ (let c := { ctx buzzCue .opened with lockout := [0] }; passesExamination (pressOf .buzz) c (playing c)
        ∧ 0 ∈ c.lockout) :=
  ⟨⟨passes _ _ rfl rfl rfl rfl, rfl, rfl, by decide, by decide +kernel, by decide +kernel⟩, ⟨rfl, by decide⟩,
    ⟨passes _ _ rfl rfl rfl rfl, rfl, by decide⟩, ⟨rfl, by decide⟩,
    ⟨passes _ _ rfl rfl rfl rfl, rfl, rfl, by decide +kernel, by decide +kernel⟩,
    ⟨passes _ _ rfl rfl rfl rfl, rfl, rfl, rfl, by decide +kernel, by decide +kernel⟩,
    ⟨passes _ _ rfl rfl rfl rfl, by decide⟩⟩

/-- A POLL in OPEN or in CLOSING with the ballot of teams 1 to 3, the deadline and the close instant at 20. -/
def polling (phase : Phase) : Context :=
  { ctx pollCue phase with ballot := some (ballotOf none), roundDeadline := some 20#32, closeInstant := some 20#32 }

/-- The choices met by a press: an option in range and one beyond it, a press in time and one at the deadline or the close
instant, a first choice, an earlier press and a later one of another option, of the same option. -/
theorem witness_pressesMakeVotes :
    (∀ phase, phase = .opened ∨ phase = .closing →
        passesExamination (pressOf (.option .c)) (polling phase) (playing (polling phase)))
      ∧ (∃ f b, (polling .closing).pollFields = some f ∧ (polling .closing).ballot = some b
        ∧ Letter.c.code < f.options ∧ f.options ≤ Letter.d.code)
      ∧ (∀ d, (polling .opened).roundDeadline = some d → 0 < clockDiff (pressOf (.option .c)).capture d)
      ∧ (∃ d, (polling .opened).roundDeadline = some d ∧ clockDiff (pressAt 20#32 (.option .c)).capture d ≤ 0)
      ∧ (∃ d, (polling .closing).closeInstant = some d ∧ clockDiff (pressAt 20#32 (.option .c)).capture d ≤ 0)
      ∧ (∃ e v : _, e ∈ (ballotOf none).entries ∧ e.team = 0 ∧ BallotEntry.vote e = some v
        ∧ 0 < clockDiff (pressOf (.option .c)).capture v.capture ∧ 0 < clockDiff v.capture 91#32 ∧ Letter.c ≠ v.choice)
      ∧ (∃ e ∈ (ballotOf none).entries, e.team = 1 ∧ e.vote = none) := by
  refine ⟨fun phase h => passes _ _ rfl ?_ rfl rfl, ⟨_, _, rfl, rfl, by decide, by decide⟩, fun d h => ?_,
    ⟨_, rfl, by decide +kernel⟩, ⟨_, rfl, by decide +kernel⟩,
    ⟨_, _, List.mem_cons_self, rfl, rfl, by decide +kernel, by decide +kernel, by decide⟩,
    ⟨_, List.mem_cons_of_mem _ List.mem_cons_self, rfl, rfl⟩⟩
  · rcases h with h | h <;> subst h <;> rfl
  · cases h
    decide +kernel

/-- R127 to R129: a second choice under each policy, and the change count at its end. -/
theorem test_second_choice :
    let v : Vote := ⟨.b, 90#32, 90#32⟩
    let e : BallotEntry := { team := 0, vote := some v, changes := 255, skipped := false }
    let b := fun s : State => (s.engine.active.bind Context.ballot).map fun b =>
      (b.entries.map fun e => (e.vote.map Vote.choice, e.changes)).head?
    let c := fun policy => { polling .opened with
      cue := cueOf (.poll { pollPart with policy := policy }), ballot := some { ballotOf none with entries := [e] },
      roundDeadline := some 200#32 }
    b (takePress (pressAt 91#32 (.option .c)) (playing (c .lastStands))) = some (some (some .c, 255))
      ∧ b (takePress (pressAt 91#32 (.option .c)) (playing (c .firstStands))) = some (some (some .b, 255))
      ∧ b (takePress (pressAt 89#32 (.option .c)) (playing (c .firstStands))) = some (some (some .c, 255)) := by
  decide +kernel

/-- A POLL in CLOSING since a count of SPRINT cycles, on a SPRINT line whose cycle has ended. -/
def closingAt (n : ClockValue) : State :=
  let s := playing { ctx pollCue .closing with ballot := some (ballotOf (some n)) }
  { s with desk := { s.desk with stage := .finished } }

def settlingAt (joined : Nat) : State :=
  let s := playing { ctx buzzCue .settling with queue := [claimOf 1 joined] }
  { s with desk := { s.desk with stage := .finished } }

theorem witness_CyclesEnd :
    (∃ c head rest, let s := settlingAt 1
      s.noRequest ∧ s.desk.speed = .sprint ∧ s.desk.cycleKind = .sprint ∧ s.desk.stage = .finished
        ∧ s.engine.active = some c ∧ c.phase = .settling ∧ c.queue = head :: rest ∧ c.held = false
        ∧ hasSettled { s with desk := { s.desk with sprintCount := s.desk.sprintCount + 1#32 } } head)
      ∧ (∃ c head rest, let s := settlingAt 2
          s.engine.active = some c ∧ c.queue = head :: rest
            ∧ ¬hasSettled { s with desk := { s.desk with sprintCount := s.desk.sprintCount + 1#32 } } head)
      ∧ (∃ c b n cause, let s := closingAt 1#32
          s.engine.active = some c ∧ c.phase = .closing ∧ c.ballot = some b ∧ b.startCount = some n
            ∧ b.closeCause = some cause ∧ s.debounce + 1 = (s.desk.sprintCount + 1#32 - n).toNat)
      ∧ ((closingAt 2#32).desk.sprintCount + 1#32 - 2#32).toNat < (closingAt 2#32).debounce + 1
      ∧ State.reset.desk.speed ≠ .sprint
      ∧ (∃ w, let s := online .roam .switching .finished (some ⟨15, []⟩)
          s.noRequest ∧ s.desk.switch = some w ∧ s.desk.cycleKind = .switching ∧ s.desk.stage = .finished
            ∧ 16 ≤ w.completed + 1 ∧ ((s.padsWith .present).filter fun a => !w.echoed.contains a) ≠ [])
      ∧ (∃ w, let s := online .roam .switching .finished (some ⟨14, []⟩)
          s.desk.switch = some w ∧ w.completed + 1 < 16
            ∧ ((s.padsWith .present).filter fun a => !w.echoed.contains a) ≠ [])
      ∧ (∃ w, let s := online .roam .switching .finished (some ⟨0, [5]⟩)
          s.desk.switch = some w ∧ ((s.padsWith .present).filter fun a => !w.echoed.contains a) = [])
      ∧ State.reset.desk.switch = none :=
  ⟨⟨_, _, _, rfl, rfl, rfl, rfl, rfl, rfl, rfl, rfl, by unfold hasSettled; decide +kernel⟩,
    ⟨_, _, _, rfl, rfl, by unfold hasSettled; decide +kernel⟩,
    ⟨_, _, _, _, rfl, rfl, rfl, rfl, rfl, by decide +kernel⟩, by decide +kernel, (fun h => nomatch h),
    ⟨_, rfl, rfl, rfl, rfl, by decide, by decide +kernel⟩, ⟨_, rfl, by decide, by decide +kernel⟩,
    ⟨_, rfl, by decide +kernel⟩, rfl⟩

end Sys2Proof.Tests
end

