-- ==== Sys2Proof/Proofs/PadsAndLayouts.lean ====
section
/-! PROOFS. The layout modes of R9, LAYOUT_SET (R14, R15) and PAD_FORGET (R16). -/

namespace Sys2Proof.Proofs
open Sys2Proof Sys2Proof.Machine

/-! ### Frames of commands that act on the state told of their frame -/

/-- What a command leaves alone of the state it acts on, it leaves alone of the state before its frame but for
the link port and the silence monitor. -/
theorem unchangedBut_of_told {l : List Block} {s u : State} (h : unchangedBut l s.told u) :
    unchangedBut (.link :: .silence :: l) s u := by
  intro b hb
  have htold : b.same s s.told := told_unchanged l s b hb
  have hact : b.same s.told u := h b fun hl => hb (.tail _ (.tail _ hl))
  cases b <;> exact hact.trans htold

/-- Between events no request for a publish is left over. -/
theorem request_of_ready {s : State} (h : s.ready) : s.board.request = false := by
  obtain ⟨_, _, _, _, hrequest⟩ := h
  exact hrequest

theorem setPad_unchangedBut (s : State) (a : PadAddr) (r : PadRecord) : unchangedBut [.pads] s (s.setPad a r) := by
  intro b hb
  cases b with
  | pads => exact absurd (.head _) hb
  | _ => rfl

theorem layOut_unchangedBut (m : Layout) (s : State) : unchangedBut [.pads, .layout] s (layOut m s) := by
  intro b hb
  cases b with
  | pads => exact absurd (.head _) hb
  | layout => exact absurd (.tail _ (.head _)) hb
  | _ => rfl

theorem pad_enqueue (e : QueueEntry) (s : State) (a : PadAddr) : (enqueue e s).pad a = s.pad a := rfl

theorem placeOf_enqueue (e : QueueEntry) (s : State) (a : PadAddr) : (enqueue e s).placeOf a = s.placeOf a := rfl

/-! ### The layout modes (R9) -/

theorem defaultPlace_grid16_iff (a : PadAddr) (t : TeamId) (n : Seat) :
    defaultPlace .grid16 a = some ⟨t, n⟩ ↔ t.val + 1 = a.val / 4 + 1 ∧ n.val + 1 = a.val % 4 + 1 := by
  simp only [defaultPlace, Option.some.injEq, Place.mk.injEq, Fin.ext_iff]
  omega

theorem defaultPlace_grid8_iff (a : PadAddr) (t : TeamId) (n : Seat) :
    defaultPlace .grid8 a = some ⟨t, n⟩ ↔ t.val + 1 = a.val / 8 + 1 ∧ n.val + 1 = a.val % 8 + 1 := by
  simp only [defaultPlace, Option.some.injEq, Place.mk.injEq, Fin.ext_iff]
  omega

/-- SPLIT gives the first 32 addresses teams of four and the others teams of eight from team 9 on. -/
theorem defaultPlace_split_iff (a : PadAddr) (t : TeamId) (n : Seat) :
    defaultPlace .split a = some ⟨t, n⟩ ↔
      (a.val < 32 → t.val + 1 = a.val / 4 + 1 ∧ n.val + 1 = a.val % 4 + 1)
      ∧ (32 ≤ a.val → t.val + 1 = 9 + (a.val - 32) / 8 ∧ n.val + 1 = a.val % 8 + 1) := by
  by_cases h : a.val < 32
  · simp only [defaultPlace, if_pos h, Option.some.injEq, Place.mk.injEq, Fin.ext_iff]
    omega
  · simp only [defaultPlace, if_neg h, Option.some.injEq, Place.mk.injEq, Fin.ext_iff]
    omega

theorem layoutModes_giveTheirDefaults : layoutModesGiveTheirDefaults := fun a t n =>
  ⟨defaultPlace_grid16_iff a t n, defaultPlace_grid8_iff a t n, defaultPlace_split_iff a t n, rfl⟩

/-! ### LAYOUT_SET (R14, R15) -/

theorem layoutSet_badMode {b : Byte} (h : layoutOf b = none) (s : State) : layoutSet b s = (s, refuse .badValue) := by
  simp only [layoutSet, h]

theorem layoutSet_atRest {b : Byte} {m : Layout} {s : State} (hb : layoutOf b = some m)
    (hidle : s.engine.active = none) (hstack : s.stack = []) : layoutSet b s = (layOut m s, ok []) := by
  simp [layoutSet, hb, hidle, hstack]

theorem layoutSet_inPlay {b : Byte} {s : State} (hb : layoutOf b ≠ none)
    (h : s.engine.active ≠ none ∨ s.stack ≠ []) : layoutSet b s = (s, refuse .wrongState) := by
  obtain ⟨m, hm⟩ := Option.ne_none_iff_exists'.mp hb
  have hbusy : ¬(s.engine.active.isNone && s.stack.isEmpty) = true := by
    rw [Bool.and_eq_true, Option.isNone_iff_eq_none, List.isEmpty_iff]
    exact fun ⟨hidle, hstack⟩ => h.elim (· hidle) (· hstack)
  simp only [layoutSet, hm, if_neg hbusy]

/-- With every pad at its default, the effective places are those of the new mode. -/
theorem placeOf_layOut (m : Layout) (s : State) (a : PadAddr) : (layOut m s).placeOf a = defaultPlace m a := by
  rw [State.placeOf, pad_layOut]
  rfl

/-- The record LAYOUT_SET leaves of a pad, in the words of R15: the candidate stays where the place stays. -/
theorem pad_layOut_of_place (m : Layout) (s : State) (a : PadAddr) :
    (layOut m s).pad a = { s.pad a with
      assignment := .byDefault
      candidate := if defaultPlace m a = s.placeOf a then (s.pad a).candidate else none } := by
  rw [pad_layOut]
  by_cases h : defaultPlace m a = s.placeOf a <;> simp [h]

theorem exec_layoutSet (p : Payload Byte) (s : State) :
    exec (.layoutSet p) s = frameArrives (.layoutSet p) s := rfl

theorem layoutSet_completes {b : Byte} {m : Layout} {s : State} (hs : s.ready) (hb : layoutOf b = some m)
    (hidle : s.engine.active = none) (hstack : s.stack = []) :
    completes (.layoutSet (.fits b)) s 0x03#8 (ok []) [.pads, .layout] fun t =>
      t.roster.layout = m ∧ ∀ a, t.placeOf a = defaultPlace m a
        ∧ t.pad a = { s.pad a with
            assignment := .byDefault
            candidate := if defaultPlace m a = s.placeOf a then (s.pad a).candidate else none } := by
  have hrun : runCommand (.layoutSet (.fits b)) s.told = (layOut m s.told, ok []) :=
    layoutSet_atRest (s := s.told) hb hidle hstack
  have hrequest : s.board.request = false := request_of_ready hs
  refine completes_quiet _ (exec_layoutSet _ s) rfl hs hrun rfl rfl hrequest
    (unchangedBut_of_told (layOut_unchangedBut m s.told)) ⟨rfl, fun a => ⟨?_, ?_⟩⟩
  · rw [placeOf_enqueue, placeOf_layOut]
  · rw [pad_enqueue, pad_layOut_of_place, pad_told, placeOf_told]

/-! ### PAD_FORGET (R16) -/

theorem padForget_badPad {b : Byte} (h : padOf b = none) (s : State) : padForget b s = (s, refuse .badValue) := by
  simp only [padForget, h]

theorem padForget_lost {b : Byte} {a : PadAddr} {s : State} (hb : padOf b = some a)
    (h : (s.pad a).presence = .lost) :
    padForget b s = (s.setPad a { s.pad a with presence := .absent, misses := 0, batteryLow := false }, ok []) := by
  simp only [padForget, hb, if_pos h]

theorem padForget_notLost {b : Byte} {a : PadAddr} {s : State} (hb : padOf b = some a)
    (h : (s.pad a).presence ≠ .lost) : padForget b s = (s, refuse .wrongState) := by
  simp only [padForget, hb, if_neg h]

theorem exec_padForget (p : Payload Byte) (s : State) :
    exec (.padForget p) s = frameArrives (.padForget p) s := rfl

theorem padForget_completes {b : Byte} {a : PadAddr} {s : State} (hs : s.ready) (hb : padOf b = some a)
    (h : (s.pad a).presence = .lost) :
    completes (.padForget (.fits b)) s 0x04#8 (ok []) [.pads] fun t =>
      t.pad a = { s.pad a with presence := .absent, misses := 0, batteryLow := false }
        ∧ ∀ n, n ≠ a → t.pad n = s.pad n := by
  have hrun : runCommand (.padForget (.fits b)) s.told = (s.told.setPad a
      { s.told.pad a with presence := .absent, misses := 0, batteryLow := false }, ok []) :=
    padForget_lost (s := s.told) hb h
  have hrequest : s.board.request = false := request_of_ready hs
  refine completes_quiet _ (exec_padForget _ s) rfl hs hrun rfl rfl hrequest
    (unchangedBut_of_told (setPad_unchangedBut s.told a _)) ⟨?_, fun n hn => ?_⟩
  · rw [pad_enqueue, pad_setPad, if_pos rfl, pad_told]
  · rw [pad_enqueue, pad_setPad, if_neg hn.symm, pad_told]

/-! ### The two commands together -/

theorem layoutSet_and_padForget_act : layoutSetAndPadForgetAct := by
  intro s b hs
  refine ⟨?layoutOk, ?layoutBad, ?layoutBusy, ?forgetOk, ?forgetNotLost, ?forgetBad⟩
  case layoutOk => exact fun m hb hidle hstack => layoutSet_completes hs hb hidle hstack
  case layoutBad => exact fun hb => completes_same _ (exec_layoutSet _ s) rfl hs (layoutSet_badMode hb s.told)
  case layoutBusy =>
    exact fun hb hbusy => completes_same _ (exec_layoutSet _ s) rfl hs (layoutSet_inPlay (s := s.told) hb hbusy)
  case forgetOk => exact fun a hb hlost => padForget_completes hs hb hlost
  case forgetNotLost =>
    exact fun a hb h => completes_same _ (exec_padForget _ s) rfl hs (padForget_notLost (s := s.told) hb h)
  case forgetBad => exact fun hb => completes_same _ (exec_padForget _ s) rfl hs (padForget_badPad hb s.told)

/-- Settles O28: the commands by the outcomes of their checks, and the defaults mode by mode. -/
theorem layoutAndForgetAct : Obligations.LayoutAndForgetAct :=
  ⟨layoutSet_and_padForget_act, layoutModes_giveTheirDefaults⟩

end Sys2Proof.Proofs
end

