-- ==== Sys2Proof/Proofs/CueStore.lean ====
section
/-! PROOFS. CUE_POINT (R63). -/

namespace Sys2Proof.Proofs
open Sys2Proof Sys2Proof.Machine

/-! ### Slot bytes (R188) -/

theorem indexBelow_eq_some_iff {n v : Nat} {i : Fin n} : indexBelow n v = some i ↔ v = i.val := by
  by_cases h : v < n
  · simp only [indexBelow, dif_pos h, Option.some.injEq, Fin.ext_iff]
  · simp only [indexBelow, dif_neg h, reduceCtorEq, false_iff]
    omega

theorem indexBelow_eq_none_iff {n v : Nat} : indexBelow n v = none ↔ n ≤ v := by
  simp only [indexBelow, dite_eq_right_iff, reduceCtorEq, imp_false, Nat.not_lt]

theorem slotOf_eq_some_iff {b : Byte} {x : SlotId} : slotOf b = some x ↔ b.toNat = x.val := indexBelow_eq_some_iff

theorem slotOf_eq_none_iff {b : Byte} : slotOf b = none ↔ 64 ≤ b.toNat := indexBelow_eq_none_iff

/-! ### CUE_POINT (R63) -/

theorem cuePoint_badSlot {b : Byte} (h : slotOf b = none) (s : State) : cuePoint b s = (s, refuse .badValue) := by
  simp only [cuePoint, h]

theorem cuePoint_slot {b : Byte} {x : SlotId} (h : slotOf b = some x) (s : State) :
    cuePoint b s = ({ s with cues := { s.cues with pointer := x } },
      ok [.slot s.cues.pointer, .slot x, .name (s.cueSlot x).code]) := by
  simp only [cuePoint, h]

theorem withCues_unchangedBut (s : State) (cues : CueStore) : unchangedBut [.cues] s { s with cues := cues } := by
  intro b hb
  cases b with
  | cues => exact absurd (.head _) hb
  | _ => rfl

theorem exec_cuePoint (p : Payload Byte) (s : State) :
    exec (.cuePoint p) s = frameArrives (.cuePoint p) s := rfl

/-- The state of the slot named decides nothing: it is only reported. -/
theorem cuePoint_completes {b : Byte} {x : SlotId} {s : State} (hs : s.ready) (hb : slotOf b = some x) :
    completes (.cuePoint (.fits b)) s 0x0E#8
      (ok [.slot s.cues.pointer, .slot x, .name (s.cueSlot x).code]) [.cues] fun t =>
        t.cues = { s.cues with pointer := x } := by
  have hrun : runCommand (.cuePoint (.fits b)) s.told = ({ s.told with cues := { s.cues with pointer := x } },
      ok [.slot s.cues.pointer, .slot x, .name (s.cueSlot x).code]) :=
    cuePoint_slot hb s.told
  have hrequest : s.board.request = false := request_of_ready hs
  exact completes_quiet _ (exec_cuePoint _ s) rfl hs hrun rfl rfl hrequest
    (unchangedBut_of_told (withCues_unchangedBut s.told _)) rfl

/-- Settles O32: by whether the byte names a slot. -/
theorem cuePointMovesThePointer : Obligations.CuePointMovesThePointer := by
  intro s b hs
  refine ⟨fun x hb => ?inRange, fun hb => ?outOfRange⟩
  case inRange => exact cuePoint_completes hs (slotOf_eq_some_iff.mpr hb)
  case outOfRange =>
    exact completes_same _ (exec_cuePoint _ s) rfl hs (cuePoint_badSlot (slotOf_eq_none_iff.mpr hb) s.told)

end Sys2Proof.Proofs
end

/-! PROOFS. The counts and the streak by the cause of the award applied (R144). -/

namespace Sys2Proof.Proofs
open Sys2Proof Sys2Proof.Machine

/-! ### What applying an award does to its team's counts (R143, R144) -/

/-- Within the range of a count the model's bound check is R144's exception at 255. -/
theorem raiseCount_of_le {n : Nat} (h : n ≤ 255) : raiseCount n = if n = 255 then 255 else n + 1 := by
  rcases Nat.lt_or_eq_of_le h with hlt | rfl
  · exact (if_pos hlt).trans (if_neg (Nat.ne_of_lt hlt)).symm
  · rfl

theorem applyOne_team_same (a : Award) (s : State) :
    (applyOne a s).team a.team = (s.team a.team).afterAward a := by
  rw [applyOne_eq]
  exact look_put_same s.roster.teams a.team _

/-- Step 2 of R143: the counts and the streak depend on the cause and on themselves alone. -/
theorem applyOne_counts (a : Award) (s : State) :
    ((applyOne a s).team a.team).correct = correctAfter a.cause (s.team a.team).correct
    ∧ ((applyOne a s).team a.team).wrong = wrongAfter a.cause (s.team a.team).wrong
    ∧ ((applyOne a s).team a.team).streak = streakAfter a.cause (s.team a.team).streak := by
  rw [applyOne_team_same]
  exact ⟨rfl, rfl, rfl⟩

/-- Settles O43: by the rows of R144's table; counts in range make every raise stop exactly at 255. -/
theorem countsFollowTheCause : Obligations.CountsFollowTheCause := by
  intro s a before after up hrange
  obtain ⟨hcorrect, hwrong, hstreak⟩ := applyOne_counts a s
  obtain ⟨-, -, hc, hw, hk⟩ := hrange a.team
  refine ⟨fun h => ?correct, fun h => ?wrong, fun h => ?revealRight, fun h => ?revealWrong, fun h => ?others⟩
  case correct =>
    rw [h] at hcorrect hwrong hstreak
    exact ⟨hcorrect.trans (raiseCount_of_le hc), hwrong, hstreak.trans (raiseCount_of_le hk)⟩
  case wrong =>
    rw [h] at hcorrect hwrong hstreak
    exact ⟨hcorrect, hwrong.trans (raiseCount_of_le hw), hstreak⟩
  case revealRight =>
    rw [h] at hcorrect hwrong hstreak
    exact ⟨hcorrect.trans (raiseCount_of_le hc), hwrong, hstreak⟩
  case revealWrong =>
    rw [h] at hcorrect hwrong hstreak
    exact ⟨hcorrect, hwrong.trans (raiseCount_of_le hw), hstreak⟩
  case others =>
    rcases h with h | h | h <;> rw [h] at hcorrect hwrong hstreak <;> exact ⟨hcorrect, hwrong, hstreak⟩

end Sys2Proof.Proofs

/-! PROOFS. What one step does, once for every command and event, and the package of every induction over
steps: a predicate kept by each operation of the part is kept by every step. -/

namespace Sys2Proof.Proofs
open Sys2Proof Sys2Proof.Machine

/-! ### Every command and event as one operation on the state -/

/-- What a command or event does to the state before the requests for a publish are taken (R181). -/
def effectOf (i : Instr) (s : State) : State :=
  match i.frameCommand, i with
  | some c, _ => frameCompletes (.command c) s
  | none, .powerOnReset strap => resetPart strap .power s
  | none, .lineReset strap => resetPart strap .line s
  | none, .restartEffect => restartTakesEffect s
  | none, .badKindFrame kind => frameCompletes (.badKind kind) s
  | none, .checkReject => frameRejected .check s
  | none, .lengthReject => frameRejected .length s
  | none, .truncatedReject => gapRunsOut s
  | none, .replySent => entrySent s
  | none, .noticeBegin => noticeBegins s
  | none, .noticeEnd => noticeEnds s
  | none, .roamCycleStart => roamStart s
  | none, .sprintCycleStart => sprintStart s
  | none, .pollReplyTaken r => replyArrives r s
  | none, .pollMiss => pollMissed s
  | none, .switchCycleEnd => switchCycleEnded s
  | none, .sprintCycleEnd => sprintCycleEnded s
  | none, .roundDeadlineExpiry => roundExpiry s
  | none, .answerDeadlineExpiry => answerExpiry s
  | none, .flashInstant => flashReached s
  | none, .lapse => lapse s
  | none, .silenceDeadline => silenceReached s
  | none, .panelAck a => panelAnswers a s
  | none, .panelAckTimeout => panelSilent s
  | none, .identifyAnswer a => identifyAnswers a s
  | none, .identifyTimeout => identifySilent s
  | none, .countdownSecond => countdownSecond s
  | none, .byteReceived b stop => byteArrives b stop s
  | none, _ => s

/-- Every command and event answers a next state: its operation, with the requests for a publish taken. -/
theorem exec_eq_next (i : Instr) (s : State) : exec i s = .next (takeRequest (effectOf i s)) := by
  cases i <;> rfl

theorem effectOf_command {i : Instr} {c : Command} (h : i.frameCommand = some c) (s : State) :
    effectOf i s = frameCompletes (.command c) s := by
  simp only [effectOf, h]

/-- A command row is the arrival of its frame. -/
theorem exec_command {i : Instr} {c : Command} (h : i.frameCommand = some c) (s : State) :
    exec i s = frameArrives c s := by
  rw [exec_eq_next, effectOf_command h]
  rfl

/-- An event's step is its operation alone when it asks for no publish. -/
theorem exec_quiet {i : Instr} {s u : State} (hu : effectOf i s = u) (hq : u.board.request = false) :
    exec i s = .next u := by
  rw [exec_eq_next, hu, takeRequest_quiet hq]

/-- A step is one tick of the clock, or the operation at the front of the queue with the requests taken. -/
theorem step_cases {s t : State} (h : step s = .next t) :
    t = tick s ∨ ∃ i rest, t = takeRequest (effectOf i { s with pending := rest }) := by
  unfold step at h
  split at h
  · exact .inl (Host.Outcome.next.inj h).symm
  · rw [exec_eq_next] at h
    exact .inr ⟨_, _, (Host.Outcome.next.inj h).symm⟩

/-! ### Predicates every command and event keeps -/

/-- `P` is kept by each operation a command or event is made of: what happens on the control link (frames,
bytes and notices), the commands themselves, which a frame lets act outside a hold (R165), the resets, and the events of the lines and timers. -/
structure KeptByEvents (P : State → Prop) : Prop where
  link : ∀ s l, P s → P { s with link := l }
  notices : ∀ s n, P s → P { s with notices := n }
  discard : ∀ k s, P s → P (discardPending k s)
  request : ∀ s, P s → P (takeRequest s)
  frame : ∀ s, P s → P (validFrame s)
  command : ∀ c s, s.holding = false → P s → P (runCommand c s).1
  reset : ∀ strap cause s, P s → P (resetPart strap cause s)
  restart : ∀ s, P s → P (restartTakesEffect s)
  roam : ∀ s, P s → P (roamStart s)
  sprint : ∀ s, P s → P (sprintStart s)
  reply : ∀ r s, P s → P (replyArrives r s)
  miss : ∀ s, P s → P (pollMissed s)
  switched : ∀ s, P s → P (switchCycleEnded s)
  cycled : ∀ s, P s → P (sprintCycleEnded s)
  expiry : ∀ s, P s → P (roundExpiry s)
  answer : ∀ s, P s → P (answerExpiry s)
  flash : ∀ s, P s → P (flashReached s)
  lapse : ∀ s, P s → P (Machine.lapse s)
  silence : ∀ s, P s → P (silenceReached s)
  panel : ∀ a s, P s → P (panelAnswers a s)
  panelOut : ∀ s, P s → P (panelSilent s)
  identify : ∀ a s, P s → P (identifyAnswers a s)
  identifyOut : ∀ s, P s → P (identifySilent s)
  countdown : ∀ s, P s → P (countdownSecond s)

/-- A valid frame is not taken in a hold: it ends it (R165, R168). -/
theorem validFrame_holding (s : State) : (validFrame s).holding = false := by
  unfold validFrame
  split
  next h => simp [State.holding, h]
  next => rfl
  next => simp [State.holding, endHold, watchFrom]

section
variable {P : State → Prop} (K : KeptByEvents P)
include K

theorem KeptByEvents.executeFrame (f : Frame) (s : State) (h : P s) : P (Machine.executeFrame f s) := by
  cases f with
  | command c => exact K.link _ _ (K.command c _ (validFrame_holding s) (K.frame s h))
  | badKind kind => exact K.link s _ h

theorem KeptByEvents.takeItem (x : HeldItem) (s : State) (h : P s) : P (Machine.takeItem x s) := by
  cases x with
  | frame f => exact K.executeFrame f s h
  | rejection r => exact K.link s _ h

theorem KeptByEvents.itemArrives (x : HeldItem) (s : State) (h : P s) : P (Machine.itemArrives x s) := by
  unfold Machine.itemArrives
  split
  · exact h
  · split
    · exact K.notices s _ h
    · split
      · exact K.takeItem x s h
      · exact K.link s _ h

theorem KeptByEvents.frameCompletes (f : Frame) (s : State) (h : P s) : P (Machine.frameCompletes f s) :=
  K.itemArrives _ _ (K.link s _ h)

theorem KeptByEvents.frameRejected (r : RejectReason) (s : State) (h : P s) : P (Machine.frameRejected r s) :=
  K.itemArrives _ _ (K.link s _ h)

theorem KeptByEvents.gapRunsOut (s : State) (h : P s) : P (Machine.gapRunsOut s) := by
  unfold Machine.gapRunsOut
  split
  · exact K.frameRejected _ s h
  · exact h

theorem KeptByEvents.nextEntry (s : State) (h : P s) : P (Machine.nextEntry s) := by
  unfold Machine.nextEntry
  split <;> exact K.link s _ h

theorem KeptByEvents.takeHeld (s : State) (h : P s) : P (Machine.takeHeld s) := by
  unfold Machine.takeHeld
  split
  · exact h
  · exact K.takeItem _ _ (K.link s _ h)

theorem KeptByEvents.entrySent (s : State) (h : P s) : P (Machine.entrySent s) := by
  unfold Machine.entrySent
  split
  · dsimp only
    split
    · exact K.nextEntry _ (K.takeHeld _ (K.link s _ h))
    · exact K.nextEntry _ (K.link s _ h)
  · exact h
  · exact h

theorem KeptByEvents.noticeBegins (s : State) (h : P s) : P (Machine.noticeBegins s) := by
  unfold Machine.noticeBegins
  split
  · split
    · exact K.link _ _ (K.discard _ s h)
    · exact h
  · exact h

theorem KeptByEvents.noticeEnds (s : State) (h : P s) : P (Machine.noticeEnds s) := by
  unfold Machine.noticeEnds
  split
  · exact K.nextEntry s h
  · exact h
  · exact h

theorem KeptByEvents.collectByte (bytes : List Byte) (damaged : Bool) (s : State) (h : P s) :
    P (Machine.collectByte bytes damaged s) := by
  unfold Machine.collectByte
  split
  · exact h
  · split
    · exact K.frameRejected _ s h
    · split
      · exact K.link s _ h
      · split
        · exact K.frameCompletes _ s h
        · exact K.frameRejected _ s h

theorem KeptByEvents.byteArrives (b : Byte) (stop : Bool) (s : State) (h : P s) :
    P (Machine.byteArrives b stop s) := by
  unfold Machine.byteArrives
  split
  · split
    · exact K.link s _ h
    · exact h
  · exact K.collectByte _ _ s h

/-- One field of `KeptByEvents`, or one part of the control link, for each row of the table. -/
theorem KeptByEvents.effectOf (i : Instr) (s : State) (h : P s) : P (Proofs.effectOf i s) := by
  cases i with
  | powerOnReset strap => exact K.reset strap .power s h
  | lineReset strap => exact K.reset strap .line s h
  | restartEffect => exact K.restart s h
  | badKindFrame kind => exact K.frameCompletes _ s h
  | checkReject => exact K.frameRejected _ s h
  | lengthReject => exact K.frameRejected _ s h
  | truncatedReject => exact K.gapRunsOut s h
  | replySent => exact K.entrySent s h
  | noticeBegin => exact K.noticeBegins s h
  | noticeEnd => exact K.noticeEnds s h
  | roamCycleStart => exact K.roam s h
  | sprintCycleStart => exact K.sprint s h
  | pollReplyTaken r => exact K.reply r s h
  | pollMiss => exact K.miss s h
  | switchCycleEnd => exact K.switched s h
  | sprintCycleEnd => exact K.cycled s h
  | roundDeadlineExpiry => exact K.expiry s h
  | answerDeadlineExpiry => exact K.answer s h
  | flashInstant => exact K.flash s h
  | lapse => exact K.lapse s h
  | silenceDeadline => exact K.silence s h
  | panelAck a => exact K.panel a s h
  | panelAckTimeout => exact K.panelOut s h
  | identifyAnswer a => exact K.identify a s h
  | identifyTimeout => exact K.identifyOut s h
  | countdownSecond => exact K.countdown s h
  | byteReceived b stop => exact K.byteArrives b stop s h
  | _ => exact K.frameCompletes (.command _) s h

/-- Every step keeps what the commands, the events and the clock keep, wherever the queue of commands is not
part of it. -/
theorem KeptByEvents.step (hqueue : ∀ s q, P s → P { s with pending := q }) (hclock : ∀ s, P s → P (tick s))
    {s t : State} (h : P s) (ht : Machine.step s = .next t) : P t := by
  obtain rfl | ⟨i, rest, rfl⟩ := step_cases ht
  · exact hclock s h
  · exact K.request _ (K.effectOf i _ (hqueue s rest h))

end

/-- A command whose payload fits acts; one that does not changes nothing (R190). -/
theorem withArgs_keeps {P : State → Prop} {α : Type} {act : α → State → State × Answer} {s : State}
    (h : P s) (hact : ∀ a, P (act a s).1) (p : Payload α) : P (withArgs p act s).1 := by
  cases p with
  | fits a => exact hact a
  | misfit => exact h

/-! ### The queue of commands (O3) and the front of the queue (O1, O2) -/

theorem releaseThenRestart_pending (s : State) : (restartTakesEffect s).pending = s.pending := by
  unfold restartTakesEffect
  split
  · simp [restartBlocks]
  · rfl

/-- No command or event touches the queue of commands still to come. -/
theorem pending_keptByEvents (q : List Instr) : KeptByEvents fun s => s.pending = q where
  link _ _ h := h
  notices _ _ h := h
  discard k s h := by simpa using h
  request s h := by simpa using h
  frame s h := by simpa using h
  command c s _ h := by simpa using h
  reset _ _ _ h := h
  restart s h := (releaseThenRestart_pending s).trans h
  roam s h := by simpa using h
  sprint s h := by simpa using h
  reply r s h := by simpa using h
  miss s h := by simpa using h
  switched s h := by simpa using h
  cycled s h := by simpa using h
  expiry s h := by simpa using h
  answer s h := by simpa using h
  flash s h := by simpa using h
  lapse s h := by simpa using h
  silence s h := by simpa using h
  panel a s h := by simpa using h
  panelOut s h := by simpa using h
  identify a s h := by simpa using h
  identifyOut s h := by simpa using h
  countdown s h := by simpa using h

/-- Settles O3: every row is one operation followed by the taking of requests, and none of them touches the
queue. -/
theorem everyCommandAnswers : Obligations.EveryCommandAnswers := fun i s =>
  have K := pending_keptByEvents s.pending
  ⟨_, exec_eq_next i s, K.request _ (K.effectOf i s rfl)⟩

/-- Settles O1, by the branch of `step` on a queue that is not empty. -/
theorem stepRunsFrontCommand : Obligations.StepRunsFrontCommand := by
  intro s c rest h
  simp only [step, h]

/-- Settles O2, by the branch of `step` on an empty queue. -/
theorem idleStepTicks : Obligations.IdleStepTicks := by
  intro s h
  simp only [step, h, tick]

end Sys2Proof.Proofs

/-! PROOFS. The three laws of the score unit (R143, R149, R154), kept by every step. -/

namespace Sys2Proof.Proofs
open Sys2Proof Sys2Proof.Machine

/-! ### What changes the scores and the award lock -/

/-- `P` reads the team table, the lock, the waiting awards and the changed set alone, and is kept by each
operation that writes them: the application of an award, its listing behind a held lock, the end and the start
of a lock, TEAM_SET, the discard of SCORE and the resets. -/
structure KeptByAwards (P : State → Prop) : Prop where
  congr : ∀ s t : State, t.roster.teams = s.roster.teams → t.scores.lock = s.scores.lock →
    t.scores.pendingAwards = s.scores.pendingAwards → t.scores.changed = s.scores.changed → P s → P t
  apply : ∀ a s, P s → P (applyOne a s)
  free : ∀ s, P s → P (freeLock s)
  list : ∀ a s, s.lockHeld = true → s.scores.pendingAwards.length < 16 → P s → P (listAward a s)
  lock : ∀ time snapshot s, P s → P { s with scores := { s.scores with lock := .held time snapshot } }
  team : ∀ t state tag s, P s → P (s.setTeam t ((s.team t).withStateTag state tag))
  emptied : ∀ s, P s → P { s with scores := { s.scores with changed := [] } }
  reset : ∀ strap cause s, P (resetPart strap cause s)
  restart : ∀ s, P s → P (restartBlocks s)

section
variable {P : State → Prop} (K : KeptByAwards P)
include K

/-- What keeps the team table and the whole score unit keeps `P`. -/
theorem KeptByAwards.same {s t : State} (h : P s) (hr : t.roster = s.roster) (hs : t.scores = s.scores) : P t :=
  K.congr s t (by rw [hr]) (by rw [hs]) (by rw [hs]) (by rw [hs]) h

theorem KeptByAwards.applyAward (a : Award) (s : State) (h : P s) : P (Machine.applyAward a s) := by
  unfold Machine.applyAward
  split
  · exact K.apply a s h
  · exact K.apply _ _ (K.apply a s h)

theorem KeptByAwards.applyAwards (l : List Award) (s : State) (h : P s) : P (Machine.applyAwards l s) := by
  induction l generalizing s with
  | nil => exact h
  | cons a as ih => exact ih _ (K.applyAward a s h)

theorem KeptByAwards.releaseLock (s : State) (h : P s) : P (Machine.releaseLock s) := by
  unfold Machine.releaseLock
  split
  · exact K.free _ (K.applyAwards _ s h)
  · exact h

theorem KeptByAwards.endLock (s : State) (h : P s) : P (Machine.endLock s) := by
  unfold Machine.endLock
  split
  · exact K.same (K.releaseLock s h) (by simp) (by simp)
  · exact h

theorem KeptByAwards.noteLockEnd (e : LockEnd) (s : State) (h : P s) : P (Machine.noteLockEnd e s) :=
  K.congr s _ rfl rfl rfl rfl h

theorem KeptByAwards.handOver (a : Award) (s : State) (h : P s) : P (Machine.handOver a s) := by
  unfold Machine.handOver
  split
  next => exact K.applyAward a s h
  next hlock =>
    split
    next hroom => exact K.list a s (by simp [State.lockHeld, hlock]) hroom h
    next => exact K.applyAward a _ (K.noteLockEnd _ _ (K.endLock s h))

theorem KeptByAwards.handOverAll (l : List Award) (s : State) (h : P s) : P (Machine.handOverAll l s) := by
  induction l generalizing s with
  | nil => exact h
  | cons a as ih => exact ih _ (K.handOver a s h)

theorem KeptByAwards.correctVerdict (t : TeamId) (c : Context) (s : State) (h : P s) :
    P (Machine.correctVerdict t c s) := by
  unfold Machine.correctVerdict
  exact K.same (K.handOver (c.correctAward t) s h) (by simp) (by simp)

theorem KeptByAwards.wrongVerdict (cause : EndCause) (t : TeamId) (c : Context) (s : State) (h : P s) :
    P (Machine.wrongVerdict cause t c s) := by
  unfold Machine.wrongVerdict
  exact K.same (K.handOver (c.wrongAward t) s h) (by simp) (by simp)

theorem KeptByAwards.voidVerdict (cause : EndCause) (t : TeamId) (c : Context) (s : State) (h : P s) :
    P (Machine.voidVerdict cause t c s) :=
  K.same h (by simp) (by simp)

theorem KeptByAwards.applyVerdict (v : Verdict) (t : TeamId) (c : Context) (s : State) (h : P s) :
    P (Machine.applyVerdict v t c s) := by
  cases v with
  | correct => exact K.correctVerdict t c s h
  | wrong => exact K.wrongVerdict .judged t c s h
  | void => exact K.voidVerdict .judged t c s h

theorem KeptByAwards.endAnswer (cause : EndCause) (c : Context) (s : State) (h : P s) :
    P (Machine.endAnswer cause c s) := by
  unfold Machine.endAnswer
  split
  · dsimp only
    split
    · exact K.wrongVerdict _ _ _ s h
    · exact K.voidVerdict _ _ _ s h
  · exact h

theorem KeptByAwards.answerExpiry (s : State) (h : P s) : P (Machine.answerExpiry s) := by
  unfold Machine.answerExpiry
  (repeat' split) <;> first | exact h | exact K.endAnswer _ _ s h

theorem KeptByAwards.lapse (s : State) (h : P s) : P (Machine.lapse s) := by
  unfold Machine.lapse
  split
  · split
    · exact K.noteLockEnd _ _ (K.endLock s h)
    · exact h
  · exact h

theorem KeptByAwards.teamSet (args : TeamSetArgs) (s : State) (h : P s) : P (Machine.teamSet args s).1 := by
  unfold Machine.teamSet
  split
  next t state tag _ _ _ =>
    split
    · exact h
    · simp only [changeTeam]
      split
      · exact K.same (K.team t state tag s h) (by simp) (by simp)
      · exact K.team t state tag s h
  next => exact h

theorem KeptByAwards.judge (p : Payload JudgeArgs) (s : State) (h : P s) : P (Machine.judge p s).1 := by
  simp only [Machine.judge, judgeTeam, refuseJudge]
  (repeat' split) <;> first | exact h | exact K.applyVerdict _ _ _ s h

theorem KeptByAwards.callTime (a : NoArgs) (s : State) (h : P s) : P (Machine.callTime a s).1 := by
  unfold Machine.callTime
  split
  · exact h
  · split
    · dsimp only
      split <;> exact K.same h (by simp) (by simp)
    · exact K.endAnswer _ _ s h
    all_goals exact h

theorem KeptByAwards.reveal (o : Option Byte) (s : State) (h : P s) : P (Machine.reveal o s).1 := by
  have haccept : ∀ right b e c f bal, P (acceptReveal right b e c f bal s).1 := fun right b e c f bal =>
    K.same (K.handOverAll (revealAwards s c f bal right) s h) (by simp [acceptReveal]) (by simp [acceptReveal])
  simp only [Machine.reveal, revealWith]
  (repeat' split) <;> first | exact h | exact haccept _ _ _ _ _ _

theorem KeptByAwards.scoreAdjust (args : ScoreAdjustArgs) (s : State) (h : P s) :
    P (Machine.scoreAdjust args s).1 := by
  simp only [Machine.scoreAdjust]
  (repeat' split) <;> first | exact h | exact K.applyAward (manualAward _ _) s h

theorem KeptByAwards.scoreLock (b : Byte) (s : State) (h : P s) : P (Machine.scoreLock b s).1 := by
  unfold Machine.scoreLock
  split
  · exact h
  next n _ =>
    split
    · exact h
    · exact K.same (K.lock (ticksAfter s.clock (secondsToTicks n)) s.snapshot s h) (by simp) (by simp)

theorem KeptByAwards.scoreUnlock (a : NoArgs) (s : State) (h : P s) : P (Machine.scoreUnlock a s).1 := by
  unfold Machine.scoreUnlock
  split
  · exact K.endLock s h
  · exact h

theorem KeptByAwards.discard (k : NoticeKind) (s : State) (h : P s) : P (discardPending k s) := by
  cases k with
  | score => exact K.emptied _ (K.same h rfl rfl)
  | _ => exact K.same h rfl rfl

theorem KeptByAwards.discardAll (l : List NoticeKind) (s : State) (h : P s) : P (Machine.discardAll l s) := by
  induction l generalizing s with
  | nil => exact h
  | cons k ks ih => exact ih _ (K.discard k s h)

theorem KeptByAwards.noticeEnable (args : NoticeEnableArgs) (s : State) (h : P s) :
    P (Machine.noticeEnable args s).1 := by
  unfold Machine.noticeEnable
  split
  · exact h
  · dsimp only
    split
    · exact K.same h (by simp) (by simp)
    · exact K.discardAll _ _ (K.same h (by simp) (by simp))

theorem KeptByAwards.noticeClear (t : NoticeTarget) (s : State) (h : P s) : P (Machine.noticeClear t s).1 := by
  unfold Machine.noticeClear
  split
  · exact h
  · exact K.discardAll _ s h

/-- Of the commands, nine reach the team table or the score unit. -/
theorem KeptByAwards.command (c : Command) (s : State) (h : P s) : P (runCommand c s).1 := by
  cases c with
  | teamSet p => exact withArgs_keeps h (fun a => K.teamSet a s h) p
  | judge p => exact K.judge p s h
  | callTime p => exact withArgs_keeps h (fun a => K.callTime a s h) p
  | reveal p => exact withArgs_keeps h (fun a => K.reveal a s h) p
  | scoreAdjust p => exact withArgs_keeps h (fun a => K.scoreAdjust a s h) p
  | scoreLock p => exact withArgs_keeps h (fun a => K.scoreLock a s h) p
  | scoreUnlock p => exact withArgs_keeps h (fun a => K.scoreUnlock a s h) p
  | noticeEnable p => exact withArgs_keeps h (fun a => K.noticeEnable a s h) p
  | noticeClear p => exact withArgs_keeps h (fun a => K.noticeClear a s h) p
  | cueLoad p => exact K.same h (by simp [runCommand]) (by simp [runCommand])
  | padAssign p | layoutSet p | padForget p | lampSet p =>
    exact withArgs_keeps h (fun a => K.congr s _ (by simp) (by simp) (by simp) (by simp) h) p
  | _ => exact withArgs_keeps h (fun a => K.same h (by simp) (by simp)) _

theorem KeptByAwards.restartEffect (s : State) (h : P s) : P (restartTakesEffect s) := by
  unfold restartTakesEffect
  split
  · exact K.same (K.restart _ (K.releaseLock s h)) (by simp) (by simp)
  · exact h

/-- An event of the desk line may change pads, but no team and nothing of the score unit. -/
theorem KeptByAwards.pads {s t : State} (h : P s) (hr : t.roster.teams = s.roster.teams)
    (hs : t.scores = s.scores) : P t :=
  K.congr s t hr (by rw [hs]) (by rw [hs]) (by rw [hs]) h

theorem KeptByAwards.events : KeptByEvents P where
  link _ _ h := K.same h rfl rfl
  notices _ _ h := K.same h rfl rfl
  discard := K.discard
  request _ h := K.same h (by simp) (by simp)
  frame _ h := K.same h (by simp) (by simp)
  command c s _ := K.command c s
  reset strap cause s _ := K.reset strap cause s
  restart := K.restartEffect
  roam _ h := K.same h (by simp) (by simp)
  sprint _ h := K.same h (by simp) (by simp)
  reply _ _ h := K.pads h (by simp) (by simp)
  miss _ h := K.pads h (by simp) (by simp)
  switched _ h := K.pads h (by simp) (by simp)
  cycled _ h := K.pads h (by simp) (by simp)
  expiry _ h := K.same h (by simp) (by simp)
  answer := K.answerExpiry
  flash _ h := K.same h (by simp) (by simp)
  lapse := K.lapse
  silence _ h := K.same h (by simp) (by simp)
  panel _ _ h := K.same h (by simp) (by simp)
  panelOut _ h := K.same h (by simp) (by simp)
  identify _ _ h := K.same h (by simp) (by simp)
  identifyOut _ h := K.same h (by simp) (by simp)
  countdown _ h := K.same h (by simp) (by simp)

theorem KeptByAwards.step {s t : State} (h : P s) (ht : Machine.step s = .next t) : P t :=
  K.events.step (fun _ _ h => K.same h rfl rfl) (fun _ h => K.same h rfl rfl) h ht

end

/-! ### Scores and counts stay in range (R143) -/

/-- The ranges of one team's score and counts. -/
def TeamInRange (r : TeamRecord) : Prop :=
  -9999 ≤ r.score ∧ r.score ≤ 9999 ∧ r.correct ≤ 255 ∧ r.wrong ≤ 255 ∧ r.streak ≤ 255

theorem clampScore_inRange (z : Int) : -9999 ≤ clampScore z ∧ clampScore z ≤ 9999 := by
  unfold clampScore Config.maxScore
  split
  · omega
  · split <;> omega

theorem raiseCount_le {n : Nat} (h : n ≤ 255) : raiseCount n ≤ 255 := by
  unfold raiseCount Config.maxCount
  split <;> omega

theorem afterAward_inRange (r : TeamRecord) (a : Award) (h : TeamInRange r) : TeamInRange (r.afterAward a) := by
  obtain ⟨-, -, hc, hw, hk⟩ := h
  obtain ⟨hlow, hhigh⟩ := clampScore_inRange (r.score + a.points)
  refine ⟨hlow, hhigh, ?correct, ?wrong, ?streak⟩
  case correct => cases ha : a.cause <;> simp [TeamRecord.afterAward, correctAfter, ha, hc, raiseCount_le]
  case wrong => cases ha : a.cause <;> simp [TeamRecord.afterAward, wrongAfter, ha, hw, raiseCount_le]
  case streak => cases ha : a.cause <;> simp [TeamRecord.afterAward, streakAfter, ha, hk, raiseCount_le]

/-- A change of one team's record within the ranges keeps the table within them. -/
theorem scoresInRange_of_put {s u : State} (t : TeamId) (r : TeamRecord)
    (hu : u.roster.teams = put s.roster.teams t r) (hr : TeamInRange r) (h : s.scoresInRange) :
    u.scoresInRange := by
  intro n
  have hn : u.team n = if t = n then r else s.team n := by
    rw [State.team, hu, look_put]
    rfl
  rw [hn]
  split
  · exact hr
  · exact h n

theorem restartBlocks_teams (s : State) : (restartBlocks s).roster.teams = s.roster.teams := rfl

theorem scoresInRange_congr {s t : State} (hteams : t.roster.teams = s.roster.teams) (h : s.scoresInRange) :
    t.scoresInRange := by
  intro n
  have hn : t.team n = s.team n := by rw [State.team, hteams]; rfl
  rw [hn]
  exact h n

theorem scoresInRange_reset (strap : PinLevel) (cause : ResetCause) (s : State) :
    (resetPart strap cause s).scoresInRange := by
  intro n
  have hn : (resetPart strap cause s).team n = TeamRecord.reset := look_replicate _ n
  rw [hn]
  decide

theorem scoresInRange_keptByAwards : KeptByAwards State.scoresInRange where
  congr _ _ hteams _ _ _ h := scoresInRange_congr hteams h
  apply a s h := scoresInRange_of_put a.team _ (by rw [applyOne_eq]) (afterAward_inRange _ a (h a.team)) h
  free _ h := scoresInRange_congr rfl h
  list _ _ _ _ h := scoresInRange_congr rfl h
  lock _ _ _ h := scoresInRange_congr rfl h
  team t _ _ _ h := scoresInRange_of_put t _ rfl (h t) h
  emptied _ h := scoresInRange_congr rfl h
  reset := scoresInRange_reset
  restart s h := scoresInRange_congr (restartBlocks_teams s) h

/-! ### Awards wait only behind a held lock (R149) -/

theorem lockHeld_eq_of_lock {s t : State} (h : t.scores.lock = s.scores.lock) : t.lockHeld = s.lockHeld := by
  simp only [State.lockHeld, h]

theorem awardsBehindLock_congr {s t : State} (hlock : t.scores.lock = s.scores.lock)
    (hwait : t.scores.pendingAwards = s.scores.pendingAwards) (h : s.awardsBehindLock) : t.awardsBehindLock := by
  rw [State.awardsBehindLock, hwait, lockHeld_eq_of_lock hlock]
  exact h

theorem awardsBehindLock_of_none {s : State} (h : s.scores.pendingAwards = []) : s.awardsBehindLock := by
  simp [State.awardsBehindLock, h]

theorem awardsBehindLock_listAward (a : Award) (s : State) (hheld : s.lockHeld = true)
    (hroom : s.scores.pendingAwards.length < 16) : (listAward a s).awardsBehindLock := by
  refine ⟨?_, fun hfree => ?_⟩
  · simp only [listAward, List.length_append, List.length_singleton]
    omega
  · exact absurd (hheld.symm.trans hfree) (by decide)

theorem awardsBehindLock_keptByAwards : KeptByAwards State.awardsBehindLock where
  congr _ _ _ hlock hwait _ h := awardsBehindLock_congr hlock hwait h
  apply a s h := awardsBehindLock_congr (by rw [applyOne_eq]) (by rw [applyOne_eq]) h
  free _ _ := awardsBehindLock_of_none rfl
  list a s hheld hroom _ := awardsBehindLock_listAward a s hheld hroom
  lock _ _ _ h := ⟨h.1, fun hfree => absurd hfree (by simp [State.lockHeld])⟩
  team _ _ _ _ h := awardsBehindLock_congr rfl rfl h
  emptied _ h := awardsBehindLock_congr rfl rfl h
  reset _ _ _ := awardsBehindLock_of_none rfl
  restart _ _ := awardsBehindLock_of_none rfl

/-! ### No team is twice in the changed set (R154) -/

theorem mem_joinScoreChanged {t u : TeamId} {b : Bool} {l : List ScoreMark}
    (h : u ∈ (joinScoreChanged t b l).map ScoreMark.team) : u = t ∨ u ∈ l.map ScoreMark.team := by
  induction l with
  | nil => exact .inl (by simpa [joinScoreChanged] using h)
  | cons m ms ih =>
    simp only [joinScoreChanged] at h
    (repeat' split at h) <;> simp only [List.map_cons, List.mem_cons] at h ⊢ <;> grind

theorem joinScoreChanged_ascending (t : TeamId) (b : Bool) (l : List ScoreMark)
    (h : (l.map ScoreMark.team).Pairwise (· < ·)) :
    ((joinScoreChanged t b l).map ScoreMark.team).Pairwise (· < ·) := by
  induction l with
  | nil => simp [joinScoreChanged]
  | cons m ms ih =>
    obtain ⟨hm, hms⟩ := List.pairwise_cons.mp h
    simp only [joinScoreChanged]
    split
    next hlt =>
      have hlater : ∀ x ∈ ms, t < x.team := fun x hx => Nat.lt_trans hlt (hm _ (List.mem_map_of_mem hx))
      exact List.pairwise_cons.mpr ⟨by simpa using ⟨hlt, hlater⟩, h⟩
    next hlt =>
      split
      next heq =>
        subst heq
        exact List.pairwise_cons.mpr ⟨hm, hms⟩
      next hne =>
        refine List.pairwise_cons.mpr ⟨fun u hu => ?_, ih hms⟩
        rcases mem_joinScoreChanged hu with rfl | hu
        · exact Nat.lt_of_le_of_ne (Nat.not_lt.mp hlt) fun heq => hne (Fin.ext heq).symm
        · exact hm u hu

theorem changedAscending_congr {s t : State} (hchanged : t.scores.changed = s.scores.changed)
    (h : s.changedAscending) : t.changedAscending := by
  rw [State.changedAscending, hchanged]
  exact h

theorem changedAscending_of_none {s : State} (h : s.scores.changed = []) : s.changedAscending := by
  simp [State.changedAscending, h]

theorem changedAscending_applyOne (a : Award) (s : State) (h : s.changedAscending) :
    (applyOne a s).changedAscending := by
  rw [applyOne_eq]
  exact joinScoreChanged_ascending _ _ _ h

theorem changedAscending_keptByAwards : KeptByAwards State.changedAscending where
  congr _ _ _ _ _ hchanged h := changedAscending_congr hchanged h
  apply := changedAscending_applyOne
  free _ h := changedAscending_congr rfl h
  list _ _ _ _ h := changedAscending_congr rfl h
  lock _ _ _ h := changedAscending_congr rfl h
  team _ _ _ _ h := changedAscending_congr rfl h
  emptied _ _ := changedAscending_of_none rfl
  reset _ _ _ := changedAscending_of_none rfl
  restart _ _ := changedAscending_of_none rfl

/-- Settles O15: each of the three laws is kept by what changes the scores and the lock. -/
theorem scoreUnitStaysLawful : Obligations.ScoreUnitStaysLawful :=
  ⟨fun _ _ h ht => scoresInRange_keptByAwards.step h ht, fun _ _ h ht => awardsBehindLock_keptByAwards.step h ht,
    fun _ _ h ht => changedAscending_keptByAwards.step h ht⟩

end Sys2Proof.Proofs

/-! PROOFS. The bound of the context stack and the origin of its third place (R157), kept by every step. -/

namespace Sys2Proof.Proofs
open Sys2Proof Sys2Proof.Machine

theorem stackBounded_congr {s t : State} (hstack : t.stack = s.stack) (h : s.stackBounded) : t.stackBounded := by
  rw [State.stackBounded, hstack]
  exact h

theorem stackBounded_of_nil {s : State} (h : s.stack = []) : s.stackBounded := by
  simp [State.stackBounded, h]

/-- A context pushed onto fewer than 3 keeps the bound, if the third place gets an interjection (R157, R161). -/
theorem stackBounded_of_push {s t : State} {x : SavedContext} (hstack : t.stack = x :: s.stack)
    (hroom : s.stack.length < 3) (horigin : s.stack.length = 2 → x.origin = .tiebreak) : t.stackBounded := by
  refine ⟨by rw [hstack, List.length_cons]; omega, fun y rest hy htwo => ?_⟩
  rw [hstack] at hy
  obtain ⟨rfl, rfl⟩ := List.cons.inj hy
  exact horigin htwo

/-- What is left after the top is taken has at most 2 contexts, so its third place is empty. -/
theorem stackBounded_of_pop {s t : State} {x : SavedContext} (hstack : s.stack = x :: t.stack)
    (h : s.stackBounded) : t.stackBounded := by
  have hlen : (x :: t.stack).length ≤ 3 := hstack ▸ h.1
  rw [List.length_cons] at hlen
  refine ⟨by omega, fun y rest hy htwo => ?_⟩
  rw [hy, List.length_cons] at hlen
  omega

theorem roundArm_stackBounded (o : Option Byte) (s : State) (h : s.stackBounded) : (roundArm o s).1.stackBounded := by
  have hordinary : ∀ x cue, (armOrdinary x cue s).1.stackBounded := by
    intro x cue
    unfold armOrdinary
    split
    · exact h
    · exact stackBounded_congr (by simp) h
  have hinterjection : ∀ x cue c, (armInterjection x cue c s).1.stackBounded := by
    intro x cue c
    unfold armInterjection
    split
    next => exact h
    next hroom =>
      split
      · exact h
      · exact stackBounded_of_push (s := s) (x := ⟨c.pauseWindow s.clock, .tiebreak⟩) (by simp [pushContext])
          (Nat.not_le.mp hroom) fun _ => rfl
  simp only [roundArm, armCue]
  (repeat' split) <;> first | exact h | exact hordinary _ _ | exact hinterjection _ _ _

theorem roundSuspend_stackBounded (a : NoArgs) (s : State) (h : s.stackBounded) :
    (roundSuspend a s).1.stackBounded := by
  have hpush : ∀ c, ¬Config.maxSuspended ≤ s.stack.length → (suspendContext c s).1.stackBounded := by
    intro c hroom
    have htwo : s.stack.length < 2 := Nat.not_le.mp hroom
    exact stackBounded_of_push (s := s) (x := ⟨c.pauseWindow s.clock, .suspend⟩) (by simp [suspendContext, pushContext])
      (by omega) (by omega)
  unfold roundSuspend
  (repeat' split) <;> first | exact h | exact hpush _ ‹_›

theorem roundResume_stackBounded (a : NoArgs) (s : State) (h : s.stackBounded) :
    (roundResume a s).1.stackBounded := by
  unfold roundResume
  split
  · split
    · exact h
    next x rest hstack =>
      have hrest : (resumeContext x rest s).1.stack = rest := by simp [resumeContext]
      exact stackBounded_of_pop (hrest.symm ▸ hstack) h
  · exact h

/-- Of the commands, ROUND_ARM, ROUND_SUSPEND and ROUND_RESUME write the stack. -/
theorem command_stackBounded (c : Command) (s : State) (h : s.stackBounded) : (runCommand c s).1.stackBounded := by
  cases c with
  | roundArm p => exact withArgs_keeps h (fun a => roundArm_stackBounded a s h) p
  | roundSuspend p => exact withArgs_keeps h (fun a => roundSuspend_stackBounded a s h) p
  | roundResume p => exact withArgs_keeps h (fun a => roundResume_stackBounded a s h) p
  | cueLoad p | judge p => exact stackBounded_congr (by simp [runCommand]) h
  | _ => exact withArgs_keeps h (fun a => stackBounded_congr (by simp) h) _

theorem restart_stackBounded (s : State) (h : s.stackBounded) : (restartTakesEffect s).stackBounded := by
  unfold restartTakesEffect
  split
  · exact stackBounded_of_nil (by simp [restartBlocks])
  · exact h

theorem stackBounded_keptByEvents : KeptByEvents State.stackBounded where
  link _ _ h := stackBounded_congr rfl h
  notices _ _ h := stackBounded_congr rfl h
  discard _ _ h := stackBounded_congr (by simp) h
  request _ h := stackBounded_congr (by simp) h
  frame _ h := stackBounded_congr (by simp) h
  command c s _ := command_stackBounded c s
  reset _ _ _ _ := stackBounded_of_nil rfl
  restart := restart_stackBounded
  roam _ h := stackBounded_congr (by simp) h
  sprint _ h := stackBounded_congr (by simp) h
  reply _ _ h := stackBounded_congr (by simp) h
  miss _ h := stackBounded_congr (by simp) h
  switched _ h := stackBounded_congr (by simp) h
  cycled _ h := stackBounded_congr (by simp) h
  expiry _ h := stackBounded_congr (by simp) h
  answer _ h := stackBounded_congr (by simp) h
  flash _ h := stackBounded_congr (by simp) h
  lapse _ h := stackBounded_congr (by simp) h
  silence _ h := stackBounded_congr (by simp) h
  panel _ _ h := stackBounded_congr (by simp) h
  panelOut _ h := stackBounded_congr (by simp) h
  identify _ _ h := stackBounded_congr (by simp) h
  identifyOut _ h := stackBounded_congr (by simp) h
  countdown _ h := stackBounded_congr (by simp) h

/-- Settles O16: only three commands and the resets write the stack. -/
theorem stackStaysBounded : Obligations.StackStaysBounded := fun _ _ h ht =>
  stackBounded_keptByEvents.step (fun _ _ h => stackBounded_congr rfl h) (fun _ h => stackBounded_congr rfl h) h ht

end Sys2Proof.Proofs

/-! PROOFS. BASE routes share no cell (R175), and no request for a publish is left over (log 18), at every step. -/

namespace Sys2Proof.Proofs
open Sys2Proof Sys2Proof.Machine

/-! ### BASE routes (R175) -/

theorem routesDisjoint_congr {s t : State} (hroutes : t.board.routes = s.board.routes) (h : s.routesDisjoint) :
    t.routesDisjoint := by
  have hroute : ∀ n, t.route n = s.route n := fun n => by rw [State.route, hroutes]; rfl
  intro m n r q hne hr hq
  exact h m n r q hne (hroute m ▸ hr) (hroute n ▸ hq)

theorem routesDisjoint_of_none {s : State} (h : ∀ n, s.route n = none) : s.routesDisjoint := by
  intro m n r q _ hr
  rw [h m] at hr
  cases hr

theorem mem_heldRoutes {b : Board} {n : RouteId} {r : Route} : (n, r) ∈ b.heldRoutes ↔ look b.routes n = some r := by
  simp only [Board.heldRoutes, List.mem_filterMap, List.mem_finRange, true_and, Option.map_eq_some_iff,
    Prod.mk.injEq]
  constructor
  · rintro ⟨m, r', hr', rfl, rfl⟩
    exact hr'
  · exact fun h => ⟨n, r, h, rfl, rfl⟩

/-- The overlap check of ROUTE_SET, read off the route table. -/
theorem overlapsHeld_eq_false_iff (s : State) (n : RouteId) (r : Route) :
    s.overlapsHeld n r = false ↔ ∀ m q, m ≠ n → s.route m = some q → r.clashes q = false := by
  simp only [State.overlapsHeld, List.any_eq_false, Prod.forall, mem_heldRoutes, State.route, Bool.and_eq_true,
    bne_iff_ne, not_and, Bool.not_eq_true]
  exact ⟨fun h m q hne hq => h m q hq hne, fun h m q hq hne => h m q hne hq⟩

theorem clashes_comm (r q : Route) : r.clashes q = q.clashes r := by
  simp only [Route.clashes, decide_eq_decide]
  constructor <;> rintro ⟨h1, h2, h3, h4, h5⟩ <;> exact ⟨h2, h1, h3.symm, h5, h4⟩

/-- A route that clashes with none of the others may take its entry. -/
theorem routesDisjoint_setRoute {s : State} {n : RouteId} {r : Route} (hfree : s.overlapsHeld n r = false)
    (h : s.routesDisjoint) : (s.setRoute n (some r)).routesDisjoint := by
  have hr := (overlapsHeld_eq_false_iff s n r).mp hfree
  intro i j p q hne hp hq
  rw [route_setRoute] at hp hq
  split at hp <;> split at hq
  next hi hj => exact absurd (hi.symm.trans hj) hne
  next hi hj =>
    obtain rfl := Option.some.inj hp
    exact hr j q (Ne.symm hj) hq
  next hi hj =>
    obtain rfl := Option.some.inj hq
    exact (clashes_comm _ _).trans (hr i p (Ne.symm hi) hp)
  next hi hj => exact h i j p q hne hp hq

theorem routesDisjoint_clearRoute {s : State} (n : RouteId) (h : s.routesDisjoint) :
    (s.setRoute n none).routesDisjoint := by
  intro i j p q hne hp hq
  rw [route_setRoute] at hp hq
  split at hp <;> split at hq
  next => cases hp
  next => cases hp
  next => cases hq
  next => exact h i j p q hne hp hq

theorem routeSet_routesDisjoint (a : RouteSetArgs) (s : State) (h : s.routesDisjoint) :
    (routeSet a s).1.routesDisjoint := by
  unfold routeSet
  split
  · split
    · exact h
    · split
      next => exact h
      next hfree => exact routesDisjoint_setRoute (Bool.eq_false_iff.mpr hfree) h
  · exact h

theorem routeClear_routesDisjoint (target : RouteTarget) (s : State) (h : s.routesDisjoint) :
    (routeClear target s).1.routesDisjoint := by
  cases target with
  | all => exact routesDisjoint_of_none fun n => look_replicate _ n
  | one b =>
    simp only [routeClear]
    split
    · exact h
    · exact routesDisjoint_clearRoute _ h

/-- Of the commands, ROUTE_SET and ROUTE_CLEAR write the route table. -/
theorem command_routesDisjoint (c : Command) (s : State) (h : s.routesDisjoint) :
    (runCommand c s).1.routesDisjoint := by
  cases c with
  | routeSet p => exact withArgs_keeps h (fun a => routeSet_routesDisjoint a s h) p
  | routeClear p => exact withArgs_keeps h (fun a => routeClear_routesDisjoint a s h) p
  | cueLoad p | judge p => exact routesDisjoint_congr (by simp [runCommand]) h
  | _ => exact withArgs_keeps h (fun a => routesDisjoint_congr (by simp) h) _

theorem restart_routesDisjoint (s : State) (h : s.routesDisjoint) : (restartTakesEffect s).routesDisjoint := by
  unfold restartTakesEffect
  split
  · exact routesDisjoint_congr (by simp [restartBlocks, Board.afterRestart]) h
  · exact h

theorem routesDisjoint_keptByEvents : KeptByEvents State.routesDisjoint where
  link _ _ h := routesDisjoint_congr rfl h
  notices _ _ h := routesDisjoint_congr rfl h
  discard _ _ h := routesDisjoint_congr (by simp) h
  request _ h := routesDisjoint_congr (by simp) h
  frame _ h := routesDisjoint_congr (by simp) h
  command c s _ := command_routesDisjoint c s
  reset _ _ _ _ := routesDisjoint_of_none fun n => look_replicate _ n
  restart := restart_routesDisjoint
  roam _ h := routesDisjoint_congr (by simp) h
  sprint _ h := routesDisjoint_congr (by simp) h
  reply _ _ h := routesDisjoint_congr (by simp) h
  miss _ h := routesDisjoint_congr (by simp) h
  switched _ h := routesDisjoint_congr (by simp) h
  cycled _ h := routesDisjoint_congr (by simp) h
  expiry _ h := routesDisjoint_congr (by simp) h
  answer _ h := routesDisjoint_congr (by simp) h
  flash _ h := routesDisjoint_congr (by simp) h
  lapse _ h := routesDisjoint_congr (by simp) h
  silence _ h := routesDisjoint_congr (by simp) h
  panel _ _ h := routesDisjoint_congr (by simp) h
  panelOut _ h := routesDisjoint_congr (by simp) h
  identify _ _ h := routesDisjoint_congr (by simp) h
  identifyOut _ h := routesDisjoint_congr (by simp) h
  countdown _ h := routesDisjoint_congr (by simp) h

/-! ### Requests for a publish (R181, log 18) -/

/-- A publish that completes asks for another only where publish-again is set. -/
theorem visitPanels_request (image : List (List Cell)) (l : List PanelId) (results : List PanelResult) (s : State)
    (hagain : s.board.again = false) (hrequest : s.board.request = false) :
    (visitPanels image l results s).board.request = false := by
  induction l generalizing results with
  | nil => simp [visitPanels, completeOperation, hagain, hrequest, setPending]
  | cons p rest ih =>
    simp only [visitPanels]
    split
    · exact ih _
    · split
      · exact ih _
      · exact hrequest

/-- The end of every event has taken what was asked for. -/
theorem takeRequest_noRequest (s : State) : (takeRequest s).noRequest := by
  unfold takeRequest
  split
  next =>
    dsimp only
    split
    · exact visitPanels_request _ _ _ _ rfl rfl
    · rfl
    · rfl
  next h => exact Bool.eq_false_iff.mpr h

theorem step_noRequest {s t : State} (h : s.noRequest) (ht : step s = .next t) : t.noRequest := by
  obtain rfl | ⟨i, rest, rfl⟩ := step_cases ht
  · exact h
  · exact takeRequest_noRequest _

/-- Settles O17: the route table is written after its overlap check alone, and every event ends with the
requests taken. -/
theorem routesStayDisjoint : Obligations.RoutesStayDisjoint := fun _ _ h hq ht =>
  ⟨routesDisjoint_keptByEvents.step (fun _ _ h => routesDisjoint_congr rfl h) (fun _ h => routesDisjoint_congr rfl h)
    h ht, step_noRequest hq ht⟩

end Sys2Proof.Proofs

/-! PROOFS. No team has more than 8 pads or two pads at one seat (R11), at every step. -/

namespace Sys2Proof.Proofs
open Sys2Proof Sys2Proof.Machine

/-! ### The law is that of distinct places -/

/-- No two pads have one effective place. -/
def PlacesDistinct (s : State) : Prop := ∀ (a b : PadAddr) (p : Place), a ≠ b → s.placeOf a = some p → s.placeOf b ≠ some p

theorem mem_padsOfTeam {s : State} {t : TeamId} {a : PadAddr} :
    a ∈ s.padsOfTeam t ↔ ∃ n, s.placeOf a = some ⟨t, n⟩ := by
  simp only [State.padsOfTeam, State.teamOfPad, List.mem_filter, List.mem_finRange, true_and, decide_eq_true_eq,
    Option.map_eq_some_iff]
  exact ⟨fun ⟨⟨u, n⟩, h, hu⟩ => ⟨n, by rw [h, ← hu]⟩, fun ⟨n, h⟩ => ⟨⟨t, n⟩, h, rfl⟩⟩

/-- The seat of a pad in its team, 0 where it has none. -/
def seatAt (s : State) (a : PadAddr) : Seat := ((s.placeOf a).map Place.seat).getD 0

/-- Pads of one team at distinct places have distinct seats, of which there are 8. -/
theorem assignedCount_le (s : State) (h : PlacesDistinct s) (t : TeamId) : s.assignedCount t ≤ 8 := by
  have hnodup : ((s.padsOfTeam t).map (seatAt s)).Nodup := by
    refine List.pairwise_map.mpr (List.Pairwise.imp_of_mem ?_ ((List.nodup_finRange 64).filter _))
    intro a b ha hb hne hseat
    obtain ⟨n, hn⟩ := mem_padsOfTeam.mp ha
    obtain ⟨m, hm⟩ := mem_padsOfTeam.mp hb
    simp only [seatAt, hn, hm, Option.map_some, Option.getD_some] at hseat
    subst hseat
    exact h a b ⟨t, n⟩ hne hn hm
  have hseats : ((s.padsOfTeam t).map (seatAt s)).length ≤ (List.finRange 8).length :=
    hnodup.length_le_of_subset fun n _ => List.mem_finRange n
  rwa [List.length_map, List.length_finRange] at hseats

theorem padsLawful_iff (s : State) : s.padsLawful ↔ PlacesDistinct s :=
  ⟨fun h => h.2, fun h => ⟨assignedCount_le s h, h⟩⟩

/-! ### What leaves every pad where it is -/

/-- The layout mode and every assignment are as they were. -/
def SamePlaces (s t : State) : Prop :=
  t.roster.layout = s.roster.layout ∧ ∀ a, (t.pad a).assignment = (s.pad a).assignment

theorem SamePlaces.refl (s : State) : SamePlaces s s := ⟨rfl, fun _ => rfl⟩

theorem SamePlaces.trans {s t u : State} (h : SamePlaces s t) (h' : SamePlaces t u) : SamePlaces s u :=
  ⟨h'.1.trans h.1, fun a => (h'.2 a).trans (h.2 a)⟩

theorem SamePlaces.of_pads {s t : State} (hpads : t.roster.pads = s.roster.pads)
    (hlayout : t.roster.layout = s.roster.layout) : SamePlaces s t :=
  ⟨hlayout, fun a => by rw [State.pad, hpads]; rfl⟩

theorem SamePlaces.of_roster {s t : State} (h : t.roster = s.roster) : SamePlaces s t :=
  .of_pads (by rw [h]) (by rw [h])

theorem SamePlaces.padsLawful {s t : State} (h : SamePlaces s t) (hs : s.padsLawful) : t.padsLawful := by
  have hplace : ∀ a, t.placeOf a = s.placeOf a := fun a => by rw [State.placeOf, State.placeOf, h.1, h.2 a]
  rw [padsLawful_iff] at hs ⊢
  intro a b p hne ha
  rw [hplace] at ha ⊢
  exact hs a b p hne ha

theorem samePlaces_setPad (s : State) (a : PadAddr) (r : PadRecord)
    (h : r.assignment = (s.pad a).assignment) : SamePlaces s (s.setPad a r) := by
  refine ⟨rfl, fun b => ?_⟩
  rw [pad_setPad]
  split
  next hab => rw [← hab, h]
  next => rfl

theorem SamePlaces.joined {s t : State} (a : PadAddr) (h : SamePlaces s t) : SamePlaces s (joinPadChanged a t) :=
  h.trans (.of_roster rfl)

theorem samePlaces_markLagging (a : PadAddr) (s : State) : SamePlaces s (markLagging a s) :=
  .joined a (samePlaces_setPad s a _ rfl)

theorem samePlaces_clearLagging (a : PadAddr) (s : State) : SamePlaces s (clearLagging a s) := by
  unfold clearLagging
  split
  · exact .joined a (samePlaces_setPad s a _ rfl)
  · exact .refl s

theorem samePlaces_markAllLagging (l : List PadAddr) (s : State) : SamePlaces s (markAllLagging l s) := by
  induction l generalizing s with
  | nil => exact .refl s
  | cons a as ih => exact (samePlaces_markLagging a s).trans (ih _)

theorem samePlaces_clearAllLagging (l : List PadAddr) (s : State) : SamePlaces s (clearAllLagging l s) := by
  induction l generalizing s with
  | nil => exact .refl s
  | cons a as ih => exact (samePlaces_clearLagging a s).trans (ih _)

theorem samePlaces_discoverPad (a : PadAddr) (s : State) : SamePlaces s (discoverPad a s) := by
  unfold discoverPad
  split
  · exact .refl s
  · exact .joined a (samePlaces_setPad s a _ rfl)

theorem samePlaces_copyStatus (a : PadAddr) (low : Bool) (s : State) : SamePlaces s (copyStatus a low s) := by
  simp only [copyStatus]
  split
  · exact samePlaces_setPad s a _ rfl
  · exact .joined a (samePlaces_setPad s a _ rfl)

theorem samePlaces_recordEcho (a : PadAddr) (echo : LineSpeed) (s : State) : SamePlaces s (recordEcho a echo s) := by
  unfold recordEcho
  (repeat' split) <;> first | exact .refl s | exact .of_roster rfl | exact samePlaces_markLagging a s

theorem samePlaces_confirm (a : PadAddr) (c : Candidate) (s : State) : SamePlaces s (confirm a c s) :=
  (samePlaces_setPad s a { s.pad a with keys := c.bitmap (s.pad a).keys, candidate := none } rfl).trans
    (.of_roster (by simp [confirm]))

theorem samePlaces_countCandidate (a : PadAddr) (c : Candidate) (s : State) : SamePlaces s (countCandidate a c s) := by
  unfold countCandidate
  split
  · exact samePlaces_confirm a c s
  · exact samePlaces_setPad s a _ rfl

theorem samePlaces_captureReply (a : PadAddr) (keys : Keys) (age : Byte) (s : State) :
    SamePlaces s (captureReply a keys age s) := by
  simp only [captureReply, makeCandidate]
  (repeat' split) <;>
    first | exact .refl s | exact samePlaces_countCandidate a _ s | exact samePlaces_setPad s a _ rfl

theorem samePlaces_takeReply (a : PadAddr) (r : PadReply) (s : State) : SamePlaces s (takeReply a r s) :=
  ((samePlaces_discoverPad a s).trans (samePlaces_copyStatus a r.batteryLow _)).trans
    ((samePlaces_recordEcho a r.echo _).trans (samePlaces_captureReply a r.keys _ _))

theorem samePlaces_takeMiss (a : PadAddr) (s : State) : SamePlaces s (takeMiss a s) := by
  simp only [takeMiss, losePad]
  split
  · split
    · exact .joined a (samePlaces_setPad s a _ rfl)
    · exact samePlaces_setPad s a _ rfl
  · exact .refl s

theorem samePlaces_replyArrives (r : PadReply) (s : State) : SamePlaces s (replyArrives r s) := by
  unfold replyArrives
  split
  next => exact .of_roster (by simp)
  next p _ =>
    split
    · exact (samePlaces_takeReply p.address r s).trans (.of_roster (by simp))
    · exact (samePlaces_takeMiss p.address s).trans (.of_roster (by simp))

theorem samePlaces_pollMissed (s : State) : SamePlaces s (pollMissed s) := by
  unfold pollMissed
  split
  next => exact .of_roster (by simp)
  next p _ => exact (samePlaces_takeMiss p.address s).trans (.of_roster (by simp))

theorem samePlaces_completeSwitch (l : List PadAddr) (s : State) : SamePlaces s (completeSwitch l s) :=
  (samePlaces_markAllLagging l s).trans (.of_roster (by simp [completeSwitch]))

theorem samePlaces_switchCycleEnded (s : State) : SamePlaces s (switchCycleEnded s) := by
  unfold switchCycleEnded
  split
  · dsimp only
    split
    · exact samePlaces_completeSwitch _ s
    · exact .of_roster rfl
  · exact .refl s

theorem samePlaces_returnToRoam (s : State) : SamePlaces s (returnToRoam s) :=
  (SamePlaces.of_roster (t := { s with desk := { s.desk with speed := .roam } }) rfl).trans
    ((samePlaces_clearAllLagging (List.finRange 64) _).trans (.of_roster (by simp [returnToRoam])))

theorem samePlaces_sprintCycleEnded (s : State) : SamePlaces s (sprintCycleEnded s) := by
  unfold sprintCycleEnded readNeed
  split
  · split
    · exact .of_roster (by simp)
    · exact (SamePlaces.of_roster (by simp)).trans (samePlaces_returnToRoam _)
  · exact .refl s

theorem samePlaces_restart (s : State) : SamePlaces s (restartTakesEffect s) := by
  unfold restartTakesEffect
  split
  · have hpad : ∀ a, ((restartBlocks (releaseLock s)).pad a).assignment = (s.pad a).assignment := by
      intro a
      simp [State.pad, restartBlocks, PadRecord.afterRestart]
    exact SamePlaces.trans (t := restartBlocks (releaseLock s)) ⟨by simp [restartBlocks], hpad⟩ (.of_roster (by simp))
  · exact .refl s

theorem samePlaces_lampSet (args : LampSetArgs) (s : State) : SamePlaces s (lampSet args s).1 := by
  have hall : ∀ l, SamePlaces s (setAllLamps l s) := fun l => ⟨rfl, fun a => by simp [State.pad, setAllLamps]⟩
  unfold lampSet
  (repeat' split) <;> first | exact .refl s | exact hall _ | exact samePlaces_setPad s _ _ rfl

theorem samePlaces_padForget (b : Byte) (s : State) : SamePlaces s (padForget b s).1 := by
  simp only [padForget]
  (repeat' split) <;> first | exact .refl s | exact samePlaces_setPad s _ _ rfl

/-! ### What gives pads their places: PAD_ASSIGN and LAYOUT_SET -/

theorem placeOf_assignPad (a b : PadAddr) (asg : Assignment) (s : State) :
    (assignPad a asg s).placeOf b = if a = b then effectivePlace s.roster.layout a asg else s.placeOf b := by
  by_cases h : a = b
  · subst h
    rw [if_pos rfl, State.placeOf, assignPad, pad_setPad, if_pos rfl]
    rfl
  · rw [if_neg h, State.placeOf, assignPad, pad_setPad, if_neg h]
    rfl

theorem assignPad_released_lawful (a : PadAddr) (s : State) (h : PlacesDistinct s) :
    PlacesDistinct (assignPad a .released s) := by
  intro x y p hne hx
  rw [placeOf_assignPad] at hx ⊢
  split at hx
  · cases hx
  · split
    · exact fun hy => nomatch hy
    · exact h x y p hne hx

theorem assignPad_override_lawful (a : PadAddr) (q : Place) (s : State) (hfree : ∀ b, b ≠ a → s.placeOf b ≠ some q)
    (h : PlacesDistinct s) : PlacesDistinct (assignPad a (.override q) s) := by
  intro x y p hne hx
  rw [placeOf_assignPad] at hx ⊢
  split at hx
  next hax =>
    obtain rfl := Option.some.inj hx
    rw [if_neg fun hay => hne (hax.symm.trans hay)]
    exact hfree y fun hya => hne (hax.symm.trans hya.symm)
  next hax =>
    split
    next =>
      intro hp
      obtain rfl := Option.some.inj hp
      exact hfree x (Ne.symm hax) hx
    next => exact h x y p hne hx

/-- The seat check of PAD_ASSIGN looks at every other pad of the team, hence at every other pad at the seat. -/
theorem seatTaken_iff (s : State) (a : PadAddr) (p : Place) :
    ((s.otherPadsOfTeam p.team a).any fun b => decide (s.placeOf b = some p)) = true ↔
      ∃ b, b ≠ a ∧ s.placeOf b = some p := by
  simp only [State.otherPadsOfTeam, List.any_eq_true, List.mem_filter, mem_padsOfTeam, bne_iff_ne, decide_eq_true_eq]
  exact ⟨fun ⟨b, ⟨_, hne⟩, hp⟩ => ⟨b, hne, hp⟩, fun ⟨b, hne, hp⟩ => ⟨b, ⟨⟨p.seat, hp⟩, hne⟩, hp⟩⟩

theorem padAssign_lawful (args : PadAssignArgs) (s : State) (h : s.padsLawful) : (padAssign args s).1.padsLawful := by
  have hplace : ∀ a p, (assignToPlace a p s).1.padsLawful := by
    intro a p
    unfold assignToPlace
    split
    · exact h
    · split
      next => exact h
      next hfree =>
        rw [seatTaken_iff] at hfree
        have hothers : ∀ b, b ≠ a → s.placeOf b ≠ some p := fun b hne hb => hfree ⟨b, hne, hb⟩
        exact (padsLawful_iff _).mpr (assignPad_override_lawful a p s hothers ((padsLawful_iff s).mp h))
  unfold padAssign
  split
  · exact h
  · exact (padsLawful_iff _).mpr (assignPad_released_lawful _ s ((padsLawful_iff s).mp h))
  · split
    · exact hplace _ _
    · exact h

/-- Each layout mode puts the 64 pads at distinct places, or at none (R9). -/
theorem defaultPlace_injective (m : Layout) (a b : PadAddr) (p : Place) (ha : defaultPlace m a = some p)
    (hb : defaultPlace m b = some p) : a = b := by
  obtain ⟨t, n⟩ := p
  have h8 := n.isLt
  cases m with
  | grid16 =>
    rw [defaultPlace_grid16_iff] at ha hb
    exact Fin.ext (by omega)
  | grid8 =>
    rw [defaultPlace_grid8_iff] at ha hb
    exact Fin.ext (by omega)
  | split =>
    rw [defaultPlace_split_iff] at ha hb
    exact Fin.ext (by omega)
  | free => cases ha

theorem layoutSet_lawful (b : Byte) (s : State) (h : s.padsLawful) : (layoutSet b s).1.padsLawful := by
  have hlayOut : ∀ m, (layOut m s).padsLawful := by
    intro m
    refine (padsLawful_iff _).mpr fun x y p hne hx hy => hne ?_
    rw [placeOf_layOut] at hx hy
    exact defaultPlace_injective m x y p hx hy
  unfold layoutSet
  (repeat' split) <;> first | exact h | exact hlayOut _

/-- Of the commands, PAD_ASSIGN and LAYOUT_SET move pads. -/
theorem command_padsLawful (c : Command) (s : State) (h : s.padsLawful) : (runCommand c s).1.padsLawful := by
  cases c with
  | padAssign p => exact withArgs_keeps h (fun a => padAssign_lawful a s h) p
  | layoutSet p => exact withArgs_keeps h (fun a => layoutSet_lawful a s h) p
  | padForget p => exact withArgs_keeps h (fun a => (samePlaces_padForget a s).padsLawful h) p
  | lampSet p => exact withArgs_keeps h (fun a => (samePlaces_lampSet a s).padsLawful h) p
  | judge p => exact (SamePlaces.of_pads (t := (judge p s).1) (by simp) (by simp)).padsLawful h
  | cueLoad p => exact (SamePlaces.of_roster (by simp [runCommand])).padsLawful h
  | _ => exact withArgs_keeps h (fun a => (SamePlaces.of_pads (by simp) (by simp)).padsLawful h) _

theorem padsLawful_reset (strap : PinLevel) (cause : ResetCause) (s : State) :
    (resetPart strap cause s).padsLawful := by
  refine (padsLawful_iff _).mpr fun a b p hne ha hb => hne (defaultPlace_injective .grid16 a b p ?_ ?_)
  · rwa [State.placeOf, show (resetPart strap cause s).pad a = PadRecord.reset from look_replicate _ a] at ha
  · rwa [State.placeOf, show (resetPart strap cause s).pad b = PadRecord.reset from look_replicate _ b] at hb

theorem padsLawful_keptByEvents : KeptByEvents State.padsLawful where
  link _ _ h := (SamePlaces.of_roster rfl).padsLawful h
  notices _ _ h := (SamePlaces.of_roster rfl).padsLawful h
  discard _ _ h := (SamePlaces.of_roster (by simp)).padsLawful h
  request _ h := (SamePlaces.of_roster (by simp)).padsLawful h
  frame _ h := (SamePlaces.of_roster (by simp)).padsLawful h
  command c s _ := command_padsLawful c s
  reset strap cause s _ := padsLawful_reset strap cause s
  restart s h := (samePlaces_restart s).padsLawful h
  roam _ h := (SamePlaces.of_roster (by simp)).padsLawful h
  sprint _ h := (SamePlaces.of_roster (by simp)).padsLawful h
  reply r s h := (samePlaces_replyArrives r s).padsLawful h
  miss s h := (samePlaces_pollMissed s).padsLawful h
  switched s h := (samePlaces_switchCycleEnded s).padsLawful h
  cycled s h := (samePlaces_sprintCycleEnded s).padsLawful h
  expiry _ h := (SamePlaces.of_roster (by simp)).padsLawful h
  answer _ h := (SamePlaces.of_pads (by simp) (by simp)).padsLawful h
  flash _ h := (SamePlaces.of_roster (by simp)).padsLawful h
  lapse _ h := (SamePlaces.of_pads (by simp) (by simp)).padsLawful h
  silence _ h := (SamePlaces.of_roster (by simp)).padsLawful h
  panel _ _ h := (SamePlaces.of_roster (by simp)).padsLawful h
  panelOut _ h := (SamePlaces.of_roster (by simp)).padsLawful h
  identify _ _ h := (SamePlaces.of_roster (by simp)).padsLawful h
  identifyOut _ h := (SamePlaces.of_roster (by simp)).padsLawful h
  countdown _ h := (SamePlaces.of_roster (by simp)).padsLawful h

/-- Settles O18: pads at distinct places stay so, and that bounds the pads of a team by its 8 seats. -/
theorem padsStayLawful : Obligations.PadsStayLawful := fun _ _ h ht =>
  padsLawful_keptByEvents.step (fun _ _ h => (SamePlaces.of_roster rfl).padsLawful h)
    (fun _ h => (SamePlaces.of_roster rfl).padsLawful h) h ht

end Sys2Proof.Proofs

/-! PROOFS. The reply queue, the held item and the transmitter stay consistent (R192, R194), at every step. -/

namespace Sys2Proof.Proofs
open Sys2Proof Sys2Proof.Machine

/-! ### What a command does to the link port -/

/-- A command leaves the link port alone, but for RESTART, which waits from now on (R197). -/
theorem runCommand_link (c : Command) (s : State) :
    (runCommand c s).1.link = s.link
      ∨ (runCommand c s).1.link = { s.link with restarting := true } := by
  have hsame : ∀ {α : Type} (act : α → State → State × Answer), (∀ a, (act a s).1.link = s.link) →
      ∀ p : Payload α, (withArgs p act s).1.link = s.link :=
    fun act hact p => withArgs_keeps (P := fun t => t.link = s.link) rfl hact p
  cases c with
  | restart p =>
    cases p with
    | fits a => exact .inr rfl
    | misfit => exact .inl rfl
  | cueLoad p | judge p => exact .inl (by simp [runCommand])
  | _ => exact .inl (hsame _ (fun a => by simp) _)

/-- A frame that is executed puts one reply on the queue, and a command of it may start the wait of RESTART. -/
theorem executeFrame_link (f : Frame) (s : State) :
    ∃ e b, (executeFrame f s).link = { s.link with
      queue := s.link.queue ++ [e]
      transmitter := if s.link.transmitter = .idle then .entry else s.link.transmitter
      restarting := b } := by
  cases f with
  | badKind kind => exact ⟨_, s.link.restarting, rfl⟩
  | command c =>
    rcases runCommand_link c (validFrame s) with h | h
    · exact ⟨_, s.link.restarting, by simp [executeFrame, executeCommand, enqueue, h]; rfl⟩
    · exact ⟨_, true, by simp [executeFrame, executeCommand, enqueue, h]; rfl⟩

/-- An item that is taken puts one entry on the queue. -/
theorem takeItem_link (x : HeldItem) (s : State) :
    ∃ e b, (takeItem x s).link = { s.link with
      queue := s.link.queue ++ [e]
      transmitter := if s.link.transmitter = .idle then .entry else s.link.transmitter
      restarting := b } := by
  cases x with
  | frame f => exact executeFrame_link f s
  | rejection r => exact ⟨_, s.link.restarting, rfl⟩

/-! ### The law, operation by operation -/

theorem linkSound_congr {s t : State} (hlink : t.link = s.link) (h : s.linkSound) : t.linkSound := by
  rw [State.linkSound, hlink]
  exact h

/-- An entry joins a queue with room and nothing held. -/
theorem linkSound_takeItem (x : HeldItem) {s : State} (hroom : s.link.queue.length < 4) (hheld : s.link.held = none) :
    (takeItem x s).linkSound := by
  obtain ⟨e, b, hlink⟩ := takeItem_link x s
  rw [State.linkSound, hlink]
  refine ⟨?_, fun hsome => ?_, fun _ => by simp, fun hidle => ?_⟩
  · simp only [List.length_append, List.length_singleton]
    omega
  · simp [hheld] at hsome
  · dsimp only at hidle
    split at hidle
    next => cases hidle
    next hne => exact absurd hidle hne

theorem linkSound_itemArrives (x : HeldItem) {s : State} (h : s.linkSound) : (itemArrives x s).linkSound := by
  unfold itemArrives
  split
  next => exact h
  next hrestart =>
    split
    next => exact linkSound_congr (by simp) h
    next hheld =>
      split
      next hroom => exact linkSound_takeItem x hroom (by simpa using hheld)
      next hfull =>
        obtain ⟨hlen, -, hentry, hidle⟩ := h
        have hfour : 4 ≤ s.link.queue.length := Nat.not_lt.mp hfull
        exact ⟨hlen, fun _ => ⟨Nat.le_antisymm hlen hfour, Bool.eq_false_iff.mpr hrestart⟩, hentry, hidle⟩

/-- The condition of the assembler is no part of the law. -/
theorem linkSound_assembler {s : State} (a : Assembler) (h : s.linkSound) :
    { s with link := { s.link with assembler := a } }.linkSound := h

theorem nextEntry_eq (s : State) :
    nextEntry s = s.setTransmitter (if s.link.queue = [] then .idle else .entry) := by
  unfold nextEntry
  split
  next h => rw [if_pos h]
  next h => rw [if_neg (by simp [h])]

theorem linkSound_nextEntry {s : State} (hlen : s.link.queue.length ≤ 4)
    (hheld : s.link.held.isSome = true → s.link.queue.length = 4 ∧ s.link.restarting = false) :
    (nextEntry s).linkSound := by
  rw [nextEntry_eq]
  by_cases hnil : s.link.queue = []
  · rw [if_pos hnil]
    exact ⟨hlen, hheld, fun h => (nomatch h), fun _ => hnil⟩
  · rw [if_neg hnil]
    exact ⟨hlen, hheld, fun _ => hnil, fun h => (nomatch h)⟩

theorem entrySent_sending {s : State} (h : s.link.transmitter = .entry) :
    entrySent s = nextEntry
      (if Config.maxReplies ≤ s.link.queue.length then takeHeld (dropFront s) else dropFront s) := by
  unfold entrySent
  rw [h]

/-- An entry sent with nothing held leaves the queue, and the transmitter goes on (R192). -/
theorem entrySent_noneHeld {s : State} {e : QueueEntry} {rest : List QueueEntry}
    (hsending : s.link.transmitter = .entry) (hqueue : s.link.queue = e :: rest)
    (hheld : s.link.queue.length < 4 ∨ s.link.held = none) :
    entrySent s = { s with link := { s.link with
      queue := rest, transmitter := if rest = [] then .idle else .entry } } := by
  have hdrop : dropFront s = { s with link := { s.link with queue := rest } } := by simp [dropFront, hqueue]
  have htake : (if Config.maxReplies ≤ s.link.queue.length then takeHeld (dropFront s) else dropFront s)
      = dropFront s := by
    split
    next hfull =>
      have hnone : (dropFront s).link.held = none := hheld.resolve_left (Nat.not_lt.mpr hfull)
      simp only [takeHeld, hnone]
    next => rfl
  rw [entrySent_sending hsending, htake, nextEntry_eq, hdrop]
  rfl

/-- An entry sent from a full queue makes room for the item held (R192). -/
theorem entrySent_held {s : State} {e : QueueEntry} {rest : List QueueEntry} {x : HeldItem}
    (hsending : s.link.transmitter = .entry) (hqueue : s.link.queue = e :: rest)
    (hfull : 4 ≤ s.link.queue.length) (hheld : s.link.held = some x) :
    entrySent s = nextEntry (takeItem x { s with link := { s.link with queue := rest, held := none } }) := by
  have hdrop : dropFront s = { s with link := { s.link with queue := rest } } := by simp [dropFront, hqueue]
  have hfull' : Config.maxReplies ≤ s.link.queue.length := hfull
  rw [entrySent_sending hsending, if_pos hfull', hdrop]
  simp only [takeHeld, hheld]

theorem entrySent_notSending {s : State} (h : s.link.transmitter ≠ .entry) : entrySent s = s := by
  unfold entrySent
  split
  next hsending => exact absurd hsending h
  next => rfl
  next => rfl

theorem linkSound_entrySent {s : State} (h : s.linkSound) : (entrySent s).linkSound := by
  by_cases hsending : s.link.transmitter = .entry
  case neg =>
    rw [entrySent_notSending hsending]
    exact h
  case pos =>
    obtain ⟨hlen, hheld, hentry, -⟩ := h
    obtain ⟨e, rest, hqueue⟩ := List.exists_cons_of_ne_nil (hentry hsending)
    have hrest : rest.length < 4 := by
      rw [hqueue, List.length_cons] at hlen
      exact hlen
    cases hitem : s.link.held with
    | none =>
      rw [entrySent_noneHeld hsending hqueue (.inr hitem)]
      refine ⟨Nat.le_of_lt hrest, by simp [hitem], fun h hnil => ?_, fun h => ?_⟩
      · simp [show rest = [] from hnil] at h
      · refine Classical.byContradiction fun hne => ?_
        simp [show ¬rest = [] from hne] at h
    | some x =>
      have hfour : s.link.queue.length = 4 := (hheld (by simp [hitem])).1
      rw [entrySent_held hsending hqueue (Nat.le_of_eq hfour.symm) hitem]
      obtain ⟨e', b, hlink⟩ := takeItem_link x { s with link := { s.link with queue := rest, held := none } }
      refine linkSound_nextEntry ?_ (by simp [hlink])
      rw [hlink]
      simp only [List.length_append, List.length_singleton]
      omega

theorem linkSound_noticeBegins {s : State} (h : s.linkSound) : (noticeBegins s).linkSound := by
  unfold noticeBegins
  split
  · split
    next k _ _ =>
      obtain ⟨hlen, hheld, -, -⟩ := h
      have hlink : (discardPending k s).link = s.link := by simp
      simp only [State.linkSound, beginNotice, State.setTransmitter, hlink]
      exact ⟨hlen, hheld, fun h => (nomatch h), fun h => (nomatch h)⟩
    · exact h
  · exact h

theorem linkSound_noticeEnds {s : State} (h : s.linkSound) : (noticeEnds s).linkSound := by
  unfold noticeEnds
  split
  · exact linkSound_nextEntry h.1 h.2.1
  · exact h
  · exact h

theorem linkSound_gapRunsOut {s : State} (h : s.linkSound) : (gapRunsOut s).linkSound := by
  unfold gapRunsOut
  split
  · exact linkSound_itemArrives _ (linkSound_assembler .hunting h)
  · exact h

theorem linkSound_byteArrives (b : Byte) (stop : Bool) {s : State} (h : s.linkSound) :
    (byteArrives b stop s).linkSound := by
  have harrives : ∀ x, (itemArrives x (hunt s)).linkSound :=
    fun x => linkSound_itemArrives x (linkSound_assembler .hunting h)
  unfold byteArrives collectByte
  (repeat' split) <;> first | exact h | exact linkSound_assembler _ h | exact harrives _

theorem linkSound_of_empty {s : State} (hqueue : s.link.queue = []) (hheld : s.link.held = none)
    (hidle : s.link.transmitter = .idle) : s.linkSound := by
  simp [State.linkSound, hqueue, hheld, hidle]

theorem linkSound_restart {s : State} (h : s.linkSound) : (restartTakesEffect s).linkSound := by
  unfold restartTakesEffect
  split
  · refine linkSound_of_empty ?_ ?_ ?_ <;>
      simp [restartBlocks, LinkPort.afterRestart, LinkPort.reset]
  · exact h

/-- The rows that are no part of the control link leave it as it was. -/
theorem linkSound_effectOf (i : Instr) {s : State} (h : s.linkSound) : (effectOf i s).linkSound := by
  have harrives : ∀ x, (itemArrives x (hunt s)).linkSound :=
    fun x => linkSound_itemArrives x (linkSound_assembler .hunting h)
  cases i with
  | powerOnReset strap | lineReset strap => exact linkSound_of_empty rfl rfl rfl
  | restartEffect => exact linkSound_restart h
  | badKindFrame kind => exact harrives _
  | checkReject | lengthReject => exact harrives _
  | truncatedReject => exact linkSound_gapRunsOut h
  | replySent => exact linkSound_entrySent h
  | noticeBegin => exact linkSound_noticeBegins h
  | noticeEnd => exact linkSound_noticeEnds h
  | byteReceived b stop => exact linkSound_byteArrives b stop h
  | roamCycleStart | sprintCycleStart | pollReplyTaken r | pollMiss | switchCycleEnd | sprintCycleEnd
  | roundDeadlineExpiry | answerDeadlineExpiry | flashInstant | lapse | silenceDeadline | panelAck a
  | panelAckTimeout | identifyAnswer a | identifyTimeout | countdownSecond =>
    exact linkSound_congr (by simp [effectOf, Instr.frameCommand]) h
  | _ => exact harrives (.frame (.command _))

/-- Settles O19: an entry joins only where there is room or leaves as one joins, and what is held waits behind
a full queue. -/
theorem linkStaysSound : Obligations.LinkStaysSound := by
  intro s t h ht
  obtain rfl | ⟨i, rest, rfl⟩ := step_cases ht
  · exact linkSound_congr rfl h
  · have heffect : (effectOf i { s with pending := rest }).linkSound := linkSound_effectOf i h
    exact linkSound_congr (by simp) heffect

end Sys2Proof.Proofs

/-! PROOFS. What can happen to the active context while it stays active (chapters 5 to 7), said once: each change
with its occasion.  The operations of the round engine are sequences of these changes. -/

namespace Sys2Proof.Proofs
open Sys2Proof Sys2Proof.Machine

/-- The context in which the holder `t` has answered, as the floor pass finds it (R116 to R119). -/
def Context.answered (t : TeamId) (lockout : List TeamId) (c : Context) : Context :=
  { c with answerDeadline := none, queue := withoutTeam t c.queue, lockout := lockout }.passing

@[simp] theorem answered_fields (t : TeamId) (lockout : List TeamId) (c : Context) :
    (Context.answered t lockout c).cue = c.cue ∧ (Context.answered t lockout c).held = c.held
    ∧ (Context.answered t lockout c).eligible = c.eligible ∧ (Context.answered t lockout c).ballot = c.ballot
    ∧ (Context.answered t lockout c).lockout = lockout
    ∧ (Context.answered t lockout c).queue = withoutTeam t c.queue
    ∧ (Context.answered t lockout c).holder = none :=
  ⟨rfl, rfl, rfl, rfl, rfl, rfl, rfl⟩

/-- The changes of an active context on a line at `speed`, with a hold on or not. -/
inductive ContextStep (speed : LineSpeed) (holding : Bool) : Context → Context → Prop
  | opens (c : Context) (now : ClockValue) (hphase : c.phase = .armed ∨ c.phase = .opening)
      (hspeed : speed = .sprint) : ContextStep speed holding c (c.opened now)
  | waits (c : Context) (hphase : c.phase = .armed) : ContextStep speed holding c { c with phase := .opening }
  | closes (c : Context) (s : State) (now : ClockValue) (e : Ending) :
      ContextStep speed holding c ((c.talliedAtClose s).closed now e)
  | stops (c : Context) : ContextStep speed holding c c.stopWindowAtZero
  | votingCloses (c : Context) (instant : ClockValue) (cause : EndCause) (count : ClockValue)
      (hphase : c.phase = .opened) : ContextStep speed holding c
        { c.stopWindowAtZero with
          closeInstant := some instant
          phase := .closing
          ballot := c.ballot.map fun b => { b with closeCause := some cause, startCount := some count } }
  | grants (c : Context) (now : ClockValue) (head : Claim) (rest : List Claim) (hphase : c.phase = .settling)
      (hqueue : c.queue = head :: rest) (hheld : c.held = false) :
      ContextStep speed holding c (c.granted now head rest)
  | claims (c : Context) (pointer : TeamId) (q : Claim) (queue : List Claim) (overflow : List TeamId)
      (hkind : c.isPoll = false) (hphase : c.phase.takesPresses = true) (hlock : q.team ∉ c.lockout)
      (hnew : ∀ x ∈ c.queue, x.team ≠ q.team)
      (hroom : queue = c.queue ∧ c.queue.length < 8 ∨ queue = c.queue.dropLast ∧ 8 ≤ c.queue.length) :
      ContextStep speed holding c
        { c with
          queue := placeClaim pointer c.phase q queue
          overflow := overflow
          phase := if c.phase = .opened then .settling else c.phase }
  | overflows (c : Context) (overflow : List TeamId) : ContextStep speed holding c { c with overflow := overflow }
  | improves (c : Context) (pointer : TeamId) (q old : Claim) (hphase : c.phase = .settling) (hold : old ∈ c.queue)
      (hteam : q.team = old.team) (hlock : q.team ∉ c.lockout) : ContextStep speed holding c
        { c with queue := placeClaim pointer c.phase q (withoutTeam q.team c.queue) }
  | votes (c : Context) (b : Ballot) (policy : ChangePolicy) (t : TeamId) (o : Letter) (capture : ClockValue)
      (hballot : c.ballot = some b) :
      ContextStep speed holding c { c with ballot := some (b.take policy t o capture) }
  | flashes (c : Context) : ContextStep speed holding c { c with flashing := true, flashInstant := none }
  | drops (c : Context) (t : TeamId) (hholder : c.holder ≠ some t)
      (hleft : c.phase = .settling → withoutTeam t c.queue ≠ []) :
      ContextStep speed holding c { c with queue := withoutTeam t c.queue }
  | empties (c : Context) (hphase : c.phase = .settling) :
      ContextStep speed holding c { c with queue := [], phase := .opened }
  | judgedRight (c : Context) (s : State) (now : ClockValue) (e : Ending) :
      ContextStep speed holding c (({ c with answerDeadline := none }.talliedAtClose s).closed now e)
  | passGrants (c : Context) (t : TeamId) (lockout : List TeamId) (now : ClockValue) (head : Claim)
      (rest : List Claim) (hphase : c.phase = .floor)
      (hlock : lockout = c.lockout ∨ lockout = insertAsc t c.lockout)
      (hqueue : withoutTeam t c.queue = head :: rest) (hheld : c.held = false) :
      ContextStep speed holding c ((Context.answered t lockout c).granted now head rest)
  | passSettles (c : Context) (t : TeamId) (lockout : List TeamId) (now : ClockValue) (hphase : c.phase = .floor)
      (hlock : lockout = c.lockout ∨ lockout = insertAsc t c.lockout)
      (hqueue : withoutTeam t c.queue ≠ []) (hheld : c.answerDeadline.isSome = true ∨ holding = false) :
      ContextStep speed holding c
        ({ Context.answered t lockout c with phase := .settling }.startUnlessHeld now)
  | passReopens (c : Context) (t : TeamId) (lockout : List TeamId) (now : ClockValue) (hphase : c.phase = .floor)
      (hlock : lockout = c.lockout ∨ lockout = insertAsc t c.lockout)
      (hqueue : withoutTeam t c.queue = []) (hheld : c.answerDeadline.isSome = true ∨ holding = false) :
      ContextStep speed holding c
        ({ Context.answered t lockout c with phase := .opened }.startUnlessHeld now)
  | passCloses (c : Context) (t : TeamId) (lockout : List TeamId) (s : State) (now : ClockValue) (e : Ending)
      (hlock : lockout = c.lockout ∨ lockout = insertAsc t c.lockout)
      (hqueue : withoutTeam t c.queue = []) :
      ContextStep speed holding c (((Context.answered t lockout c).talliedAtClose s).closed now e)
  | reveals (c : Context) (s : State) (f : PollFields) (right : Letter) (e : Ending) (b : Ballot)
      (hphase : c.phase = .closed) (hballot : c.ballot = some b) :
      ContextStep speed holding c (revealContext e (b.revealedBy s f right) c)

/-- Any number of such changes, one after the other. -/
inductive ContextSteps (speed : LineSpeed) (holding : Bool) (c : Context) : Context → Prop
  | refl : ContextSteps speed holding c c
  | tail {d e : Context} (hsteps : ContextSteps speed holding c d) (hstep : ContextStep speed holding d e) :
      ContextSteps speed holding c e

theorem ContextSteps.single {speed : LineSpeed} {holding : Bool} {c d : Context} (h : ContextStep speed holding c d) :
    ContextSteps speed holding c d := .tail .refl h

theorem ContextSteps.trans {speed : LineSpeed} {holding : Bool} {c d e : Context} (h : ContextSteps speed holding c d)
    (h' : ContextSteps speed holding d e) : ContextSteps speed holding c e := by
  induction h' with
  | refl => exact h
  | tail _ hstep ih => exact ih.tail hstep

theorem ContextSteps.head {speed : LineSpeed} {holding : Bool} {c d e : Context} (h : ContextStep speed holding c d)
    (h' : ContextSteps speed holding d e) : ContextSteps speed holding c e := (ContextSteps.single h).trans h'

/-- The line, the hold and the stack stay, and the active context, where there is one, goes on by such changes. -/
structure Moves (s t : State) : Prop where
  speed : t.desk.speed = s.desk.speed
  silence : t.silence = s.silence
  stack : t.stack = s.stack
  idle : s.engine.active = none → t.engine.active = none
  active : ∀ c, s.engine.active = some c → ∃ d, t.engine.active = some d
    ∧ ContextSteps s.desk.speed s.holding c d

theorem holding_of_silence {s t : State} (h : t.silence = s.silence) : t.holding = s.holding := by
  simp only [State.holding, h]

theorem Moves.of_engine {s t : State} (hengine : t.engine.active = s.engine.active)
    (hspeed : t.desk.speed = s.desk.speed) (hsilence : t.silence = s.silence) (hstack : t.stack = s.stack) :
    Moves s t :=
  ⟨hspeed, hsilence, hstack, fun h => hengine.trans h, fun c h => ⟨c, hengine.trans h, .refl⟩⟩

theorem Moves.refl (s : State) : Moves s s := .of_engine rfl rfl rfl rfl

theorem Moves.trans {s t u : State} (h : Moves s t) (h' : Moves t u) : Moves s u where
  speed := h'.speed.trans h.speed
  silence := h'.silence.trans h.silence
  stack := h'.stack.trans h.stack
  idle := fun ha => h'.idle (h.idle ha)
  active := fun c hc => by
    obtain ⟨d, hd, hcd⟩ := h.active c hc
    obtain ⟨e, he, hde⟩ := h'.active d hd
    rw [h.speed, holding_of_silence h.silence] at hde
    exact ⟨e, he, hcd.trans hde⟩

/-- The active context is changed to `d`, and the rest stays. -/
theorem Moves.of_active {s t : State} {c d : Context} (hc : s.engine.active = some c) (hd : t.engine.active = some d)
    (h : ContextSteps s.desk.speed s.holding c d)
    (hspeed : t.desk.speed = s.desk.speed) (hsilence : t.silence = s.silence) (hstack : t.stack = s.stack) :
    Moves s t where
  speed := hspeed
  silence := hsilence
  stack := hstack
  idle := fun hn => by rw [hc] at hn; cases hn
  active := fun c' hc' => by
    obtain rfl := Option.some.inj (hc.symm.trans hc')
    exact ⟨d, hd, h⟩

/-- One change of the active context. -/
theorem Moves.of_step {s t : State} {c d : Context} (hc : s.engine.active = some c) (hd : t.engine.active = some d)
    (h : ContextStep s.desk.speed s.holding c d) (hspeed : t.desk.speed = s.desk.speed)
    (hsilence : t.silence = s.silence) (hstack : t.stack = s.stack) : Moves s t :=
  .of_active hc hd (.single h) hspeed hsilence hstack

/-! ### Entry into OPEN, the close, the grant and the votes -/

theorem moves_enterOpen {s : State} {c : Context} (hc : s.engine.active = some c)
    (hphase : c.phase = .armed ∨ c.phase = .opening) (hspeed : s.desk.speed = .sprint) : Moves s (enterOpen c s) :=
  .of_step hc (d := c.opened s.clock) (by simp [enterOpen, State.setActive]) (.opens c _ hphase hspeed)
    (by simp [enterOpen]) (by simp) (by simp)

theorem moves_closeRound (e : Ending) {s : State} {c : Context} (hc : s.engine.active = some c) :
    Moves s (closeRound e c s) :=
  .of_step hc (d := (c.talliedAtClose s).closed s.clock e) (by simp [closeRound, State.setActive])
    (.closes c s _ e) (by simp) (by simp) (by simp)

theorem moves_closeStopped (e : Ending) {s : State} {c : Context} (hc : s.engine.active = some c) :
    Moves s (closeRound e c.stopWindowAtZero s) :=
  .of_active hc (d := (c.stopWindowAtZero.talliedAtClose s).closed s.clock e) (by simp [closeRound, State.setActive])
    (.head (.stops c) (.single (.closes _ s _ e))) (by simp) (by simp) (by simp)

theorem moves_closeVoting (cause : EndCause) (instant : ClockValue) {s : State} {c : Context}
    (hc : s.engine.active = some c) (hphase : c.phase = .opened) : Moves s (closeVoting cause instant c s) :=
  .of_step hc (by simp [closeVoting, State.setActive])
    (.votingCloses c instant cause s.desk.sprintCount hphase) (by simp) (by simp) (by simp)

theorem moves_settleTest (s : State) : Moves s (settleTest s) := by
  unfold settleTest
  split
  next => exact .refl s
  next c hc =>
    split
    next head rest hphase hqueue =>
      split
      next hready =>
        have hheld : c.held = false := by
          rw [Bool.and_eq_true, Bool.not_eq_true'] at hready
          exact hready.2
        exact .of_step hc (d := c.granted s.clock head rest) (by simp [grantFloor, setPending])
          (.grants c _ head rest hphase hqueue hheld) (by simp) (by simp) (by simp)
      next => exact .refl s
    next => exact .refl s

theorem moves_closingTest (s : State) : Moves s (closingTest s) := by
  unfold closingTest
  split
  next => exact .refl s
  next c hc =>
    (repeat' split) <;> first | exact .refl s | exact moves_closeRound _ hc

theorem moves_cycleCompleted (s : State) : Moves s (cycleCompleted s) :=
  (moves_settleTest s).trans (moves_closingTest _)

theorem moves_roundExpiry (s : State) : Moves s (roundExpiry s) := by
  unfold roundExpiry
  split
  next => exact .refl s
  next c hc =>
    split
    next => exact .refl s
    next d _ =>
      split
      next =>
        simp only [expireRound]
        split
        next hphase =>
          split
          · exact moves_closeVoting _ _ hc hphase
          · exact moves_closeStopped _ hc
        all_goals exact .of_step hc (d := c.stopWindowAtZero) rfl (.stops c) rfl rfl rfl
      next => exact .refl s

theorem moves_flashReached (s : State) : Moves s (flashReached s) := by
  unfold flashReached
  split
  next => exact .refl s
  next c hc =>
    (repeat' split) <;> first | exact .refl s | exact .of_step hc (d := _) rfl (.flashes c) rfl rfl rfl

/-! ### Claims and votes (R101 to R107, R126 to R130) -/

/-- The active context after a claim is admitted (R102, R104). -/
theorem admitClaim_active (q : Claim) (c : Context) (s : State) :
    ∃ contested, (admitClaim q c s).engine.active = some
      { c with
        queue := placeClaim s.engine.tiePointer c.phase { q with contested := contested } c.queue
        overflow := removeFrom q.team c.overflow
        phase := if c.phase = .opened then .settling else c.phase } := by
  unfold admitClaim
  cases h : c.phase with
  | floor =>
    dsimp only
    split
    · split <;> exact ⟨_, by simp [State.setActive]; rfl⟩
    · exact ⟨_, by simp [State.setActive]; rfl⟩
  | _ => exact ⟨_, by simp [State.setActive]; rfl⟩

/-- A claim is admitted to the queue, or to what is left of a full one. -/
theorem moves_admitClaim (q : Claim) {s : State} {c : Context} (queue : List Claim) (overflow : List TeamId)
    (hc : s.engine.active = some c) (hkind : c.isPoll = false) (hphase : c.phase.takesPresses = true)
    (hlock : q.team ∉ c.lockout) (hnew : ∀ x ∈ c.queue, x.team ≠ q.team)
    (hroom : queue = c.queue ∧ c.queue.length < 8 ∨ queue = c.queue.dropLast ∧ 8 ≤ c.queue.length) :
    Moves s (admitClaim q { c with queue := queue, overflow := overflow } s) := by
  obtain ⟨contested, hactive⟩ := admitClaim_active q { c with queue := queue, overflow := overflow } s
  exact .of_step hc hactive
    (.claims c s.engine.tiePointer { q with contested := contested } queue _ hkind hphase hlock hnew hroom)
    (by simp) (by simp) (by simp)

theorem moves_newClaim (q : Claim) {s : State} {c : Context} (hc : s.engine.active = some c) (hkind : c.isPoll = false)
    (hphase : c.phase.takesPresses = true) (hlock : q.team ∉ c.lockout) (hnew : ∀ x ∈ c.queue, x.team ≠ q.team) :
    Moves s (newClaim q c s) := by
  unfold newClaim
  split
  next hroom => exact moves_admitClaim q c.queue c.overflow hc hkind hphase hlock hnew (.inl ⟨rfl, hroom⟩)
  next hfull =>
    split
    next last _ =>
      unfold meetFullQueue
      split
      · exact moves_admitClaim q c.queue.dropLast _ hc hkind hphase hlock hnew (.inr ⟨rfl, Nat.not_lt.mp hfull⟩)
      · exact .of_step hc rfl (.overflows c _) rfl rfl rfl
    next => exact .refl s

theorem moves_takeClaim (p : Press) {s : State} {c : Context} (hc : s.engine.active = some c)
    (hkind : c.isPoll = false) (hphase : c.phase.takesPresses = true) : Moves s (takeClaim p c s) := by
  unfold takeClaim
  split
  next => exact .refl s
  next =>
    split
    next => exact .refl s
    next hlock =>
      split
      next old hfind =>
        split
        next hbetter =>
          have hteam : old.team = p.team := by simpa using List.find?_some hfind
          rw [← hteam] at hlock
          refine .of_step hc (d := _) (by simp [improveClaim, State.setActive, ← hteam])
            (.improves c s.engine.tiePointer { old with pad := p.pad, capture := p.capture, joinCycle := s.desk.sprintCount }
              old hbetter.1 (List.mem_of_find?_eq_some hfind) rfl hlock) (by simp) (by simp) (by simp)
        next => exact .refl s
      next hnone =>
        refine moves_newClaim _ hc hkind hphase hlock fun x hx => ?_
        simpa [claimOf] using List.find?_eq_none.mp hnone x hx

theorem moves_takeVote (p : Press) {s : State} {c : Context} (hc : s.engine.active = some c) :
    Moves s (takeVote p c s) := by
  unfold takeVote
  split
  next o f b _ _ hballot =>
    (repeat' split) <;>
      first | exact .refl s | exact .of_step hc rfl (.votes c b f.policy p.team o p.capture hballot) rfl rfl rfl
  next => exact .refl s

theorem moves_takePress (p : Press) (s : State) : Moves s (takePress p s) := by
  unfold takePress
  split
  next => exact .refl s
  next c hc =>
    split
    next => exact .refl s
    next hphase =>
      rw [Bool.not_eq_true', Bool.not_eq_false] at hphase
      split
      next => exact .refl s
      next =>
        split
        next => exact .refl s
        next =>
          split
          next => exact .refl s
          next =>
            split
            next => exact moves_takeVote p hc
            next hkind => exact moves_takeClaim p hc (Bool.eq_false_iff.mpr hkind) hphase

theorem moves_takePresses (l : List Press) (s : State) : Moves s (takePresses l s) := by
  induction l generalizing s with
  | nil => exact .refl s
  | cons p ps ih => exact (moves_takePress p s).trans (ih _)

theorem moves_captureReply (a : PadAddr) (keys : Keys) (age : Byte) (s : State) :
    Moves s (captureReply a keys age s) := by
  have hset : ∀ r, Moves s (s.setPad a r) := fun r => .of_engine rfl rfl rfl rfl
  have hcount : ∀ c, Moves s (countCandidate a c s) := by
    intro c
    unfold countCandidate
    split
    · exact (hset _).trans (moves_takePresses _ _)
    · exact hset _
  simp only [captureReply, makeCandidate]
  (repeat' split) <;> first | exact .refl s | exact hcount _ | exact hset _

theorem moves_takeReply (a : PadAddr) (r : PadReply) (s : State) : Moves s (takeReply a r s) :=
  (Moves.of_engine (t := recordEcho a r.echo (copyStatus a r.batteryLow (discoverPad a s)))
    (by simp) (by simp) (by simp) (by simp)).trans (moves_captureReply a r.keys _ _)

theorem moves_replyArrives (r : PadReply) (s : State) : Moves s (replyArrives r s) := by
  unfold replyArrives
  split
  next => exact .of_engine (by simp) (by simp) (by simp) (by simp)
  next p _ =>
    split
    · exact (moves_takeReply p.address r s).trans (.of_engine (by simp) (by simp) (by simp) (by simp))
    · exact .of_engine (by simp) (by simp) (by simp) (by simp)

/-! ### Verdicts, the floor pass and the removal of a claim (R114 to R121) -/

/-- The floor pass after the holder `t` has answered: whatever comes of it is one change. -/
theorem moves_floorPass (cause : EndCause) {s u : State} {c : Context} (t : TeamId) (lockout : List TeamId)
    (hc : s.engine.active = some c) (hspeed : u.desk.speed = s.desk.speed) (hsilence : u.silence = s.silence)
    (hstack : u.stack = s.stack) (hphase : c.phase = .floor)
    (hlock : lockout = c.lockout ∨ lockout = insertAsc t c.lockout)
    (hheld : c.answerDeadline.isSome = true ∨ s.holding = false) :
    Moves s (floorPass cause
      { c with answerDeadline := none, queue := withoutTeam t c.queue, lockout := lockout } u) := by
  have hgoes : ∀ (v : State) (d : Context), v.engine.active = some d →
      ContextStep s.desk.speed s.holding c d → v.desk.speed = u.desk.speed → v.silence = u.silence →
      v.stack = u.stack → Moves s v := fun v d hd hstep h1 h2 h3 =>
    .of_step hc hd hstep (h1.trans hspeed) (h2.trans hsilence) (h3.trans hstack)
  have hqueue : (Context.answered t lockout c).queue = withoutTeam t c.queue := rfl
  simp only [floorPass]
  split
  next head rest hcons =>
    split
    next hready =>
      rw [Bool.and_eq_true, Bool.not_eq_true'] at hready
      exact hgoes _ _ (by simp [grantFloor, setPending]; rfl)
        (.passGrants c t lockout u.clock head rest hphase hlock hcons hready.2) (by simp) (by simp) (by simp)
    next =>
      exact hgoes _ _ (by simp [State.setActive]; rfl)
        (.passSettles c t lockout u.clock hphase hlock (by rw [← hqueue]; exact hcons ▸ List.cons_ne_nil _ _) hheld)
        (by simp) (by simp) (by simp)
  next hnil =>
    have hcloses : ∀ e, Moves s (closeRound e (Context.answered t lockout c) u) := fun e =>
      hgoes _ _ (by simp [closeRound, State.setActive]) (.passCloses c t lockout u u.clock e hlock hnil)
        (by simp) (by simp) (by simp)
    split
    · exact hcloses _
    · split
      · exact hgoes _ _ (by simp [State.setActive]; rfl) (.passReopens c t lockout u.clock hphase hlock hnil hheld)
          (by simp) (by simp) (by simp)
      · exact hcloses _

theorem moves_wrongVerdict (cause : EndCause) {s : State} {c : Context} (t : TeamId) (hc : s.engine.active = some c)
    (hphase : c.phase = .floor) (hheld : c.answerDeadline.isSome = true ∨ s.holding = false) :
    Moves s (wrongVerdict cause t { c with answerDeadline := none } s) :=
  moves_floorPass (c := c) cause t (insertAsc t c.lockout) hc (by simp) (by simp) (by simp) hphase (.inr rfl) hheld

theorem moves_voidVerdict (cause : EndCause) {s : State} {c : Context} (t : TeamId) (hc : s.engine.active = some c)
    (hphase : c.phase = .floor) (hheld : c.answerDeadline.isSome = true ∨ s.holding = false) :
    Moves s (voidVerdict cause t { c with answerDeadline := none } s) :=
  moves_floorPass (c := c) cause t c.lockout hc (by simp) (by simp) (by simp) hphase (.inl rfl) hheld

theorem moves_correctVerdict {s : State} {c : Context} (t : TeamId) (hc : s.engine.active = some c) :
    Moves s (correctVerdict t { c with answerDeadline := none } s) :=
  .of_step hc (by simp [correctVerdict, closeRound, State.setActive]; rfl) (.judgedRight c _ s.clock _)
    (by simp) (by simp) (by simp)

theorem moves_endAnswer (cause : EndCause) {s : State} {c : Context} (hc : s.engine.active = some c)
    (hphase : c.phase = .floor) (hheld : c.answerDeadline.isSome = true ∨ s.holding = false) :
    Moves s (endAnswer cause c s) := by
  unfold endAnswer
  split
  next t f _ _ =>
    dsimp only
    split
    · exact moves_wrongVerdict cause t hc hphase hheld
    · exact moves_voidVerdict cause t hc hphase hheld
  next => exact .refl s

theorem moves_answerExpiry (s : State) : Moves s (answerExpiry s) := by
  unfold answerExpiry
  split
  next => exact .refl s
  next c hc =>
    split
    next d hphase hdeadline =>
      split
      · exact moves_endAnswer _ hc hphase (.inl (by simp [hdeadline]))
      · exact .refl s
    next => exact .refl s

/-- The claim of a team that is not the holder leaves the queue (R121). -/
theorem moves_removeClaim {s u : State} {c : Context} (t : TeamId) (hc : s.engine.active = some c)
    (hspeed : u.desk.speed = s.desk.speed) (hsilence : u.silence = s.silence) (hstack : u.stack = s.stack)
    (hholder : c.holder ≠ some t) (hclaim : c.hasClaim t = true) :
    Moves s (removeClaim t c u) := by
  have hgoes : ∀ (v : State) (d : Context), v.engine.active = some d →
      ContextSteps s.desk.speed s.holding c d → v.desk.speed = u.desk.speed →
      v.silence = u.silence → v.stack = u.stack → Moves s v := fun v d hd hstep h1 h2 h3 =>
    .of_active hc hd hstep (h1.trans hspeed) (h2.trans hsilence) (h3.trans hstack)
  have hdrops : (c.phase = .settling → withoutTeam t c.queue ≠ []) →
      Moves s (signalQueueChange (u.setActive (some { c with queue := withoutTeam t c.queue }))) := fun hleft =>
    hgoes _ _ (by simp [State.setActive]) (.single (.drops c t hholder hleft)) (by simp) (by simp) (by simp)
  simp only [removeClaim]
  split
  next head rest hphase hqueue =>
    split
    next hhead =>
      split
      next hnil =>
        have hempties : ContextSteps s.desk.speed s.holding c
            { c with queue := [], phase := .opened } := .single (.empties c hphase)
        unfold reopenEmptied
        split
        · exact hgoes _ _ (by simp [closeRound, State.setActive, hnil]; rfl)
            (hempties.tail (.closes _ _ u.clock _)) (by simp) (by simp) (by simp)
        · exact hgoes _ _ (by simp [State.setActive, hnil]) hempties (by simp) (by simp) (by simp)
      next head' rest' hleft =>
        exact (hdrops fun _ => by rw [hleft]; exact List.cons_ne_nil _ _).trans (moves_settleTest _)
    next hhead =>
      refine hdrops fun _ hnil => ?_
      have hmem : head ∈ withoutTeam t c.queue := by simp [withoutTeam, hqueue, hhead]
      rw [hnil] at hmem
      cases hmem
  next hno =>
    refine hdrops fun hphase hnil => ?_
    cases hqueue : c.queue with
    | nil => simp [Context.hasClaim, hqueue] at hclaim
    | cons head rest => exact hno head rest hphase hqueue

/-! ### The commands that act on the active context and keep it active -/

theorem moves_teamSet (args : TeamSetArgs) (s : State) : Moves s (teamSet args s).1 := by
  unfold teamSet
  split
  next t state tag _ _ _ =>
    split
    next => exact .refl s
    next hfree =>
      have hset : Moves s (s.setTeam t ((s.team t).withStateTag state tag)) := .of_engine rfl rfl rfl rfl
      simp only [changeTeam]
      split
      next hleaves =>
        have hholder : s.holder ≠ some t := fun h => hfree ⟨(Bool.and_eq_true _ _ ▸ hleaves).2, h⟩
        unfold dropBenchedClaim
        split
        next => exact hset
        next c hc =>
          have hc' : s.engine.active = some c := hc
          have hcholder : c.holder ≠ some t := by simpa [State.holder, hc'] using hholder
          split
          next hclaim => exact moves_removeClaim t hc' rfl rfl rfl hcholder hclaim
          next => exact hset
      next => exact hset
  next => exact .refl s

theorem moves_claimDrop (b : Byte) (s : State) : Moves s (claimDrop b s).1 := by
  unfold claimDrop
  split
  next => exact .refl s
  next => exact .refl s
  next t c _ hc =>
    split
    next => exact .refl s
    next =>
      split
      next => exact .refl s
      next hholder =>
        split
        next hclaim => exact moves_removeClaim t hc rfl rfl rfl hholder hclaim
        next => exact .refl s

theorem moves_roundOpen (a : NoArgs) (s : State) : Moves s (roundOpen a s).1 := by
  unfold roundOpen
  split
  next => exact .refl s
  next c hc =>
    split
    next hphase =>
      split
      next hspeed => exact moves_enterOpen hc (.inl hphase) hspeed
      next => exact .of_step hc (by simp [State.setActive]) (.waits c hphase) (by simp) (by simp) (by simp)
    next => exact .refl s

theorem moves_callTime (a : NoArgs) {s : State} (hhold : s.holding = false) : Moves s (callTime a s).1 := by
  unfold callTime
  split
  next => exact .refl s
  next c hc =>
    split
    next hphase =>
      dsimp only
      split
      · exact moves_closeVoting _ _ hc hphase
      · exact moves_closeStopped _ hc
    next hphase => exact moves_endAnswer _ hc hphase (.inr hhold)
    all_goals exact .refl s

theorem moves_roundAbort (a : NoArgs) (s : State) : Moves s (roundAbort a s).1 := by
  unfold roundAbort
  split
  next => exact .refl s
  next c hc =>
    split
    next => exact .refl s
    next => exact .refl s
    all_goals exact moves_closeRound _ hc

theorem moves_judge (p : Payload JudgeArgs) {s : State} (hhold : s.holding = false) : Moves s (judge p s).1 := by
  have hteam : ∀ t v, Moves s (judgeTeam t v s).1 := by
    intro t v
    unfold judgeTeam
    split
    next => exact .refl s
    next c hc =>
      split
      next hfloor =>
        cases v with
        | correct => exact moves_correctVerdict t hc
        | wrong => exact moves_wrongVerdict .judged t hc hfloor.1 (.inr hhold)
        | void => exact moves_voidVerdict .judged t hc hfloor.1 (.inr hhold)
      next => exact .refl s
  unfold judge
  split
  next => exact .refl s
  next =>
    split
    · exact hteam _ _
    · exact .refl s

theorem moves_reveal (o : Option Byte) (s : State) : Moves s (reveal o s).1 := by
  unfold reveal
  split
  next => exact .refl s
  next => exact .refl s
  next given c _ hc =>
    split
    next f b e _ hballot _ =>
      split
      next hclosed =>
        have haccept : ∀ right from', Moves s (acceptReveal right from' e c f b s).1 := fun right from' =>
          .of_step hc (by simp [acceptReveal, State.setActive]) (.reveals c s f right e b hclosed.1 hballot)
            (by simp [acceptReveal]) (by simp [acceptReveal]) (by simp [acceptReveal])
        unfold revealWith
        (repeat' split) <;> first | exact .refl s | exact haccept _ _
      next => exact .refl s
    next => exact .refl s

end Sys2Proof.Proofs

/-! PROOFS. The windows, the claim queue, the holder and the held flag of every context stay sound (R99, R110,
R157, R166, R167), at every step. -/

namespace Sys2Proof.Proofs
open Sys2Proof Sys2Proof.Machine

/-! ### The windows (R86, R110, R167) -/

/-- Outside FLOOR a context has no answer window. -/
theorem noAnswer {c : Context} (h : c.windowsSound) (hphase : c.phase ≠ .floor) :
    c.answerDeadline = none ∧ c.flashInstant = none ∧ c.answerRemainder = none := by
  obtain ⟨-, hanswer, hflash, hremainder⟩ := h
  have hnone : c.answerDeadline = none := by
    refine Classical.byContradiction fun hne => ?_
    exact hphase (hanswer (Option.isSome_iff_ne_none.mpr hne)).1
  refine ⟨hnone, ?_, ?_⟩
  · refine Classical.byContradiction fun hne => ?_
    simpa [hnone] using hflash (Option.isSome_iff_ne_none.mpr hne)
  · refine Classical.byContradiction fun hne => ?_
    exact hphase (hremainder (Option.isSome_iff_ne_none.mpr hne)).1

/-- With no answer window, only the round window is in question. -/
theorem windowsSound_of_round {c : Context}
    (hround : c.roundDeadline.isSome = true → (c.phase = .opened ∨ c.phase = .settling) ∧ c.held = false)
    (hanswer : c.answerDeadline = none) (hflash : c.flashInstant = none) (hremainder : c.answerRemainder = none) :
    c.windowsSound := by
  simp [Context.windowsSound, hanswer, hflash, hremainder]
  simpa using hround

theorem windowsSound_startWindow (now : ClockValue) {c : Context} (hphase : c.phase = .opened ∨ c.phase = .settling)
    (hheld : c.held = false) (hanswer : c.answerDeadline = none) (hflash : c.flashInstant = none)
    (hremainder : c.answerRemainder = none) : (c.startWindow now).windowsSound :=
  windowsSound_of_round (fun _ => by simp [hphase, hheld]) (by simp [hanswer]) (by simp [hflash]) (by simp [hremainder])

/-- A round window started in OPEN or SETTLING runs with no hold on; in a hold it waits (R86, R167). -/
theorem windowsSound_startUnlessHeld (now : ClockValue) {c : Context}
    (hphase : c.phase = .opened ∨ c.phase = .settling) (hround : c.roundDeadline.isSome = true → c.held = false)
    (hanswer : c.answerDeadline = none) (hflash : c.flashInstant = none) (hremainder : c.answerRemainder = none) :
    (c.startUnlessHeld now).windowsSound := by
  unfold Context.startUnlessHeld
  split
  next => exact windowsSound_of_round (fun h => ⟨hphase, hround h⟩) hanswer hflash hremainder
  next hheld => exact windowsSound_startWindow now hphase (Bool.eq_false_iff.mpr hheld) hanswer hflash hremainder

theorem windowsSound_closed (now : ClockValue) (e : Ending) (c : Context) : (c.closed now e).windowsSound :=
  windowsSound_of_round (by simp) (by simp) (by simp) (by simp)

/-- A grant starts the answer window and stops the round window (R110). -/
theorem windowsSound_granted (now : ClockValue) (head : Claim) (rest : List Claim) {c : Context}
    (hheld : c.held = false) (hremainder : c.answerRemainder = none) : (c.granted now head rest).windowsSound := by
  refine ⟨by simp, fun _ => by simp [hheld], fun _ => rfl, ?_⟩
  simp [hremainder]

theorem windowsSound_stopWindowAtZero {c : Context} (h : c.windowsSound) : c.stopWindowAtZero.windowsSound :=
  ⟨fun hsome => (nomatch hsome), h.2.1, h.2.2.1, h.2.2.2⟩

theorem windowsSound_pauseWindow (now : ClockValue) {c : Context} (h : c.windowsSound) :
    (c.pauseWindow now).windowsSound := by
  rw [Context.pauseWindow_eq]
  exact ⟨fun hsome => (nomatch hsome), h.2.1, h.2.2.1, h.2.2.2⟩

/-! ### The claim queue (R99 to R107) -/

theorem insertClaim_perm (pointer : TeamId) (q : Claim) (l : List Claim) : (insertClaim pointer q l).Perm (q :: l) := by
  induction l with
  | nil => exact .refl _
  | cons x xs ih =>
    unfold insertClaim
    split
    · exact .refl _
    · exact (ih.cons x).trans (.swap q x xs)

theorem placeClaim_perm (pointer : TeamId) (phase : Phase) (q : Claim) (l : List Claim) :
    (placeClaim pointer phase q l).Perm (q :: l) := by
  unfold placeClaim
  split
  · exact ((insertClaim_perm pointer q _).cons _).trans (.swap q _ _)
  · exact insertClaim_perm pointer q l

/-- What a queue must be whatever the phase: at most 8 claims, of distinct teams, none locked out. -/
def QueueFits (lockout : List TeamId) (queue : List Claim) : Prop :=
  queue.length ≤ 8 ∧ (queue.map Claim.team).Nodup ∧ ∀ q ∈ queue, q.team ∉ lockout

theorem QueueFits.sublist {lockout : List TeamId} {l m : List Claim} (h : QueueFits lockout m) (hl : l.Sublist m) :
    QueueFits lockout l :=
  ⟨Nat.le_trans hl.length_le h.1, h.2.1.sublist (hl.map _), fun q hq => h.2.2 q (hl.subset hq)⟩

theorem QueueFits.placed {lockout : List TeamId} {l : List Claim} {q : Claim} (h : QueueFits lockout l)
    (hroom : l.length < 8) (hlock : q.team ∉ lockout) (hnew : ∀ x ∈ l, x.team ≠ q.team) (pointer : TeamId)
    (phase : Phase) : QueueFits lockout (placeClaim pointer phase q l) := by
  have hperm := placeClaim_perm pointer phase q l
  refine ⟨?_, ?_, fun x hx => ?_⟩
  · rw [hperm.length_eq, List.length_cons]
    omega
  · rw [(hperm.map Claim.team).nodup_iff, List.map_cons, List.nodup_cons]
    refine ⟨fun hmem => ?_, h.2.1⟩
    obtain ⟨x, hx, hteam⟩ := List.mem_map.mp hmem
    exact hnew x hx hteam
  · rcases List.mem_cons.mp (hperm.subset hx) with rfl | hx
    · exact hlock
    · exact h.2.2 x hx

theorem QueueFits.lockedOut {lockout : List TeamId} {l : List Claim} (t : TeamId) (h : QueueFits lockout l) :
    QueueFits (insertAsc t lockout) (withoutTeam t l) := by
  have hsub : QueueFits lockout (withoutTeam t l) := h.sublist List.filter_sublist
  refine ⟨hsub.1, hsub.2.1, fun q hq hmem => ?_⟩
  have hne : q.team ≠ t := by simpa using (List.mem_filter.mp hq).2
  have hinsert : ∀ {n : Nat} (x y : Fin n) (l : List (Fin n)), y ∈ insertAsc x l → y = x ∨ y ∈ l := by
    intro n x y l
    induction l with
    | nil => simp [insertAsc]
    | cons z zs ih =>
      unfold insertAsc
      (repeat' split) <;> simp only [List.mem_cons] <;> grind
  exact (hinsert _ _ _ hmem).elim hne (hsub.2.2 q hq)

theorem QueueFits.contested {lockout : List TeamId} {head : Claim} {rest : List Claim} (b : Bool)
    (h : QueueFits lockout (head :: rest)) : QueueFits lockout ({ head with contested := b } :: rest) := by
  obtain ⟨hlen, hnodup, hlock⟩ := h
  refine ⟨hlen, hnodup, fun q hq => ?_⟩
  rcases List.mem_cons.mp hq with rfl | hq
  · exact hlock head (.head _)
  · exact hlock q (.tail _ hq)

theorem queueFits_of {c : Context} (h : c.queueSound) : QueueFits c.lockout c.queue :=
  ⟨h.1, h.2.1, h.2.2.1⟩

theorem noClaims {c : Context} (h : c.queueSound)
    (hphase : c.phase = .armed ∨ c.phase = .opening ∨ c.phase = .opened) : c.queue = [] := h.2.2.2.1 hphase

theorem noClaims_of_poll {c : Context} (h : c.queueSound) (hpoll : c.isPoll = true) :
    c.queue = [] ∧ c.phase ≠ .floor := h.2.2.2.2.2.1 hpoll

theorem holderFirst {c : Context} (h : c.queueSound) (hphase : c.phase = .floor) :
    ∃ q rest, c.queue = q :: rest ∧ c.holder = some q.team := h.2.2.2.2.2.2.1 hphase

theorem noHolder {c : Context} (h : c.queueSound) (hphase : c.phase ≠ .floor) : c.holder = none :=
  h.2.2.2.2.2.2.2 hphase

theorem notPoll_of_floor {c : Context} (h : c.queueSound) (hphase : c.phase = .floor) :
    c.isPoll = false :=
  Bool.eq_false_iff.mpr fun hpoll => (noClaims_of_poll h hpoll).2 hphase

theorem claims_of_settling {c : Context} (h : c.queueSound) (hphase : c.phase = .settling) :
    c.queue ≠ [] := h.2.2.2.2.1 hphase

/-- A context without claims and without a holder, before SETTLING or after the close. -/
theorem queueSound_of_noClaims {c : Context} (hqueue : c.queue = []) (hholder : c.holder = none)
    (hsettling : c.phase ≠ .settling) (hfloor : c.phase ≠ .floor) : c.queueSound := by
  simp [Context.queueSound, hqueue, hholder, hsettling, hfloor]

/-- A context in SETTLING, with claims and without a holder. -/
theorem queueSound_of_settling {c : Context} (hphase : c.phase = .settling) (hkind : c.isPoll = false)
    (hfits : QueueFits c.lockout c.queue) (hqueue : c.queue ≠ []) (hholder : c.holder = none) : c.queueSound := by
  refine ⟨hfits.1, hfits.2.1, hfits.2.2, ?_⟩
  simp [hphase, hkind, hqueue, hholder]

/-- A context in FLOOR, whose first claim is the holder's. -/
theorem queueSound_of_floor {c : Context} {q : Claim} {rest : List Claim} (hphase : c.phase = .floor)
    (hkind : c.isPoll = false) (hfits : QueueFits c.lockout c.queue) (hqueue : c.queue = q :: rest)
    (hholder : c.holder = some q.team) : c.queueSound := by
  refine ⟨hfits.1, hfits.2.1, hfits.2.2, ?_⟩
  simp [hphase, hkind, hqueue, hholder]

/-- A context from the close of the voting on, where claims are kept for queries. -/
theorem queueSound_of_over {c : Context} (hphase : c.phase = .closing ∨ c.phase = .closed ∨ c.phase = .revealed)
    (hfits : QueueFits c.lockout c.queue) (hkind : c.isPoll = true → c.queue = []) (hholder : c.holder = none) :
    c.queueSound := by
  refine ⟨hfits.1, hfits.2.1, hfits.2.2, ?_⟩
  rcases hphase with h | h | h <;> simpa [h, hholder] using hkind

theorem isPoll_of_cue {c d : Context} (h : d.cue = c.cue) : d.isPoll = c.isPoll := by
  simp only [Context.isPoll, h]

theorem queueSound_closed (now : ClockValue) (e : Ending) {c : Context} (hfits : QueueFits c.lockout c.queue)
    (hkind : c.isPoll = true → c.queue = []) : (c.closed now e).queueSound := by
  have hcue : (c.closed now e).isPoll = c.isPoll := isPoll_of_cue (by simp)
  refine queueSound_of_over (by simp) (by simpa using hfits) ?_ (by simp)
  rw [hcue]
  simpa using hkind

theorem queueSound_granted (now : ClockValue) {head : Claim} {rest : List Claim} {c : Context}
    (hkind : c.isPoll = false) (hfits : QueueFits c.lockout (head :: rest)) :
    (c.granted now head rest).queueSound := by
  have hcue : (c.granted now head rest).isPoll = c.isPoll := isPoll_of_cue (by simp)
  exact queueSound_of_floor (q := { head with contested := false }) (rest := rest) (by simp) (hcue.trans hkind)
    (by simpa using hfits.contested false) (by simp) (by simp)

/-! ### Every change of an active context keeps it sound -/

/-- A sound context, held exactly in a hold. -/
def Sound (holding : Bool) (c : Context) : Prop := c.windowsSound ∧ c.queueSound ∧ c.held = holding

/-- A change that touches neither the windows nor the queue keeps a context sound. -/
theorem Sound.congr {holding : Bool} {c d : Context} (h : Sound holding c) (hphase : d.phase = c.phase)
    (hheld : d.held = c.held) (hcue : d.cue = c.cue) (hlockout : d.lockout = c.lockout) (hqueue : d.queue = c.queue)
    (hholder : d.holder = c.holder) (hround : d.roundDeadline = c.roundDeadline)
    (hanswer : d.answerDeadline = c.answerDeadline) (hflash : d.flashInstant = c.flashInstant)
    (hremainder : d.answerRemainder = c.answerRemainder) : Sound holding d := by
  have hpoll : d.isPoll = c.isPoll := isPoll_of_cue hcue
  simpa only [Sound, Context.windowsSound, Context.queueSound, hphase, hheld, hpoll, hlockout, hqueue, hholder, hround,
    hanswer, hflash, hremainder] using h

theorem isPoll_answered (t : TeamId) (lockout : List TeamId) (c : Context) :
    (Context.answered t lockout c).isPoll = c.isPoll := rfl

/-- The queue the floor pass goes on with fits: the claim of the holder is gone with its team's lockout, if any. -/
theorem queueFits_answered {c : Context} {t : TeamId} {lockout : List TeamId} (h : c.queueSound)
    (hlock : lockout = c.lockout ∨ lockout = insertAsc t c.lockout) : QueueFits lockout (withoutTeam t c.queue) := by
  rcases hlock with rfl | rfl
  · exact (queueFits_of h).sublist List.filter_sublist
  · exact (queueFits_of h).lockedOut t

theorem sound_opens {holding : Bool} {c : Context} (now : ClockValue) (hphase : c.phase = .armed ∨ c.phase = .opening)
    (h : Sound holding c) : Sound holding (c.opened now) := by
  obtain ⟨hwindows, hqueue, hheld⟩ := h
  have hfloor : c.phase ≠ .floor := by rcases hphase with h | h <;> simp [h]
  obtain ⟨hanswer, hflash, hremainder⟩ := noAnswer hwindows hfloor
  have hround : c.roundDeadline = none := by
    refine Classical.byContradiction fun hne => ?_
    obtain ⟨hopen, -⟩ := hwindows.1 (Option.isSome_iff_ne_none.mpr hne)
    rcases hphase with h | h <;> simp [h] at hopen
  refine ⟨windowsSound_startUnlessHeld now (.inl rfl) (by simp [hround]) hanswer hflash hremainder,
    queueSound_of_noClaims (by simpa using noClaims hqueue (by rcases hphase with h | h <;> simp [h])) (by simpa using noHolder hqueue hfloor) ?_ ?_,
    by simpa using hheld⟩ <;> simp [Context.opened]

theorem sound_closes {holding : Bool} {c : Context} (s : State) (now : ClockValue) (e : Ending)
    (hfits : QueueFits c.lockout c.queue) (hkind : c.isPoll = true → c.queue = []) (hheld : c.held = holding) :
    Sound holding ((c.talliedAtClose s).closed now e) := by
  have hcue : (c.talliedAtClose s).isPoll = c.isPoll := isPoll_of_cue (by simp)
  refine ⟨windowsSound_closed now e _, queueSound_closed now e (by simpa using hfits) ?_, by simpa using hheld⟩
  rw [hcue]
  simpa using hkind

theorem sound_claims {holding : Bool} {c : Context} (pointer : TeamId) (q : Claim) (queue : List Claim)
    (overflow : List TeamId) (hkind : c.isPoll = false) (hphase : c.phase.takesPresses = true)
    (hlock : q.team ∉ c.lockout) (hnew : ∀ x ∈ c.queue, x.team ≠ q.team)
    (hroom : queue = c.queue ∧ c.queue.length < 8 ∨ queue = c.queue.dropLast ∧ 8 ≤ c.queue.length)
    (h : Sound holding c) : Sound holding
      { c with
        queue := placeClaim pointer c.phase q queue
        overflow := overflow
        phase := if c.phase = .opened then .settling else c.phase } := by
  obtain ⟨hwindows, hqueue, hheld⟩ := h
  have hsub : queue.Sublist c.queue := by
    rcases hroom with ⟨rfl, -⟩ | ⟨rfl, -⟩
    · exact .refl _
    · exact List.dropLast_sublist _
  have hlen : queue.length < 8 := by
    rcases hroom with ⟨rfl, hlt⟩ | ⟨rfl, hge⟩
    · exact hlt
    · have := hqueue.1
      rw [List.length_dropLast]
      omega
  have hfits : QueueFits c.lockout (placeClaim pointer c.phase q queue) :=
    ((queueFits_of hqueue).sublist hsub).placed hlen hlock (fun x hx => hnew x (hsub.subset hx)) pointer c.phase
  have hsome : placeClaim pointer c.phase q queue ≠ [] := fun hnil => by
    simpa [hnil] using (placeClaim_perm pointer c.phase q queue).length_eq
  cases hp : c.phase with
  | opened =>
    rw [hp] at hfits hsome
    obtain ⟨hanswer, hflash, hremainder⟩ := noAnswer hwindows (by simp [hp])
    have hnone : c.holder = none := noHolder hqueue (by simp [hp])
    exact ⟨windowsSound_of_round (fun hs => ⟨.inr rfl, (hwindows.1 hs).2⟩) hanswer hflash hremainder,
      queueSound_of_settling rfl hkind hfits hsome hnone, hheld⟩
  | settling =>
    rw [hp] at hfits hsome
    obtain ⟨hanswer, hflash, hremainder⟩ := noAnswer hwindows (by simp [hp])
    have hnone : c.holder = none := noHolder hqueue (by simp [hp])
    exact ⟨windowsSound_of_round (fun hs => ⟨.inr rfl, (hwindows.1 hs).2⟩) hanswer hflash hremainder,
      queueSound_of_settling rfl hkind hfits hsome hnone, hheld⟩
  | closing =>
    rw [hp] at hfits
    obtain ⟨hanswer, hflash, hremainder⟩ := noAnswer hwindows (by simp [hp])
    have hnone : c.holder = none := noHolder hqueue (by simp [hp])
    exact ⟨windowsSound_of_round (fun hs => absurd (hwindows.1 hs).1 (by simp [hp])) hanswer hflash hremainder,
      queueSound_of_over (.inl rfl) hfits (fun hpoll => absurd (hkind.symm.trans hpoll) (by decide))
        hnone, hheld⟩
  | floor =>
    rw [hp] at hfits
    obtain ⟨first, rest, hcons, hholder⟩ := holderFirst hqueue hp
    obtain ⟨rest', hkept⟩ : ∃ rest', queue = first :: rest' := by
      rcases hroom with ⟨rfl, -⟩ | ⟨rfl, hge⟩
      · exact ⟨rest, hcons⟩
      · cases rest with
        | nil => simp [hcons] at hge
        | cons second rest => exact ⟨(second :: rest).dropLast, by rw [hcons, List.dropLast_cons_cons]⟩
    have hsame : Sound holding { c with queue := placeClaim pointer .floor q queue, overflow := overflow } := by
      refine ⟨hwindows, queueSound_of_floor hp hkind hfits (q := first) (rest := insertClaim pointer q rest') ?_ hholder,
        hheld⟩
      rw [hkept]
      rfl
    exact hsame.congr (by simp [hp]) rfl rfl rfl rfl rfl rfl rfl rfl rfl
  | armed | opening | closed | revealed => simp [hp, Phase.takesPresses] at hphase

theorem sound_improves {holding : Bool} {c : Context} (pointer : TeamId) (q old : Claim) (hphase : c.phase = .settling)
    (hold : old ∈ c.queue) (hteam : q.team = old.team) (hlock : q.team ∉ c.lockout) (h : Sound holding c) :
    Sound holding { c with queue := placeClaim pointer c.phase q (withoutTeam q.team c.queue) } := by
  obtain ⟨hwindows, hqueue, hheld⟩ := h
  have hlen : (withoutTeam q.team c.queue).length < 8 := by
    have hlt : (withoutTeam q.team c.queue).length < c.queue.length :=
      List.length_filter_lt_length_iff_exists.mpr ⟨old, hold, by simp [hteam]⟩
    have := hqueue.1
    omega
  have hfits : QueueFits c.lockout (placeClaim pointer c.phase q (withoutTeam q.team c.queue)) :=
    ((queueFits_of hqueue).sublist List.filter_sublist).placed hlen hlock
      (fun x hx => by simpa using (List.mem_filter.mp hx).2) pointer c.phase
  have hkind : c.isPoll = false :=
    Bool.eq_false_iff.mpr fun hpoll => claims_of_settling hqueue hphase (noClaims_of_poll hqueue hpoll).1
  have hnone : c.holder = none := noHolder hqueue (by simp [hphase])
  refine ⟨hwindows, queueSound_of_settling hphase hkind hfits (fun hnil => ?_) hnone, hheld⟩
  simpa [show placeClaim pointer c.phase q (withoutTeam q.team c.queue) = [] from hnil] using
    (placeClaim_perm pointer c.phase q (withoutTeam q.team c.queue)).length_eq

theorem sound_drops {holding : Bool} {c : Context} (t : TeamId) (hholder : c.holder ≠ some t)
    (hleft : c.phase = .settling → withoutTeam t c.queue ≠ []) (h : Sound holding c) :
    Sound holding { c with queue := withoutTeam t c.queue } := by
  obtain ⟨hwindows, hqueue, hheld⟩ := h
  have hfits : QueueFits c.lockout (withoutTeam t c.queue) := (queueFits_of hqueue).sublist List.filter_sublist
  have hnil : c.queue = [] → withoutTeam t c.queue = [] := fun h => by rw [h]; rfl
  refine ⟨hwindows, ⟨hfits.1, hfits.2.1, hfits.2.2, fun hp => hnil (noClaims (c := c) hqueue hp), hleft,
    fun hp => ⟨hnil (noClaims_of_poll (c := c) hqueue hp).1, (noClaims_of_poll (c := c) hqueue hp).2⟩, fun hp => ?_,
    noHolder (c := c) hqueue⟩, hheld⟩
  obtain ⟨q, rest, hcons, hfirst⟩ := holderFirst (c := c) hqueue hp
  refine ⟨q, withoutTeam t rest, ?_, hfirst⟩
  have hne : q.team ≠ t := fun heq => hholder (heq ▸ hfirst)
  simp [withoutTeam, hcons, hne]

/-- In a sound context whose answer window runs, or outside a hold, no answer waits for the end of a hold. -/
theorem noRemainder {holding : Bool} {c : Context} (h : Sound holding c)
    (hheld : c.answerDeadline.isSome = true ∨ holding = false) : c.held = false ∧ c.answerRemainder = none := by
  obtain ⟨⟨-, hanswer, -, hremainder⟩, -, hholding⟩ := h
  have hfree : c.held = false := hheld.elim (fun h => (hanswer h).2) fun h => hholding.trans h
  refine ⟨hfree, ?_⟩
  refine Classical.byContradiction fun hne => ?_
  exact absurd ((hremainder (Option.isSome_iff_ne_none.mpr hne)).2.symm.trans hfree) (by decide)

theorem noRound_of_floor {holding : Bool} {c : Context} (h : Sound holding c) (hphase : c.phase = .floor) :
    c.roundDeadline = none := by
  refine Classical.byContradiction fun hne => ?_
  have hopen := (h.1.1 (Option.isSome_iff_ne_none.mpr hne)).1
  simp [hphase] at hopen

theorem ContextStep.sound {speed : LineSpeed} {holding : Bool} {c d : Context} (hstep : ContextStep speed holding c d)
    (h : Sound holding c) : Sound holding d := by
  obtain ⟨hwindows, hqueue, hheld⟩ := id h
  have hpoll : c.isPoll = true → c.queue = [] := fun hp => (noClaims_of_poll hqueue hp).1
  have hfits : QueueFits c.lockout c.queue := queueFits_of hqueue
  have hnone : c.phase ≠ .floor → c.holder = none := noHolder hqueue
  cases hstep with
  | opens now hphase _ => exact sound_opens now hphase h
  | waits hphase =>
    obtain ⟨hanswer, hflash, hremainder⟩ := noAnswer hwindows (by simp [hphase])
    exact ⟨windowsSound_of_round (fun hs => absurd (hwindows.1 hs).1 (by simp [hphase])) hanswer hflash hremainder,
      queueSound_of_noClaims (noClaims (c := c) hqueue (.inl hphase)) (hnone (by simp [hphase])) nofun nofun, hheld⟩
  | closes s now e => exact sound_closes s now e hfits hpoll hheld
  | stops => exact ⟨windowsSound_stopWindowAtZero hwindows, hqueue, hheld⟩
  | votingCloses instant cause count hphase =>
    obtain ⟨hanswer, hflash, hremainder⟩ := noAnswer hwindows (by simp [hphase])
    exact ⟨windowsSound_of_round (fun hs => (nomatch hs)) hanswer hflash hremainder,
      queueSound_of_over (.inl rfl) hfits hpoll (hnone (by simp [hphase])),
      hheld⟩
  | grants now head rest hphase hcons hfree =>
    obtain ⟨-, -, hremainder⟩ := noAnswer hwindows (by simp [hphase])
    have hkind : c.isPoll = false :=
      Bool.eq_false_iff.mpr fun hp => claims_of_settling hqueue hphase (hpoll hp)
    exact ⟨windowsSound_granted now head rest hfree hremainder,
      queueSound_granted now hkind (hcons ▸ hfits), by simpa using hheld⟩
  | claims pointer q queue overflow hkind hphase hlock hnew hroom =>
    exact sound_claims pointer q queue overflow hkind hphase hlock hnew hroom h
  | overflows overflow => exact h.congr rfl rfl rfl rfl rfl rfl rfl rfl rfl rfl
  | improves pointer q old hphase hold hteam hlock => exact sound_improves pointer q old hphase hold hteam hlock h
  | votes b policy t o capture _ => exact h.congr rfl rfl rfl rfl rfl rfl rfl rfl rfl rfl
  | flashes =>
    exact ⟨⟨hwindows.1, hwindows.2.1, fun hs => (nomatch hs), hwindows.2.2.2⟩, hqueue, hheld⟩
  | drops t hholder hleft => exact sound_drops t hholder hleft h
  | empties hphase =>
    obtain ⟨hanswer, hflash, hremainder⟩ := noAnswer hwindows (by simp [hphase])
    exact ⟨windowsSound_of_round (fun hs => ⟨.inl rfl, (hwindows.1 hs).2⟩) hanswer hflash hremainder,
      queueSound_of_noClaims rfl (hnone (by simp [hphase])) nofun nofun, hheld⟩
  | judgedRight s now e =>
    exact sound_closes s now e (c := { c with answerDeadline := none }) hfits hpoll hheld
  | passGrants t lockout now head rest hphase hlock hcons hfree =>
    have hremainder : c.answerRemainder = none := by
      refine Classical.byContradiction fun hne => ?_
      exact absurd ((hwindows.2.2.2 (Option.isSome_iff_ne_none.mpr hne)).2.symm.trans hfree) (by decide)
    have hkind : (Context.answered t lockout c).isPoll = false := notPoll_of_floor (c := c) hqueue hphase
    exact ⟨windowsSound_granted now head rest hfree hremainder, queueSound_granted now hkind
      (hcons ▸ queueFits_answered hqueue hlock), by simpa using hheld⟩
  | passSettles t lockout now hphase hlock hleft hanswers =>
    obtain ⟨hfree, hremainder⟩ := noRemainder h hanswers
    refine ⟨windowsSound_startUnlessHeld now (.inr rfl) (fun _ => hfree) rfl rfl hremainder,
      queueSound_of_settling (by simp) ?_ (by simpa using queueFits_answered hqueue hlock) (by simpa using hleft) ?_,
      by simpa using hheld⟩
    · exact (isPoll_of_cue (by simp)).trans (notPoll_of_floor hqueue hphase)
    · simp
  | passReopens t lockout now hphase hlock hnil hanswers =>
    obtain ⟨hfree, hremainder⟩ := noRemainder h hanswers
    refine ⟨windowsSound_startUnlessHeld now (.inl rfl) (fun _ => hfree) rfl rfl hremainder,
      queueSound_of_noClaims (by simpa using hnil) (by simp) (by simp) (by simp),
      by simpa using hheld⟩
  | passCloses t lockout s now e hlock hnil =>
    exact sound_closes s now e (queueFits_answered hqueue hlock) (fun _ => hnil) hheld
  | reveals s f right e b hphase _ =>
    obtain ⟨hanswer, hflash, hremainder⟩ := noAnswer hwindows (by simp [hphase])
    exact ⟨windowsSound_of_round (fun hs => absurd (hwindows.1 hs).1 (by simp [hphase])) hanswer hflash hremainder,
      queueSound_of_over (.inr (.inr rfl)) hfits hpoll
        (hnone (by simp [hphase])), hheld⟩

end Sys2Proof.Proofs

/-! PROOFS. The laws of the contexts at every step: they stay sound (O20), a live one keeps the line at SPRINT
(R96), and a ballot keeps one entry for each eligible team (R125, R126). -/

namespace Sys2Proof.Proofs
open Sys2Proof Sys2Proof.Machine

/-! ### What makes, saves and ends contexts -/

/-- `P` is kept while the active context goes on, and by what makes, saves, resumes, holds or ends contexts or
changes the speed of the line. -/
structure KeptByContexts (P : State → Prop) : Prop where
  moves : ∀ {s t}, Moves s t → P s → P t
  arm : ∀ o s, s.holding = false → P s → P (roundArm o s).1
  clear : ∀ a s, P s → P (roundClear a s).1
  suspend : ∀ a s, s.holding = false → P s → P (roundSuspend a s).1
  resume : ∀ a s, s.holding = false → P s → P (roundResume a s).1
  silenceArm : ∀ b s, P s → P (Machine.silenceArm b s).1
  hold : ∀ s, P s → P (silenceReached s)
  frame : ∀ s, P s → P (validFrame s)
  sprint : ∀ s, P s → P { s with desk := { s.desk with switch := none, speed := .sprint } }
  roam : ∀ s, s.sprintNeeded = false → P s → P { s with desk := { s.desk with speed := .roam } }
  reset : ∀ strap cause s, P s → P (resetPart strap cause s)
  restart : ∀ s, P s → P (restartBlocks s)

section
variable {P : State → Prop} (K : KeptByContexts P)
include K

/-- What leaves the active context, the line, the silence monitor and the stack keeps `P`. -/
theorem KeptByContexts.same {s t : State} (h : P s) (hengine : t.engine.active = s.engine.active)
    (hspeed : t.desk.speed = s.desk.speed) (hsilence : t.silence = s.silence) (hstack : t.stack = s.stack) : P t :=
  K.moves (.of_engine hengine hspeed hsilence hstack) h

/-- Of the commands, twelve reach a context, the stack or the silence monitor. -/
theorem KeptByContexts.command (c : Command) (s : State) (hhold : s.holding = false) (h : P s) :
    P (runCommand c s).1 := by
  cases c with
  | teamSet p => exact withArgs_keeps h (fun a => K.moves (moves_teamSet a s) h) p
  | roundArm p => exact withArgs_keeps h (fun a => K.arm a s hhold h) p
  | roundOpen p => exact withArgs_keeps h (fun a => K.moves (moves_roundOpen a s) h) p
  | callTime p => exact withArgs_keeps h (fun a => K.moves (moves_callTime a hhold) h) p
  | roundAbort p => exact withArgs_keeps h (fun a => K.moves (moves_roundAbort a s) h) p
  | roundClear p => exact withArgs_keeps h (fun a => K.clear a s h) p
  | judge p => exact K.moves (moves_judge p hhold) h
  | claimDrop p => exact withArgs_keeps h (fun a => K.moves (moves_claimDrop a s) h) p
  | reveal p => exact withArgs_keeps h (fun a => K.moves (moves_reveal a s) h) p
  | roundSuspend p => exact withArgs_keeps h (fun a => K.suspend a s hhold h) p
  | roundResume p => exact withArgs_keeps h (fun a => K.resume a s hhold h) p
  | silenceArm p => exact withArgs_keeps h (fun a => K.silenceArm a s h) p
  | cueLoad p =>
    exact K.same h (by simp [runCommand]) (by simp [runCommand]) (by simp [runCommand]) (by simp [runCommand])
  | _ => exact withArgs_keeps h (fun a => K.same h (by simp) (by simp) (by simp) (by simp)) _

theorem KeptByContexts.switchCycleEnded (s : State) (h : P s) : P (Machine.switchCycleEnded s) := by
  have hcomplete : ∀ l, P (completeSwitch l s) := by
    intro l
    have hmarked : P (markAllLagging l s) := K.same h (by simp) (by simp) (by simp) (by simp)
    have hsprint := K.sprint _ hmarked
    have htold : P (sprintInUse { markAllLagging l s with
        desk := { (markAllLagging l s).desk with switch := none, speed := .sprint } }) := by
      refine K.moves ?_ hsprint
      unfold sprintInUse
      split
      next => exact .refl _
      next c hc =>
        split
        next hphase => exact moves_enterOpen hc (.inr hphase) rfl
        next => exact .refl _
    exact K.same htold (by simp [completeSwitch]) (by simp [completeSwitch]) (by simp [completeSwitch])
      (by simp [completeSwitch])
  unfold Machine.switchCycleEnded
  split
  · dsimp only
    split
    · exact hcomplete _
    · exact K.same h rfl rfl rfl rfl
  · exact h

theorem KeptByContexts.sprintCycleEnded (s : State) (h : P s) : P (Machine.sprintCycleEnded s) := by
  unfold Machine.sprintCycleEnded
  split
  next =>
    have hcycle : P (cycleCompleted (raiseSprintCount s)) :=
      K.moves (moves_cycleCompleted _) (K.same h rfl rfl rfl rfl)
    unfold readNeed
    split
    next => exact K.same hcycle rfl rfl rfl rfl
    next hneed =>
      exact K.same (K.roam _ (Bool.eq_false_iff.mpr hneed) hcycle) (by simp [returnToRoam]) (by simp [returnToRoam])
        (by simp [returnToRoam]) (by simp [returnToRoam])
  next => exact h

theorem KeptByContexts.restartEffect (s : State) (h : P s) : P (restartTakesEffect s) := by
  unfold restartTakesEffect
  split
  · have hreleased : P (releaseLock s) := K.same h (by simp) (by simp) (by simp) (by simp)
    exact K.same (K.restart _ hreleased) (by simp) (by simp) (by simp) (by simp)
  · exact h

theorem KeptByContexts.events : KeptByEvents P where
  link _ _ h := K.same h rfl rfl rfl rfl
  notices _ _ h := K.same h rfl rfl rfl rfl
  discard k s h := K.same h (by simp) (by cases k <;> rfl) (by simp) (by simp)
  request _ h := K.same h (by simp) (by simp) (by simp) (by simp)
  frame := K.frame
  command := K.command
  reset := K.reset
  restart := K.restartEffect
  roam _ h := K.same h (by simp) (by simp) (by simp) (by simp)
  sprint _ h := K.same h (by simp) (by simp) (by simp) (by simp)
  reply r s h := K.moves (moves_replyArrives r s) h
  miss _ h := K.same h (by simp) (by simp) (by simp) (by simp)
  switched := K.switchCycleEnded
  cycled := K.sprintCycleEnded
  expiry s h := K.moves (moves_roundExpiry s) h
  answer s h := K.moves (moves_answerExpiry s) h
  flash s h := K.moves (moves_flashReached s) h
  lapse _ h := K.same h (by simp) (by simp) (by simp) (by simp)
  silence := K.hold
  panel _ _ h := K.same h (by simp) (by simp) (by simp) (by simp)
  panelOut _ h := K.same h (by simp) (by simp) (by simp) (by simp)
  identify _ _ h := K.same h (by simp) (by simp) (by simp) (by simp)
  identifyOut _ h := K.same h (by simp) (by simp) (by simp) (by simp)
  countdown _ h := K.same h (by simp) (by simp) (by simp) (by simp)

theorem KeptByContexts.step {s t : State} (h : P s) (ht : Machine.step s = .next t) : P t :=
  K.events.step (fun _ _ h => K.same h rfl rfl rfl rfl) (fun _ h => K.same h rfl rfl rfl rfl) h ht

end

/-! ### What the commands of the stack do to the contexts -/

/-- ROUND_ARM changes nothing, or makes a new context with nothing saved, or saves an ARMED or OPEN one first. -/
theorem roundArm_cases (o : Option Byte) (s : State) :
    (roundArm o s).1 = s
      ∨ (∃ x cue, (roundArm o s).1 = armContext x cue s)
      ∨ ∃ x cue c, s.engine.active = some c ∧ (c.phase = .armed ∨ c.phase = .opened)
          ∧ (roundArm o s).1 = armContext x cue (pushContext .tiebreak c s) := by
  have hordinary : ∀ x cue, (armOrdinary x cue s).1 = s ∨ (armOrdinary x cue s).1 = armContext x cue s := by
    intro x cue
    unfold armOrdinary
    split
    · exact .inl rfl
    · exact .inr rfl
  have hinterjection : ∀ x cue c, (armInterjection x cue c s).1 = s
      ∨ (armInterjection x cue c s).1 = armContext x cue (pushContext .tiebreak c s) := by
    intro x cue c
    unfold armInterjection
    (repeat' split) <;> first | exact .inl rfl | exact .inr rfl
  unfold roundArm
  split
  next => exact .inl rfl
  next x _ =>
    split
    next => exact .inl rfl
    next cue _ =>
      unfold armCue
      split
      next => exact (hordinary x cue).imp id fun h => .inl ⟨x, cue, h⟩
      next c hc =>
        split
        next => exact (hordinary x cue).imp id fun h => .inl ⟨x, cue, h⟩
        next => exact (hordinary x cue).imp id fun h => .inl ⟨x, cue, h⟩
        next hphase _ => exact (hinterjection x cue c).imp id fun h => .inr ⟨x, cue, c, hc, .inl hphase, h⟩
        next hphase _ => exact (hinterjection x cue c).imp id fun h => .inr ⟨x, cue, c, hc, .inr hphase, h⟩
        next => exact .inl rfl

theorem roundSuspend_cases (a : NoArgs) (s : State) :
    (roundSuspend a s).1 = s
      ∨ ∃ c, s.engine.active = some c ∧ (c.phase = .armed ∨ c.phase = .opened)
          ∧ (roundSuspend a s).1 = signalRoundChange ((pushContext .suspend c s).setActive none) := by
  unfold roundSuspend
  split
  next => exact .inl rfl
  next c hc =>
    split
    next => exact .inl rfl
    next hphase =>
      split
      · exact .inl rfl
      · exact .inr ⟨c, hc, .inl hphase, rfl⟩
    next hphase =>
      split
      · exact .inl rfl
      · exact .inr ⟨c, hc, .inr hphase, rfl⟩
    all_goals exact .inl rfl

theorem roundResume_cases (a : NoArgs) (s : State) :
    (roundResume a s).1 = s
      ∨ ∃ x rest, s.stack = x :: rest ∧ (roundResume a s).1
          = signalRoundChange ({ s with stack := rest }.setActive (some (x.context.resumed s.clock s.desk.speed))) := by
  unfold roundResume
  split
  · split
    next => exact .inl rfl
    next x rest hstack => exact .inr ⟨x, rest, hstack, rfl⟩
  · exact .inl rfl

theorem roundClear_cases (a : NoArgs) (s : State) :
    (roundClear a s).1 = s ∨ (roundClear a s).1 = signalRoundChange (s.setActive none) := by
  unfold roundClear
  (repeat' split) <;> first | exact .inl rfl | exact .inr rfl

/-- A valid frame leaves the monitor's hold behind, and releases the active context where it was held (R168). -/
theorem validFrame_cases (s : State) :
    (s.holding = false ∧ (validFrame s).engine = s.engine ∧ (validFrame s).desk = s.desk)
      ∨ ∃ period, s.holding = true ∧ (validFrame s).engine
          = (unholdActive { s with silence := watchFrom s.clock period }).engine
        ∧ (validFrame s).desk.speed = s.desk.speed := by
  unfold validFrame
  split
  next h => exact .inl ⟨by simp [State.holding, h], rfl, rfl⟩
  next h => exact .inl ⟨by simp [State.holding, h], rfl, rfl⟩
  next period _ h => exact .inr ⟨period, by simp [State.holding, h], by simp [endHold], by simp [endHold]⟩

theorem silenceReached_cases (s : State) :
    silenceReached s = s
      ∨ ∃ period last, s.holding = false ∧ silenceReached s
          = autoRequest (setPending .hold (holdActive { s with silence := .holding period last })) := by
  unfold silenceReached
  split
  next period last deadline h =>
    split
    · exact .inr ⟨period, last, by simp [State.holding, h], rfl⟩
    · exact .inl rfl
  next => exact .inl rfl
  next => exact .inl rfl

theorem silenceArm_holding (b : Byte) (s : State) : (silenceArm b s).1.holding = s.holding := by
  unfold silenceArm
  split
  next => rfl
  next =>
    split
    next h => simp [State.holding, h, watchFrom]
    all_goals rfl

/-! ### The contexts stay sound (O20) -/

theorem roundsSound_congr {s t : State} (hengine : t.engine.active = s.engine.active)
    (hholding : t.holding = s.holding) (hstack : t.stack = s.stack) (h : s.roundsSound) : t.roundsSound := by
  rw [State.roundsSound, hengine, hholding, hstack]
  exact h

theorem roundsSound_moves {s t : State} (hmoves : Moves s t) (h : s.roundsSound) : t.roundsSound := by
  have hholding : t.holding = s.holding := holding_of_silence hmoves.silence
  refine ⟨fun d hd => ?_, by rw [hmoves.stack]; exact h.2⟩
  cases hc : s.engine.active with
  | none => rw [hmoves.idle hc] at hd; cases hd
  | some c =>
    obtain ⟨d', hd', hsteps⟩ := hmoves.active c hc
    obtain rfl := Option.some.inj (hd'.symm.trans hd)
    have hsound : Sound s.holding d' := by
      clear hd hd'
      induction hsteps with
      | refl => exact h.1 c hc
      | tail _ hstep ih => exact hstep.sound ih
    rw [hholding]
    exact hsound

theorem sound_newContext (x : SlotId) (cue : Cue) (eligible : List TeamId) : Sound false (newContext x cue eligible) :=
  ⟨windowsSound_of_round (fun h => (nomatch h)) rfl rfl rfl, queueSound_of_noClaims rfl rfl nofun nofun, rfl⟩

/-- A context saved in ARMED or OPEN, outside a hold, has its window paused and is sound. -/
theorem savedSound_pauseWindow (now : ClockValue) {c : Context} (hphase : c.phase = .armed ∨ c.phase = .opened)
    (h : Sound false c) : (c.pauseWindow now).savedSound := by
  obtain ⟨hwindows, hqueue, hheld⟩ := h
  refine ⟨windowsSound_pauseWindow now hwindows, ?_, by simpa using hphase, by simpa using hheld, ?_⟩
  · rw [Context.pauseWindow_eq]
    exact hqueue
  · rw [Context.pauseWindow_eq]

theorem sound_resumed (now : ClockValue) (speed : LineSpeed) {c : Context} (h : c.savedSound) :
    Sound false (c.resumed now speed) := by
  obtain ⟨hwindows, hqueue, hphase, hheld, hround⟩ := h
  have hfloor : c.phase ≠ .floor := by rcases hphase with h | h <;> simp [h]
  obtain ⟨hanswer, hflash, hremainder⟩ := noAnswer hwindows hfloor
  have hnoClaims : c.queue = [] := noClaims hqueue (by rcases hphase with h | h <;> simp [h])
  have hnoHolder : c.holder = none := noHolder hqueue hfloor
  unfold Context.resumed
  split
  next => exact ⟨windowsSound_startUnlessHeld now (.inl rfl) (by simp [hround]) hanswer hflash hremainder,
      queueSound_of_noClaims (by simpa using hnoClaims) (by simpa using hnoHolder) (by simp [Context.opened])
        (by simp [Context.opened]), by simpa using hheld⟩
  next => exact ⟨windowsSound_of_round (by simp [hround]) hanswer hflash hremainder,
      queueSound_of_noClaims hnoClaims hnoHolder nofun nofun, hheld⟩
  next => exact ⟨hwindows, hqueue, hheld⟩

theorem sound_hold (now : ClockValue) {c : Context} (h : Sound false c) : Sound true (c.hold now) := by
  obtain ⟨hwindows, hqueue, hheld⟩ := h
  have hqueue' : (c.hold now).queueSound := by
    have hpoll : (c.hold now).isPoll = c.isPoll := isPoll_of_cue (by simp)
    simpa [Context.queueSound, hpoll] using hqueue
  have hpaused : (c.pauseWindow now).roundDeadline = none := by rw [Context.pauseWindow_eq]
  refine ⟨?_, hqueue', ?_⟩
  · unfold Context.hold
    dsimp only
    split
    next hphase hdeadline => exact ⟨by simp [hpaused], by simp, by simp, by simpa using hphase⟩
    next hno =>
      have hanswer : c.answerDeadline = none := by
        refine Classical.byContradiction fun hne => ?_
        obtain ⟨d, hd⟩ := Option.ne_none_iff_exists'.mp hne
        exact hno d (by simpa using (hwindows.2.1 (by simp [hd])).1) (by simpa using hd)
      have hflash : c.flashInstant = none := by
        refine Classical.byContradiction fun hne => ?_
        simpa [hanswer] using hwindows.2.2.1 (Option.isSome_iff_ne_none.mpr hne)
      refine ⟨by simp [hpaused], by simp [hanswer], by simp [hflash], fun hs => ⟨?_, rfl⟩⟩
      simpa using (hwindows.2.2.2 (by simpa using hs)).1
  · unfold Context.hold
    dsimp only
    split <;> rfl

theorem sound_unhold (now : ClockValue) {c : Context} (h : Sound true c) : Sound false (c.unhold now) := by
  obtain ⟨hwindows, hqueue, hheld⟩ := h
  have hround : c.roundDeadline = none := by
    refine Classical.byContradiction fun hne => ?_
    exact absurd (hheld.symm.trans (hwindows.1 (Option.isSome_iff_ne_none.mpr hne)).2) (by decide)
  have hanswer : c.answerDeadline = none := by
    refine Classical.byContradiction fun hne => ?_
    exact absurd (hheld.symm.trans (hwindows.2.1 (Option.isSome_iff_ne_none.mpr hne)).2) (by decide)
  have hflash : c.flashInstant = none := by
    refine Classical.byContradiction fun hne => ?_
    simpa [hanswer] using hwindows.2.2.1 (Option.isSome_iff_ne_none.mpr hne)
  have hremainder : c.phase ≠ .floor → c.answerRemainder = none := fun hp => (noAnswer hwindows hp).2.2
  have hqueue' : (c.unhold now).queueSound := by
    have hpoll : (c.unhold now).isPoll = c.isPoll := isPoll_of_cue (by simp)
    simpa [Context.queueSound, hpoll] using hqueue
  have hfree : ∀ {d : Context}, d = { c with held := false } → c.phase ≠ .floor → d.windowsSound := by
    rintro d rfl hp
    exact windowsSound_of_round (by simp [hround]) hanswer hflash (hremainder hp)
  refine ⟨?_, hqueue', ?_⟩
  · unfold Context.unhold
    dsimp only
    split
    next hp => exact windowsSound_startWindow now (.inl hp) rfl hanswer hflash (hremainder (by simp [show c.phase = _ from hp]))
    next hp => exact windowsSound_startWindow now (.inr hp) rfl hanswer hflash (hremainder (by simp [show c.phase = _ from hp]))
    next hp =>
      unfold Context.resumeAnswer
      split
      next hnone => exact windowsSound_of_round (by simp [hround]) hanswer hflash hnone
      next => exact ⟨by simp [hround], fun _ => ⟨hp, rfl⟩, fun _ => rfl, by simp⟩
    all_goals
      rename_i hp
      exact hfree rfl (by simp [show c.phase = _ from hp])
  · unfold Context.unhold
    dsimp only
    split <;> simp

theorem roundsSound_armContext (x : SlotId) (cue : Cue) {s : State} (hholding : s.holding = false)
    (hsaved : ∀ y ∈ s.stack, y.context.savedSound) : (armContext x cue s).roundsSound := by
  refine ⟨fun c hc => ?_, by simpa using hsaved⟩
  have hc' : newContext x cue (s.eligibleFor cue) = c := by simpa [armContext, State.setActive] using hc
  rw [← hc', holding_of_silence (s := s) (by simp), hholding]
  exact sound_newContext x cue _

theorem roundsSound_of_push {s : State} (origin : Origin) {c : Context} (hholding : s.holding = false)
    (hc : s.engine.active = some c) (hphase : c.phase = .armed ∨ c.phase = .opened) (h : s.roundsSound) :
    ∀ y ∈ (pushContext origin c s).stack, y.context.savedSound := by
  have hsound : Sound false c := hholding ▸ h.1 c hc
  intro y hy
  rcases List.mem_cons.mp (show y ∈ _ :: s.stack from hy) with rfl | hy
  · exact savedSound_pauseWindow s.clock hphase hsound
  · exact h.2 y hy

theorem roundsSound_frame (s : State) (h : s.roundsSound) : (validFrame s).roundsSound := by
  obtain ⟨hfree, hengine, -⟩ | ⟨period, hheld, hengine, -⟩ := validFrame_cases s
  · exact roundsSound_congr (by rw [hengine]) ((validFrame_holding s).trans hfree.symm) (by simp) h
  · have hwatching : ∀ p, State.holding { s with silence := watchFrom s.clock p } = false := fun p => rfl
    have hreleased : (unholdActive { s with silence := watchFrom s.clock period }).roundsSound := by
      unfold unholdActive
      split
      next c hc =>
        have hc' : s.engine.active = some c := hc
        have hsound : Sound true c := hheld ▸ h.1 c hc'
        rw [if_pos hsound.2.2]
        refine roundsSound_moves (moves_settleTest _) ⟨fun d hd => ?_, h.2⟩
        obtain rfl := Option.some.inj (show some (c.unhold s.clock) = some d from hd)
        exact sound_unhold s.clock hsound
      next hnone =>
        refine ⟨fun d hd => ?_, h.2⟩
        rw [hnone] at hd
        cases hd
    refine roundsSound_congr (s := unholdActive { s with silence := watchFrom s.clock period }) (by rw [hengine]) ?_
      (by simp) hreleased
    rw [validFrame_holding, holding_of_silence (s := { s with silence := watchFrom s.clock period }) (by simp), hwatching]

theorem roundsSound_hold (s : State) (h : s.roundsSound) : (silenceReached s).roundsSound := by
  obtain heq | ⟨period, last, hfree, heq⟩ := silenceReached_cases s
  · rw [heq]
    exact h
  · rw [heq]
    refine ⟨fun d hd => ?_, by simpa using h.2⟩
    have hd' : ∃ c, s.engine.active = some c ∧ c.hold s.clock = d := by
      simpa [holdActive, State.setActive] using hd
    obtain ⟨c, hc, rfl⟩ := hd'
    rw [holding_of_silence (s := { s with silence := .holding period last }) (by simp)]
    exact sound_hold s.clock (hfree ▸ h.1 c hc)

theorem roundsSound_of_idle {s : State} (hidle : s.engine.active = none) (hsaved : ∀ y ∈ s.stack, y.context.savedSound) :
    s.roundsSound :=
  ⟨fun _ hc => (nomatch hidle.symm.trans hc), hsaved⟩

theorem roundsSound_arm (o : Option Byte) (s : State) (hholding : s.holding = false) (h : s.roundsSound) :
    (roundArm o s).1.roundsSound := by
  obtain heq | ⟨x, cue, heq⟩ | ⟨x, cue, c, hc, hphase, heq⟩ := roundArm_cases o s <;> rw [heq]
  · exact h
  · exact roundsSound_armContext x cue hholding h.2
  · exact roundsSound_armContext x cue hholding (roundsSound_of_push .tiebreak hholding hc hphase h)

theorem roundsSound_suspend (a : NoArgs) (s : State) (hholding : s.holding = false) (h : s.roundsSound) :
    (roundSuspend a s).1.roundsSound := by
  obtain heq | ⟨c, hc, hphase, heq⟩ := roundSuspend_cases a s <;> rw [heq]
  · exact h
  · exact roundsSound_of_idle (by simp [State.setActive])
      (by simpa using roundsSound_of_push .suspend hholding hc hphase h)

theorem roundsSound_resume (a : NoArgs) (s : State) (hholding : s.holding = false) (h : s.roundsSound) :
    (roundResume a s).1.roundsSound := by
  obtain heq | ⟨x, rest, hstack, heq⟩ := roundResume_cases a s <;> rw [heq]
  · exact h
  · have hsaved : ∀ y ∈ x :: rest, y.context.savedSound := hstack ▸ h.2
    refine ⟨fun d hd => ?_, by simpa using fun y hy => hsaved y (List.mem_cons_of_mem x hy)⟩
    have hd' : x.context.resumed s.clock s.desk.speed = d := by simpa [State.setActive] using hd
    rw [← hd', holding_of_silence (s := s) (by simp), hholding]
    exact sound_resumed s.clock s.desk.speed (hsaved x (.head _))

/-- A reset and a restart leave no context at all (R207, R210). -/
theorem resetPart_contexts (strap : PinLevel) (cause : ResetCause) (s : State) :
    (resetPart strap cause s).engine.active = none ∧ (resetPart strap cause s).stack = [] := ⟨rfl, rfl⟩

theorem restartBlocks_contexts (s : State) :
    (restartBlocks s).engine.active = none ∧ (restartBlocks s).stack = [] := ⟨rfl, rfl⟩

theorem roundsSound_of_none {s : State} (h : s.engine.active = none ∧ s.stack = []) : s.roundsSound :=
  roundsSound_of_idle h.1 (by simp [h.2])

theorem roundsSound_keptByContexts : KeptByContexts State.roundsSound where
  moves := roundsSound_moves
  arm := roundsSound_arm
  clear a s h := by
    obtain heq | heq := roundClear_cases a s <;> rw [heq]
    · exact h
    · exact roundsSound_of_idle (by simp [State.setActive]) (by simpa using h.2)
  suspend := roundsSound_suspend
  resume := roundsSound_resume
  silenceArm b s h := roundsSound_congr (by simp) (silenceArm_holding b s) (by simp) h
  hold := roundsSound_hold
  frame := roundsSound_frame
  sprint _ h := roundsSound_congr rfl rfl rfl h
  roam _ _ h := roundsSound_congr rfl rfl rfl h
  reset strap cause s _ := roundsSound_of_none (resetPart_contexts strap cause s)
  restart s _ := roundsSound_of_none (restartBlocks_contexts s)

/-- Settles O20: every change of a context keeps it sound, and what is saved was sound outside a hold. -/
theorem roundsStaySound : Obligations.RoundsStaySound := fun _ _ h ht => roundsSound_keptByContexts.step h ht

end Sys2Proof.Proofs

/-! PROOFS. Laws of one context at a time: a live round keeps the line at SPRINT (R96, O21), and a ballot keeps one
entry for each eligible team (R125, R126, O22). -/

namespace Sys2Proof.Proofs
open Sys2Proof Sys2Proof.Machine

/-! ### A law of the active context and a law of the saved ones -/

/-- `A speed c` holds of the active context of a line at `speed` and `B c` of the saved ones. -/
def lawsHold (A : LineSpeed → Context → Prop) (B : Context → Prop) (s : State) : Prop :=
  (∀ c, s.engine.active = some c → A s.desk.speed c) ∧ ∀ x ∈ s.stack, B x.context

/-- What every change of a context must keep of two such laws. -/
structure ContextLaw (A : LineSpeed → Context → Prop) (B : Context → Prop) : Prop where
  goesOn : ∀ {speed holding c d}, ContextStep speed holding c d → A speed c → A speed d
  hold : ∀ speed now {c}, A speed c → A speed (c.hold now)
  unhold : ∀ speed now {c}, A speed c → A speed (c.unhold now)
  fresh : ∀ speed x cue eligible, A speed (newContext x cue eligible)
  saved : ∀ speed now {c}, c.phase = .armed ∨ c.phase = .opened → A speed c → B (c.pauseWindow now)
  resumed : ∀ speed now {c}, B c → A speed (c.resumed now speed)
  sprint : ∀ {speed c}, A speed c → A .sprint c
  roam : ∀ {speed c}, c.phase.needsSprint = false → A speed c → A .roam c

section
variable {A : LineSpeed → Context → Prop} {B : Context → Prop} (L : ContextLaw A B)

theorem lawsHold_congr {s t : State} (hengine : t.engine.active = s.engine.active) (hspeed : t.desk.speed = s.desk.speed)
    (hstack : t.stack = s.stack) (h : lawsHold A B s) : lawsHold A B t := by
  rw [lawsHold, hengine, hspeed, hstack]
  exact h

theorem lawsHold_of_active {s : State} {d : Context} (hactive : s.engine.active = some d) (hd : A s.desk.speed d)
    (hstack : ∀ x ∈ s.stack, B x.context) : lawsHold A B s :=
  ⟨fun _ hc => Option.some.inj (hactive.symm.trans hc) ▸ hd, hstack⟩

theorem lawsHold_of_idle {s : State} (hidle : s.engine.active = none) (hstack : ∀ x ∈ s.stack, B x.context) :
    lawsHold A B s :=
  ⟨fun _ hc => (nomatch hidle.symm.trans hc), hstack⟩

include L

theorem ContextLaw.moves {s t : State} (hmoves : Moves s t) (h : lawsHold A B s) : lawsHold A B t := by
  refine ⟨fun d hd => ?_, by rw [hmoves.stack]; exact h.2⟩
  cases hc : s.engine.active with
  | none => exact nomatch (hmoves.idle hc).symm.trans hd
  | some c =>
    obtain ⟨d', hd', hsteps⟩ := hmoves.active c hc
    obtain rfl := Option.some.inj (hd'.symm.trans hd)
    rw [hmoves.speed]
    clear hd hd'
    induction hsteps with
    | refl => exact h.1 c hc
    | tail _ hstep ih => exact L.goesOn hstep ih

theorem ContextLaw.push {s : State} (origin : Origin) {c : Context} (hc : s.engine.active = some c)
    (hphase : c.phase = .armed ∨ c.phase = .opened) (h : lawsHold A B s) :
    ∀ y ∈ (pushContext origin c s).stack, B y.context := by
  intro y hy
  rcases List.mem_cons.mp (show y ∈ _ :: s.stack from hy) with rfl | hy
  · exact L.saved _ s.clock hphase (h.1 c hc)
  · exact h.2 y hy

theorem ContextLaw.arm (o : Option Byte) (s : State) (h : lawsHold A B s) : lawsHold A B (roundArm o s).1 := by
  have harms : ∀ x cue (u : State), (∀ y ∈ u.stack, B y.context) → lawsHold A B (armContext x cue u) := by
    intro x cue u hstack
    exact lawsHold_of_active (by simp [armContext, State.setActive]; rfl) (L.fresh _ x cue _) (by simpa using hstack)
  obtain heq | ⟨x, cue, heq⟩ | ⟨x, cue, c, hc, hphase, heq⟩ := roundArm_cases o s <;> rw [heq]
  · exact h
  · exact harms x cue s h.2
  · exact harms x cue _ (L.push .tiebreak hc hphase h)

theorem ContextLaw.suspend (a : NoArgs) (s : State) (h : lawsHold A B s) : lawsHold A B (roundSuspend a s).1 := by
  obtain heq | ⟨c, hc, hphase, heq⟩ := roundSuspend_cases a s <;> rw [heq]
  · exact h
  · exact lawsHold_of_idle (by simp [State.setActive]) (by simpa using L.push .suspend hc hphase h)

theorem ContextLaw.resume (a : NoArgs) (s : State) (h : lawsHold A B s) : lawsHold A B (roundResume a s).1 := by
  obtain heq | ⟨x, rest, hstack, heq⟩ := roundResume_cases a s <;> rw [heq]
  · exact h
  · have hsaved : ∀ y ∈ x :: rest, B y.context := hstack ▸ h.2
    exact lawsHold_of_active (d := x.context.resumed s.clock s.desk.speed) (by simp [State.setActive])
      (by simpa using L.resumed s.desk.speed s.clock (hsaved x List.mem_cons_self))
      (by simpa using fun y hy => hsaved y (List.mem_cons_of_mem x hy))

theorem ContextLaw.frame (s : State) (h : lawsHold A B s) : lawsHold A B (validFrame s) := by
  obtain ⟨-, hengine, hdesk⟩ | ⟨period, -, hengine, -⟩ := validFrame_cases s
  · exact lawsHold_congr (by rw [hengine]) (by rw [hdesk]) (by simp) h
  · have hreleased : lawsHold A B (unholdActive { s with silence := watchFrom s.clock period }) := by
      unfold unholdActive
      split
      next c hc =>
        split
        · exact L.moves (moves_settleTest _) (lawsHold_of_active rfl (L.unhold _ s.clock (h.1 c hc)) h.2)
        · exact h
      next => exact h
    exact lawsHold_congr (by rw [hengine]) (by simp) (by simp) hreleased

theorem ContextLaw.silence (s : State) (h : lawsHold A B s) : lawsHold A B (silenceReached s) := by
  obtain heq | ⟨period, last, -, heq⟩ := silenceReached_cases s <;> rw [heq]
  · exact h
  · refine ⟨fun d hd => ?_, by simpa using h.2⟩
    have hheld : ∃ c, s.engine.active = some c ∧ c.hold s.clock = d := by
      simpa [holdActive, State.setActive] using hd
    obtain ⟨c, hc, rfl⟩ := hheld
    simpa using L.hold _ s.clock (h.1 c hc)

theorem ContextLaw.kept : KeptByContexts (lawsHold A B) where
  moves := L.moves
  arm o s _ := L.arm o s
  clear a s h := by
    obtain heq | heq := roundClear_cases a s <;> rw [heq]
    · exact h
    · exact lawsHold_of_idle (by simp [State.setActive]) (by simpa using h.2)
  suspend a s _ := L.suspend a s
  resume a s _ := L.resume a s
  silenceArm b s h := lawsHold_congr (by simp) (by simp) (by simp) h
  hold := L.silence
  frame := L.frame
  sprint _ h := ⟨fun c hc => L.sprint (h.1 c hc), h.2⟩
  roam s hneed h := by
    refine ⟨fun c hc => L.roam ?_ (h.1 c hc), h.2⟩
    have hactive : s.engine.active = some c := hc
    simp only [State.sprintNeeded, State.roundNeedsSprint, hactive, Bool.or_eq_false_iff] at hneed
    exact hneed.1
  reset strap cause s _ := by
    obtain ⟨hactive, hstack⟩ := resetPart_contexts strap cause s
    exact lawsHold_of_idle hactive (by simp [hstack])
  restart s _ := by
    obtain ⟨hactive, hstack⟩ := restartBlocks_contexts s
    exact lawsHold_of_idle hactive (by simp [hstack])

end

/-! ### A live round keeps the line at SPRINT (O21) -/

/-- A context that takes presses needs the line at SPRINT. -/
def liveNeedsSprint (speed : LineSpeed) (c : Context) : Prop := c.phase.takesPresses = true → speed = .sprint

theorem liveNeedsSprint_law : ContextLaw liveNeedsSprint (fun c => c.phase = .armed ∨ c.phase = .opened) where
  goesOn hstep h := by
    cases hstep with
    | opens _ _ hspeed => exact fun _ => hspeed
    | waits _ => exact nofun
    | closes s now e => exact fun ht => by simp [Phase.takesPresses] at ht
    | stops => exact h
    | votingCloses _ _ _ hphase => exact fun _ => h (by rw [hphase]; rfl)
    | grants _ _ _ hphase _ _ => exact fun _ => h (by rw [hphase]; rfl)
    | claims _ _ _ _ _ hphase _ _ _ => exact fun _ => h hphase
    | overflows _ => exact h
    | improves _ _ _ _ _ _ _ => exact h
    | votes _ _ _ _ _ _ => exact h
    | flashes => exact h
    | drops _ _ _ => exact h
    | empties hphase => exact fun _ => h (by rw [hphase]; rfl)
    | judgedRight s now e => exact fun ht => by simp [Phase.takesPresses] at ht
    | passGrants _ _ _ _ _ hphase _ _ _ => exact fun _ => h (by rw [hphase]; rfl)
    | passSettles _ _ _ hphase _ _ _ => exact fun _ => h (by rw [hphase]; rfl)
    | passReopens _ _ _ hphase _ _ _ => exact fun _ => h (by rw [hphase]; rfl)
    | passCloses _ _ s now e _ _ => exact fun ht => by simp [Phase.takesPresses] at ht
    | reveals _ _ _ _ _ _ _ => exact nofun
  hold speed now c h := by simpa [liveNeedsSprint] using h
  unhold speed now c h := by simpa [liveNeedsSprint] using h
  fresh _ _ _ _ := nofun
  saved _ _ _ hphase _ := by simpa using hphase
  resumed speed now c hphase := by
    cases speed with
    | sprint => exact fun _ => rfl
    | roam =>
      intro ht
      rcases hphase with h | h <;> simp [Context.resumed, h, Phase.takesPresses] at ht
  sprint _ _ := rfl
  roam {speed c} hneed _ ht := by
    cases hp : c.phase <;> simp [hp, Phase.needsSprint, Phase.takesPresses] at hneed ht

/-- Settles O21: a context comes to take presses only at SPRINT, and the line leaves SPRINT only when no round needs
it. -/
theorem liveRoundsStayAtSprint : Obligations.LiveRoundsStayAtSprint := fun _ _ hlive hsound ht =>
  have hphases := fun x hx => (hsound.2 x hx).2.2.1
  (liveNeedsSprint_law.kept.step ⟨hlive, hphases⟩ ht).1

/-! ### A ballot keeps one entry for each eligible team (O22) -/

/-- A change of the ballot that keeps the teams of its entries, and the eligible teams, keeps the ballot fit. -/
theorem ballotFits_of {c d : Context} (heligible : d.eligible = c.eligible)
    (hballot : ∀ b, d.ballot = some b → ∃ b', c.ballot = some b'
      ∧ b.entries.map BallotEntry.team = b'.entries.map BallotEntry.team) (h : c.ballotFits) : d.ballotFits := by
  intro b hb
  obtain ⟨b', hb', hteams⟩ := hballot b hb
  rw [hteams, heligible]
  exact h b' hb'

theorem ballotFits_congr {c d : Context} (heligible : d.eligible = c.eligible) (hballot : d.ballot = c.ballot)
    (h : c.ballotFits) : d.ballotFits := ballotFits_of heligible (fun b hb => ⟨b, hballot ▸ hb, rfl⟩) h

theorem ballotFits_tallied (s : State) {c : Context} (h : c.ballotFits) : (c.talliedAtClose s).ballotFits := by
  refine ballotFits_of (by simp) (fun b hb => ?_) h
  unfold Context.talliedAtClose at hb
  split at hb
  next b' p hballot _ =>
    obtain rfl := Option.some.inj hb
    exact ⟨b', hballot, rfl⟩
  next => exact ⟨b, hb, rfl⟩

theorem ballotFits_closed (s : State) (now : ClockValue) (e : Ending) {c : Context} (h : c.ballotFits) :
    ((c.talliedAtClose s).closed now e).ballotFits :=
  ballotFits_congr (by simp) (by simp) (ballotFits_tallied s h)

/-- A vote changes an entry of the ballot, not its team (R128 to R130). -/
theorem take_team (policy : ChangePolicy) (o : Letter) (capture : ClockValue) (e : BallotEntry) :
    (e.take policy o capture).team = e.team := by
  cases hvote : e.vote with
  | none => simp [BallotEntry.take, hvote, BallotEntry.firstChoice]
  | some v =>
    cases policy <;>
      simp only [BallotEntry.take, hvote, BallotEntry.firstStands, BallotEntry.lastStands] <;>
      split <;> rfl

theorem ballotTake_teams (policy : ChangePolicy) (t : TeamId) (o : Letter) (capture : ClockValue) (b : Ballot) :
    (b.take policy t o capture).entries.map BallotEntry.team = b.entries.map BallotEntry.team := by
  simp only [Ballot.take, List.map_map]
  refine List.map_congr_left fun e _ => ?_
  simp only [Function.comp_apply]
  split
  · exact take_team policy o capture e
  · rfl

theorem revealedBy_teams (s : State) (f : PollFields) (right : Letter) (b : Ballot) :
    (b.revealedBy s f right).entries.map BallotEntry.team = b.entries.map BallotEntry.team := by
  simp only [Ballot.revealedBy, revealedEntries, List.map_map]
  rfl

theorem ballotFits_law : ContextLaw (fun _ => Context.ballotFits) Context.ballotFits where
  goesOn hstep h := by
    cases hstep with
    | votingCloses _ _ _ _ =>
      refine ballotFits_of (by simp) (fun b hb => ?_) h
      obtain ⟨b', hb', rfl⟩ := Option.map_eq_some_iff.mp hb
      exact ⟨b', hb', rfl⟩
    | votes b policy t o capture hballot =>
      refine ballotFits_of (by simp) (fun b' hb' => ⟨b, hballot, ?_⟩) h
      obtain rfl := Option.some.inj hb'
      exact ballotTake_teams policy t o capture b
    | reveals s f right _ b _ hballot =>
      refine ballotFits_of (by rfl) (fun b' hb' => ⟨b, hballot, ?_⟩) h
      obtain rfl := Option.some.inj hb'
      exact revealedBy_teams s f right b
    | closes s now e => exact ballotFits_closed s now e h
    | judgedRight s now e => exact ballotFits_closed s now e (ballotFits_congr (by rfl) (by rfl) h)
    | passCloses t lockout s now e _ _ => exact ballotFits_closed s now e (ballotFits_congr (by simp) (by simp) h)
    | opens _ _ _ | grants _ _ _ _ _ _ | passGrants _ _ _ _ _ _ _ _ _ | passSettles _ _ _ _ _ _ _
    | passReopens _ _ _ _ _ _ _ => exact ballotFits_congr (by simp) (by simp) h
    | waits _ | stops | claims _ _ _ _ _ _ _ _ _ | overflows _ | improves _ _ _ _ _ _ _ | flashes | drops _ _ _
    | empties _ => exact ballotFits_congr rfl rfl h
  hold _ now c h := ballotFits_congr (by simp) (by simp) h
  unhold _ now c h := ballotFits_congr (by simp) (by simp) h
  fresh _ x cue eligible b hb := by
    cases hkind : cue.part with
    | poll p =>
      simp only [newContext, hkind, Option.some.injEq] at hb
      simp [← hb, Ballot.atArming, newContext, Function.comp_def]
    | _ => simp [newContext, hkind] at hb
  saved _ now c _ h := ballotFits_congr (by simp) (by simp) h
  resumed speed now c h := ballotFits_congr (by simp) (by simp) h
  sprint h := h
  roam _ h := h

/-- Settles O22: every change of a context keeps its eligible teams and the teams of its ballot. -/
theorem ballotsStayFit : Obligations.BallotsStayFit := fun _ _ h ht => ballotFits_law.kept.step h ht

end Sys2Proof.Proofs

/-! PROOFS. The two resets: the values they leave (R207, O4), with which every law begins (O23). -/

namespace Sys2Proof.Proofs
open Sys2Proof Sys2Proof.Machine

/-- The state a reset leaves has the values of the table. -/
theorem resetValues_resetPart (strap : PinLevel) (cause : ResetCause) (s : State) :
    resetValues strap cause s (resetPart strap cause s) := by
  have hteam : ∀ n, (resetPart strap cause s).team n = TeamRecord.reset := fun n => look_replicate _ n
  have hpad : ∀ a, (resetPart strap cause s).pad a = PadRecord.reset := fun a => look_replicate _ a
  have hslot : ∀ x, (resetPart strap cause s).cueSlot x = .empty := fun x => look_replicate _ x
  have hpanel : ∀ p, (resetPart strap cause s).panel p = PanelRecord.reset := fun p => look_replicate _ p
  have hroute : ∀ n, (resetPart strap cause s).route n = none := fun n => look_replicate _ n
  have hwaiting : ∀ k, (resetPart strap cause s).notices.waiting.get k = decide (k = .link) := by
    intro k
    cases k <;> rfl
  have henabled : ∀ k, (resetPart strap cause s).notices.enabled.get k
      = decide (k ≠ .queue ∧ k ≠ .pad ∧ k ≠ .cue) := by
    intro k
    cases k <;> rfl
  exact ⟨rfl, hteam, hpad, rfl, rfl, rfl, rfl, rfl, rfl, rfl, rfl, rfl, rfl, hslot, rfl, rfl, rfl, rfl, rfl, rfl, rfl,
    hpanel, hroute, rfl, rfl, rfl, rfl, rfl, hwaiting, henabled, rfl, rfl, rfl, rfl, rfl, rfl, rfl, rfl,
    by cases strap <;> rfl, rfl, rfl, rfl⟩

/-- Settles O4: both resets are the reset part, which asks for no publish. -/
theorem resetsLeaveTheseValues : Obligations.ResetsLeaveTheseValues := fun strap s =>
  ⟨⟨_, exec_quiet rfl rfl, resetValues_resetPart strap .power s⟩,
    ⟨_, exec_quiet rfl rfl, resetValues_resetPart strap .line s⟩⟩

theorem reset_eq_resetPart : State.reset = resetPart .low .power State.reset := rfl

/-- Settles O23: the reset part brings each law about, whatever held before. -/
theorem lawsHoldAtReset : Obligations.LawsHoldAtReset := by
  have hcontexts := resetPart_contexts .low .power State.reset
  rw [← reset_eq_resetPart] at hcontexts
  obtain ⟨hidle, hstack⟩ := hcontexts
  have hlaws : ∀ A B, lawsHold A B State.reset := fun A B => lawsHold_of_idle hidle (by simp [hstack])
  have hscores : State.reset.scoresInRange := scoresInRange_reset .low .power State.reset
  have hpads : State.reset.padsLawful := padsLawful_reset .low .power State.reset
  have hroutes : State.reset.routesDisjoint := routesDisjoint_of_none fun n => look_replicate _ n
  have hlink : State.reset.linkSound := ⟨Nat.zero_le 4, nofun, nofun, fun _ => rfl⟩
  exact ⟨hscores, awardsBehindLock_of_none rfl, changedAscending_of_none rfl, stackBounded_of_nil hstack, hroutes, rfl,
    hpads, hlink, roundsSound_of_idle hidle (by simp [hstack]), (hlaws liveNeedsSprint fun _ => True).1,
    hlaws (fun _ => Context.ballotFits) Context.ballotFits⟩

end Sys2Proof.Proofs

/-! PROOFS. Clock values compared by their signed difference (R12, O24), and the ranges of the operands (O25). -/

namespace Sys2Proof.Proofs
open Sys2Proof Sys2Proof.Machine

/-- Settles O24: the signed difference is the difference modulo 2^32 that lies in the range of 32-bit integers. -/
theorem clockValuesCompareBySignedDifference : Obligations.ClockValuesCompareBySignedDifference := by
  intro a b
  have hmod : (clockDiff a b - ((b.toNat : Int) - a.toNat)) % (2 ^ 32 : Int) = 0 := by
    simp only [clockDiff, BitVec.toInt_eq_toNat_cond, BitVec.toNat_sub]
    omega
  refine ⟨BitVec.le_toInt _, BitVec.toInt_lt, hmod, by simp [earlier], ?_, ?_, by simp [reached], ?_⟩
  · have : clockDiff a b = 0 ↔ b - a = 0#32 := by
      simp [clockDiff, ← BitVec.toInt_inj]
    rw [this]
    constructor <;> intro h <;> bv_omega
  · intro hneg hmin
    simp only [earlier, decide_eq_true_eq]
    have hswap : clockDiff b a = -clockDiff a b := by
      have hne : b - a ≠ BitVec.intMin 32 := fun h => hmin (by rw [clockDiff, h]; rfl)
      rw [clockDiff, clockDiff, ← BitVec.toInt_neg_of_ne_intMin hne, BitVec.neg_sub, BitVec.add_comm, BitVec.sub_eq_add_neg]
    omega
  · simp only [ticksLeft]
    omega

/-! ### Operands -/

theorem indexFromOne_eq_some_iff {n v : Nat} {i : Fin n} : indexFromOne n v = some i ↔ v = i.val + 1 := by
  unfold indexFromOne
  split
  next h => simp [h]
  next h =>
    rw [indexBelow_eq_some_iff]
    omega

theorem within_eq_some_iff {low high n : Nat} {b : Byte} :
    within low high b = some n ↔ b.toNat = n ∧ low ≤ n ∧ n ≤ high := by
  unfold within
  split <;> grind

theorem signedWithin_eq_some_iff {low high z : Int} {h : Half} :
    signedWithin low high h = some z ↔ h.toInt = z ∧ low ≤ z ∧ z ≤ high := by
  unfold signedWithin
  split <;> grind

/-- A slot's number is its page and its place on the page (R55). -/
theorem slot_eq_page (x : SlotId) : x.val = 16 * (pageOfSlot x).val + x.val % 16 := by
  simp only [pageOfSlot]
  omega

/-- Settles O25: every operand is an index below its bound, an index counted from 1, or a number in a range. -/
theorem operandsReadTheirRanges : Obligations.OperandsReadTheirRanges :=
  ⟨fun _ _ => indexFromOne_eq_some_iff, fun _ _ => indexBelow_eq_some_iff, fun _ _ => indexFromOne_eq_some_iff,
    fun _ x => (slotOf_eq_some_iff).trans (by rw [← slot_eq_page x]), fun _ _ => indexBelow_eq_some_iff,
    fun _ _ => indexBelow_eq_some_iff, fun _ _ _ _ => within_eq_some_iff, fun _ _ _ _ => signedWithin_eq_some_iff⟩

end Sys2Proof.Proofs

/-! PROOFS. Every frame is answered, and a refused one has changed nothing (R5, R185 to R188, O5). -/

namespace Sys2Proof.Proofs
open Sys2Proof Sys2Proof.Machine

/-- A command changed nothing, or it was accepted (R188). -/
def leftOrAccepted (s : State) (r : State × Answer) : Prop := r.1 = s ∨ r.2.result = .ok ∨ r.2.result = .queued

theorem leftOrAccepted.left {s : State} {r : State × Answer} (h : r.1 = s) : leftOrAccepted s r := .inl h

theorem leftOrAccepted.accepted {s u : State} (items : List Item) : leftOrAccepted s (u, ok items) := .inr (.inl rfl)

/-! ### Each command that writes the state -/

theorem teamSet_leftOrAccepted (a : TeamSetArgs) (s : State) : leftOrAccepted s (teamSet a s) := by
  unfold teamSet
  (repeat' split) <;> first | exact .left rfl | exact .accepted _

theorem padAssign_leftOrAccepted (a : PadAssignArgs) (s : State) : leftOrAccepted s (padAssign a s) := by
  have hplace : ∀ x p, leftOrAccepted s (assignToPlace x p s) := by
    intro x p
    unfold assignToPlace
    (repeat' split) <;> first | exact .left rfl | exact .accepted _
  unfold padAssign
  (repeat' split) <;> first | exact .left rfl | exact .accepted _ | exact hplace _ _

theorem layoutSet_leftOrAccepted (b : Byte) (s : State) : leftOrAccepted s (layoutSet b s) := by
  unfold layoutSet
  (repeat' split) <;> first | exact .left rfl | exact .accepted _

theorem padForget_leftOrAccepted (b : Byte) (s : State) : leftOrAccepted s (padForget b s) := by
  unfold padForget
  split
  next => exact .left rfl
  next =>
    dsimp only
    split
    · exact .accepted _
    · exact .left rfl

theorem deskSpeed_leftOrAccepted (b : Byte) (s : State) : leftOrAccepted s (deskSpeed b s) := by
  unfold deskSpeed
  split
  · exact .left rfl
  · exact .accepted _

theorem lampSet_leftOrAccepted (a : LampSetArgs) (s : State) : leftOrAccepted s (lampSet a s) := by
  unfold lampSet
  (repeat' split) <;> first | exact .left rfl | exact .accepted _

theorem captureSet_leftOrAccepted (b : Byte) (s : State) : leftOrAccepted s (captureSet b s) := by
  unfold captureSet
  (repeat' split) <;> first | exact .left rfl | exact .accepted _

theorem cueLoad_leftOrAccepted (p : Payload CueLoadArgs) (s : State) : leftOrAccepted s (cueLoad p s) := by
  unfold cueLoad
  (repeat' split) <;> first | exact .left rfl | exact .accepted _

theorem cueErase_leftOrAccepted (e : EraseTarget) (s : State) : leftOrAccepted s (cueErase e s) := by
  unfold cueErase
  split
  · exact .left rfl
  · exact .accepted _

theorem cuePoint_leftOrAccepted (b : Byte) (s : State) : leftOrAccepted s (cuePoint b s) := by
  unfold cuePoint
  split
  · exact .left rfl
  · exact .accepted _

theorem roundArm_leftOrAccepted (o : Option Byte) (s : State) : leftOrAccepted s (roundArm o s) := by
  have hordinary : ∀ x cue, leftOrAccepted s (armOrdinary x cue s) := by
    intro x cue
    unfold armOrdinary
    split
    · exact .left rfl
    · exact .accepted _
  have hinterjection : ∀ x cue c, leftOrAccepted s (armInterjection x cue c s) := by
    intro x cue c
    unfold armInterjection
    (repeat' split) <;> first | exact .left rfl | exact .accepted _
  unfold roundArm armCue
  (repeat' split) <;> first | exact .left rfl | exact hordinary _ _ | exact hinterjection _ _ _

theorem roundOpen_leftOrAccepted (a : NoArgs) (s : State) : leftOrAccepted s (roundOpen a s) := by
  unfold roundOpen
  (repeat' split) <;> first | exact .left rfl | exact .accepted _

theorem callTime_leftOrAccepted (a : NoArgs) (s : State) : leftOrAccepted s (callTime a s) := by
  unfold callTime
  split
  next => exact .left rfl
  next => split <;> first | exact .left rfl | exact .accepted _

theorem roundAbort_leftOrAccepted (a : NoArgs) (s : State) : leftOrAccepted s (roundAbort a s) := by
  unfold roundAbort
  (repeat' split) <;> first | exact .left rfl | exact .accepted _

theorem roundClear_leftOrAccepted (a : NoArgs) (s : State) : leftOrAccepted s (roundClear a s) := by
  unfold roundClear
  (repeat' split) <;> first | exact .left rfl | exact .accepted _

theorem judge_leftOrAccepted (p : Payload JudgeArgs) (s : State) : leftOrAccepted s (judge p s) := by
  have hteam : ∀ t v, leftOrAccepted s (judgeTeam t v s) := by
    intro t v
    unfold judgeTeam
    (repeat' split) <;> first | exact .left rfl | exact .accepted _
  unfold judge
  (repeat' split) <;> first | exact .left rfl | exact hteam _ _

theorem claimDrop_leftOrAccepted (b : Byte) (s : State) : leftOrAccepted s (claimDrop b s) := by
  unfold claimDrop
  (repeat' split) <;> first | exact .left rfl | exact .accepted _

theorem reveal_leftOrAccepted (o : Option Byte) (s : State) : leftOrAccepted s (reveal o s) := by
  have hwith : ∀ given e c f b, leftOrAccepted s (revealWith given e c f b s) := by
    intro given e c f b
    unfold revealWith
    (repeat' split) <;> first | exact .left rfl | exact .accepted _
  unfold reveal
  (repeat' split) <;> first | exact .left rfl | exact hwith _ _ _ _ _

theorem scoreAdjust_leftOrAccepted (a : ScoreAdjustArgs) (s : State) : leftOrAccepted s (scoreAdjust a s) := by
  unfold scoreAdjust
  (repeat' split) <;> first | exact .left rfl | exact .accepted _

theorem scoreLock_leftOrAccepted (b : Byte) (s : State) : leftOrAccepted s (scoreLock b s) := by
  unfold scoreLock
  (repeat' split) <;> first | exact .left rfl | exact .accepted _

theorem scoreUnlock_leftOrAccepted (a : NoArgs) (s : State) : leftOrAccepted s (scoreUnlock a s) := by
  unfold scoreUnlock
  split
  · exact .accepted _
  · exact .left rfl

theorem roundSuspend_leftOrAccepted (a : NoArgs) (s : State) : leftOrAccepted s (roundSuspend a s) := by
  unfold roundSuspend
  (repeat' split) <;> first | exact .left rfl | exact .accepted _

theorem roundResume_leftOrAccepted (a : NoArgs) (s : State) : leftOrAccepted s (roundResume a s) := by
  unfold roundResume
  (repeat' split) <;> first | exact .left rfl | exact .accepted _

theorem silenceArm_leftOrAccepted (b : Byte) (s : State) : leftOrAccepted s (silenceArm b s) := by
  unfold silenceArm
  (repeat' split) <;> first | exact .left rfl | exact .accepted _

theorem boardScan_leftOrAccepted (a : NoArgs) (s : State) : leftOrAccepted s (boardScan a s) := by
  unfold boardScan
  split
  · exact .inr (.inr rfl)
  · exact .left rfl

theorem routeSet_leftOrAccepted (a : RouteSetArgs) (s : State) : leftOrAccepted s (routeSet a s) := by
  unfold routeSet
  (repeat' split) <;> first | exact .left rfl | exact .accepted _

theorem routeClear_leftOrAccepted (r : RouteTarget) (s : State) : leftOrAccepted s (routeClear r s) := by
  unfold routeClear
  (repeat' split) <;> first | exact .left rfl | exact .accepted _

theorem noticeEnable_leftOrAccepted (a : NoticeEnableArgs) (s : State) : leftOrAccepted s (noticeEnable a s) := by
  unfold noticeEnable
  split
  · exact .left rfl
  · exact .accepted _

theorem noticeClear_leftOrAccepted (n : NoticeTarget) (s : State) : leftOrAccepted s (noticeClear n s) := by
  unfold noticeClear
  split
  · exact .left rfl
  · exact .accepted _

/-! ### Every command -/

theorem withArgs_leftOrAccepted {α : Type} {act : α → State → State × Answer} {s : State}
    (hact : ∀ a, leftOrAccepted s (act a s)) (p : Payload α) : leftOrAccepted s (withArgs p act s) := by
  cases p with
  | fits a => exact hact a
  | misfit => exact .left rfl

theorem runCommand_leftOrAccepted (c : Command) (s : State) : leftOrAccepted s (runCommand c s) := by
  cases c with
  | teamSet p => exact withArgs_leftOrAccepted (teamSet_leftOrAccepted · s) p
  | padAssign p => exact withArgs_leftOrAccepted (padAssign_leftOrAccepted · s) p
  | layoutSet p => exact withArgs_leftOrAccepted (layoutSet_leftOrAccepted · s) p
  | padForget p => exact withArgs_leftOrAccepted (padForget_leftOrAccepted · s) p
  | deskSpeed p => exact withArgs_leftOrAccepted (deskSpeed_leftOrAccepted · s) p
  | lampSet p => exact withArgs_leftOrAccepted (lampSet_leftOrAccepted · s) p
  | captureSet p => exact withArgs_leftOrAccepted (captureSet_leftOrAccepted · s) p
  | cueLoad p => exact cueLoad_leftOrAccepted p s
  | cueErase p => exact withArgs_leftOrAccepted (cueErase_leftOrAccepted · s) p
  | cuePoint p => exact withArgs_leftOrAccepted (cuePoint_leftOrAccepted · s) p
  | roundArm p => exact withArgs_leftOrAccepted (roundArm_leftOrAccepted · s) p
  | roundOpen p => exact withArgs_leftOrAccepted (roundOpen_leftOrAccepted · s) p
  | callTime p => exact withArgs_leftOrAccepted (callTime_leftOrAccepted · s) p
  | roundAbort p => exact withArgs_leftOrAccepted (roundAbort_leftOrAccepted · s) p
  | roundClear p => exact withArgs_leftOrAccepted (roundClear_leftOrAccepted · s) p
  | judge p => exact judge_leftOrAccepted p s
  | claimDrop p => exact withArgs_leftOrAccepted (claimDrop_leftOrAccepted · s) p
  | reveal p => exact withArgs_leftOrAccepted (reveal_leftOrAccepted · s) p
  | scoreAdjust p => exact withArgs_leftOrAccepted (scoreAdjust_leftOrAccepted · s) p
  | scoreLock p => exact withArgs_leftOrAccepted (scoreLock_leftOrAccepted · s) p
  | scoreUnlock p => exact withArgs_leftOrAccepted (scoreUnlock_leftOrAccepted · s) p
  | roundSuspend p => exact withArgs_leftOrAccepted (roundSuspend_leftOrAccepted · s) p
  | roundResume p => exact withArgs_leftOrAccepted (roundResume_leftOrAccepted · s) p
  | silenceArm p => exact withArgs_leftOrAccepted (silenceArm_leftOrAccepted · s) p
  | boardScan p => exact withArgs_leftOrAccepted (boardScan_leftOrAccepted · s) p
  | boardPublish p => exact withArgs_leftOrAccepted (fun _ => .inr (.inr rfl)) p
  | boardSet p => exact withArgs_leftOrAccepted (fun _ => .accepted _) p
  | routeSet p => exact withArgs_leftOrAccepted (routeSet_leftOrAccepted · s) p
  | routeClear p => exact withArgs_leftOrAccepted (routeClear_leftOrAccepted · s) p
  | restart p => exact withArgs_leftOrAccepted (fun _ => .accepted _) p
  | noticeEnable p => exact withArgs_leftOrAccepted (noticeEnable_leftOrAccepted · s) p
  | noticeClear p => exact withArgs_leftOrAccepted (noticeClear_leftOrAccepted · s) p
  | queryTeam p | queryPad p | queryDesk p | queryClock p | queryCue p | queryRound p | queryQueue p | queryBallot p
  | queryAwards p | queryStack p | queryBoard p | identify p | keepalive p =>
    exact withArgs_leftOrAccepted (fun _ => .left (by simp)) p

/-- A frame whose payload does not fit its command is refused with BAD_VALUE (R187). -/
theorem runCommand_misfit {c : Command} (h : c.payload = none) (s : State) :
    (runCommand c s).2.result = .refused .badValue := by
  cases c with
  | cueLoad p | judge p =>
    cases p with
    | fits a => cases h
    | misfit => rfl
  | _ p =>
    cases p with
    | fits a => cases h
    | misfit => rfl

/-- Settles O5: the reply is what the command answered, and a command that is not accepted has left the state. -/
theorem everyFrameIsAnswered : Obligations.EveryFrameIsAnswered := by
  intro i c s hi hs
  have harrives : exec i s = frameArrives c s := exec_command hi s
  have hlink : (runCommand c s.told).1.link.queue = s.link.queue
      ∧ (runCommand c s.told).1.link.assembler = .hunting := by
    rcases runCommand_link c s.told with hlink | hlink <;> exact ⟨by rw [hlink]; rfl, by rw [hlink]; rfl⟩
  refine ⟨(runCommand c s.told).2, _, harrives.trans (frameArrives_ready c hs), ?_, ?_,
    fun hmisfit => runCommand_misfit hmisfit _, fun hrefused => ?_⟩
  · simp [enqueue, hlink.1]
  · simp [enqueue, hlink.2]
  · have hleft : (runCommand c s.told).1 = s.told := by
      refine (runCommand_leftOrAccepted c s.told).resolve_right fun haccepted => ?_
      rcases hrefused with ⟨r, h⟩ | h <;> rcases haccepted with h' | h' <;> exact nomatch h.symm.trans h'
    obtain ⟨t, ht, hanswered, hframe, -⟩ :=
      completes_same c harrives rfl hs (Prod.ext hleft rfl : runCommand c s.told = (s.told, (runCommand c s.told).2))
    rw [harrives, frameArrives_ready c hs] at ht
    obtain rfl := Host.Outcome.next.inj ht
    exact ⟨hanswered, hframe⟩

end Sys2Proof.Proofs

/-! PROOFS. What happens to an item of the control link that arrives (R186 to R193, O6 and O7), and how bytes are put
together into frames (R184, O8). -/

namespace Sys2Proof.Proofs
open Sys2Proof Sys2Proof.Machine

/-! ### An item arrives -/

/-- Frames and rejections arrive as items, with the assembler hunting for the next frame. -/
theorem effectOf_arriving {i : Instr} {x : HeldItem} (h : arriving i = some x) (s : State) :
    effectOf i s = itemArrives x (hunt s) := by
  cases hcommand : i.frameCommand with
  | some c =>
    simp only [arriving, hcommand, Option.some.injEq] at h
    rw [effectOf_command hcommand, ← h, frameCompletes]
  | none =>
    simp only [arriving, hcommand] at h
    split at h
    next heq => exact nomatch heq
    all_goals cases h
    all_goals rfl

theorem gapRunsOut_inFrame {s : State} (h : s.link.assembler ≠ .hunting) :
    gapRunsOut s = itemArrives (.rejection .truncated) (hunt s) := by
  unfold gapRunsOut
  split
  next => rfl
  next hhunting => exact absurd hhunting h

theorem gapRunsOut_hunting {s : State} (h : s.link.assembler = .hunting) : gapRunsOut s = s := by
  unfold gapRunsOut
  rw [h]

theorem itemArrives_restarting (x : HeldItem) {s : State} (h : s.link.restarting = true) : itemArrives x s = s := by
  unfold itemArrives
  rw [if_pos h]

theorem itemArrives_overrun (x : HeldItem) {s : State} (hrestart : s.link.restarting = false)
    (hheld : s.link.held.isSome = true) : itemArrives x s = recordOverrun s := by
  unfold itemArrives
  rw [if_neg (by simp [hrestart]), if_pos hheld]

theorem itemArrives_full (x : HeldItem) {s : State} (hrestart : s.link.restarting = false)
    (hheld : s.link.held = none) (hfull : 4 ≤ s.link.queue.length) :
    itemArrives x s = { s with link := { s.link with held := some x } } := by
  unfold itemArrives
  have hfull' : ¬s.link.queue.length < Config.maxReplies := Nat.not_lt.mpr hfull
  rw [if_neg (by simp [hrestart]), if_neg (by simp [hheld]), if_neg hfull']

/-- Settles O6: what arrives is lost in the wait of RESTART, counted when an item is held, and held when the queue is
full. -/
theorem fullQueueHoldsThenOverruns : Obligations.FullQueueHoldsThenOverruns := by
  intro i x s hquiet harrives
  have heffect : effectOf i s = itemArrives x (hunt s) := by
    rcases harrives with h | ⟨rfl, rfl, h⟩
    · exact effectOf_arriving h s
    · exact gapRunsOut_inFrame h
  refine ⟨fun hrestart => ?_, fun hrestart hheld => ?_, fun hrestart hheld hfull => ?_⟩
  · exact exec_quiet (heffect.trans (itemArrives_restarting x (s := hunt s) hrestart)) hquiet
  · exact exec_quiet (heffect.trans (itemArrives_overrun x (s := hunt s) hrestart hheld)) hquiet
  · exact exec_quiet (heffect.trans (itemArrives_full x (s := hunt s) hrestart hheld hfull)) hquiet

/-- Settles O7: with room and nothing held, what is rejected joins the queue at once. -/
theorem rejectionsJoinTheQueue : Obligations.RejectionsJoinTheQueue := by
  intro s hquiet
  refine ⟨fun hrestart hheld hroom => ?_, fun hhunting => exec_quiet (gapRunsOut_hunting hhunting) hquiet⟩
  have htaken : ∀ x, itemArrives x (hunt s) = takeItem x (hunt s) := fun x =>
    itemArrives_room x (s := hunt s) hrestart hheld hroom
  refine ⟨exec_quiet (htaken _) hquiet, exec_quiet (htaken _) hquiet, fun bytes damaged hframe => ?_,
    fun kind => exec_quiet (htaken _) hquiet⟩
  exact exec_quiet ((gapRunsOut_inFrame (by simp [hframe])).trans (htaken _)) hquiet

/-! ### Bytes are assembled -/

theorem exec_byteReceived (b : Byte) (stop : Bool) (s : State) :
    exec (.byteReceived b stop) s = finish (byteArrives b stop s) := exec_eq_next _ s

theorem byteArrives_inFrame {bytes : List Byte} {damaged : Bool} {s : State}
    (h : s.link.assembler = .inFrame bytes damaged) (b : Byte) (stop : Bool) :
    byteArrives b stop s = collectByte (bytes ++ [b]) (damaged || !stop) s := by
  unfold byteArrives
  rw [h]

theorem badLength_iff (n : Byte) : badLength n = true ↔ n.toNat = 0 ∨ 250 < n.toNat := by
  exact decide_eq_true_iff

theorem collectByte_badLength {n : Byte} (rest : List Byte) (damaged : Bool) (s : State)
    (h : n.toNat = 0 ∨ 250 < n.toNat) : collectByte (n :: rest) damaged s = frameRejected .length s := by
  simp only [collectByte, (badLength_iff n).mpr h, if_true]

/-- A frame whose length is lawful is collected up to its last byte, and then checked. -/
theorem collectByte_goodLength {n : Byte} (rest : List Byte) (damaged : Bool) (s : State) (hlow : 1 ≤ n.toNat)
    (hhigh : n.toNat ≤ 250) : collectByte (n :: rest) damaged s
      = if rest.length < n.toNat + 3 then
          { s with link := { s.link with assembler := .inFrame (n :: rest) damaged } }
        else if checkGood (n :: rest) && !damaged then frameCompletes (frameIn (n :: rest)) s
        else frameRejected .check s := by
  have hgood : badLength n = false := Bool.eq_false_iff.mpr fun h => by
    have := (badLength_iff n).mp h
    omega
  have hlength : (n :: rest).length < bodyLength n ↔ rest.length < n.toNat + 3 := by
    simp only [List.length_cons, bodyLength]
    omega
  simp only [collectByte, hgood, Bool.false_eq_true, if_false, hlength]

/-- The check of a whole frame is over all of it but its last two bytes (R183). -/
theorem checkGood_iff {n : Byte} {rest : List Byte} (h : rest.length = n.toNat + 3) :
    checkGood (n :: rest) = true ↔ rest.drop (n.toNat + 1)
      = [highByte (crc16 (n :: rest.take (n.toNat + 1))), lowByte (crc16 (n :: rest.take (n.toNat + 1)))] := by
  have hbody : (n :: rest).length - 2 = n.toNat + 1 + 1 := by
    simp only [List.length_cons]
    omega
  simp only [checkGood, hbody, List.take_succ_cons, List.drop_succ_cons, decide_eq_true_eq]

/-- The frame in a whole frame's bytes is what its kind and its payload decode to. -/
theorem frameIn_eq {n kind : Byte} {rest body : List Byte} (h : rest.length = n.toNat + 3)
    (hbody : rest.take (n.toNat + 1) = kind :: body) : frameIn (n :: rest) = decodeFrame kind body := by
  cases rest with
  | nil => cases hbody
  | cons first more =>
    obtain ⟨rfl, hmore⟩ := List.cons.inj (List.take_succ_cons.symm.trans hbody)
    have hlength : more.length - 2 = n.toNat := by
      simp only [List.length_cons] at h
      omega
    simp only [frameIn, hlength, hmore]

/-- Settles O8: a byte begins a frame, joins it, or completes it, and a whole frame is a command, a frame of no known
kind or a rejection. -/
theorem bytesAreAssembled : Obligations.BytesAreAssembled := by
  intro b stop s hquiet
  refine ⟨fun hhunting hb => ?_, fun hhunting hb => ?_, fun damaged hframe hlength => ?_,
    fun bytes damaged n rest hframe hbytes hlow hhigh => ?_⟩
  · have hsame : byteArrives b stop s = s := by
      unfold byteArrives
      rw [hhunting]
      exact if_neg hb
    exact exec_quiet hsame hquiet
  · have hbegun : byteArrives b stop s = { s with link := { s.link with assembler := .inFrame [] !stop } } := by
      unfold byteArrives
      rw [hhunting]
      exact if_pos hb
    exact exec_quiet hbegun hquiet
  · rw [exec_byteReceived, byteArrives_inFrame hframe]
    exact congrArg finish (collectByte_badLength [] _ s hlength)
  · have hcollect : exec (.byteReceived b stop) s = finish (collectByte (n :: rest) (damaged || !stop) s) := by
      rw [exec_byteReceived, byteArrives_inFrame hframe, hbytes]
    rw [hcollect, collectByte_goodLength rest _ s hlow hhigh]
    refine ⟨fun hshort => ?_, fun hwhole hbad => ?_, fun kind body hwhole hgood hbody hcheck => ?_⟩
    · rw [if_pos hshort]
      exact congrArg Host.Outcome.next (takeRequest_quiet hquiet)
    · rw [if_neg (by omega), if_neg]
      · rfl
      · rw [Bool.and_eq_true, checkGood_iff hwhole, Bool.not_eq_true']
        rintro ⟨hgood, hclean⟩
        rcases hbad with hbad | hbad
        · exact absurd (hbad.symm.trans hclean) (by decide)
        · exact hbad hgood
    · have hchecked : (checkGood (n :: rest) && !(damaged || !stop)) = true := by
        rw [Bool.and_eq_true, checkGood_iff hwhole, hbody, hgood]
        exact ⟨hcheck, rfl⟩
      rw [if_neg (by omega), if_pos hchecked, frameIn_eq hwhole hbody]
      refine ⟨fun hkind => ?_, fun i c hi hcommand => ?_⟩
      · rw [hkind]
        rfl
      · rw [hcommand, exec_command hi]
        rfl

end Sys2Proof.Proofs

/-! PROOFS. The payloads a command is written as and read back from (R184, R187): the reader of each payload takes
off what its writer wrote (O10), and the bytes of a frame run its command (O9). -/

namespace Sys2Proof.Proofs
open Sys2Proof Sys2Proof.Machine

/-! ### Readers take off what writers wrote -/

/-- The reader `r` takes the bytes `w` off any payload, and reads `a` in them. -/
def reads {α : Type} (r : Reader α) (w : List Byte) (a : α) : Prop := ∀ rest, r (w ++ rest) = some (a, rest)

theorem reads_byte (b : Byte) : reads Reader.byte [b] b := fun _ => rfl

theorem reads_half (h : Half) : reads Reader.half (writeHalf h) h := fun rest => by
  have hwhole : highByte h ++ lowByte h = h := by
    ext i hi
    simp only [highByte, lowByte, BitVec.getElem_append, BitVec.getElem_extractLsb']
    split
    next => rw [Nat.zero_add, BitVec.getLsbD_eq_getElem hi]
    next hlow => rw [Nat.add_sub_cancel' (Nat.not_lt.mp hlow), BitVec.getLsbD_eq_getElem hi]
  show some (highByte h ++ lowByte h, rest) = some (h, rest)
  rw [hwhole]

theorem reads_flag (b : Bool) : reads Reader.flag (writeFlag b) b := fun rest => by cases b <;> rfl

theorem reads_done {α : Type} (a : α) : reads (Reader.done a) [] a := fun _ => rfl

theorem reads.andThen {α β : Type} {r : Reader α} {f : α → Reader β} {v w : List Byte} {a : α} {b : β}
    (hr : reads r v a) (hf : reads (f a) w b) : reads (Reader.andThen r f) (v ++ w) b := fun rest => by
  simp only [Reader.andThen, List.append_assoc, hr (w ++ rest), hf rest]

/-- Something read with nothing after it. -/
theorem reads.last {α β : Type} {r : Reader α} {f : α → Reader β} {v : List Byte} {a : α} {b : β}
    (hr : reads r v a) (hf : reads (f a) [] b) : reads (Reader.andThen r f) v b := by
  simpa using hr.andThen hf

theorem reads_optional {α : Type} {r : Reader α} {w : α → List Byte} (o : Option α)
    (h : ∀ a, o = some a → reads r (w a) a) : reads (Reader.optional r) (writeOptional w o) o := by
  cases o with
  | none => exact fun _ => rfl
  | some a => exact (reads_flag true).andThen (v := [1#8]) ((h a rfl).last (reads_done (some a)))

theorem reads_optionalByte (o : Option Byte) : reads (Reader.optional Reader.byte) (writeOptional writeByte o) o :=
  reads_optional o fun b _ => reads_byte b

theorem reads_optionalFlag (o : Option Bool) : reads (Reader.optional Reader.flag) (writeOptional writeFlag o) o :=
  reads_optional o fun b _ => reads_flag b

/-- A list is written with its length in one byte, so it is read back when the length fits one. -/
theorem reads_byteList {l : List Byte} (h : l.length < 256) : reads Reader.byteList (writeBytes l) l := by
  have hbytes : reads (Reader.bytes (BitVec.ofNat 8 l.length).toNat) l l := fun rest => by
    have hlength : (BitVec.ofNat 8 l.length).toNat = l.length := by simp [Nat.mod_eq_of_lt h]
    simp [Reader.bytes, hlength]
  exact (reads_byte _).andThen hbytes

theorem reads_optionalList (o : Option (List Byte)) (h : optionListSize o ≤ 250) :
    reads (Reader.optional Reader.byteList) (writeOptional writeBytes o) o :=
  reads_optional o fun l hl => reads_byteList (by simp only [hl, optionListSize] at h; omega)

theorem reads_onlyIf {present : Bool} {o : Option Byte} (h : o.isSome = present) :
    reads (Reader.onlyIf present Reader.byte) o.toList o := by
  subst h
  cases o <;> exact fun _ => rfl

theorem whole_eq_fits {α : Type} {r : Reader α} {w : List Byte} {a : α} (h : reads r w a) :
    Reader.whole r w = .fits a := by
  have hread : r w = some (a, []) := by simpa using h []
  simp only [Reader.whole, hread]

/-! ### The payload of each command -/

theorem reads_noArgs (a : NoArgs) : reads Reader.noArgs (writeNone a) a := (reads_byte 0#8).last (reads_done _)

theorem reads_teamSet {a : TeamSetArgs} (h : a.fitsFrame = true) : reads Reader.teamSet a.write a := by
  refine (reads_byte a.team).andThen ((reads_optionalByte a.state).andThen ?_)
  refine (reads_optional a.tag fun t ht => reads_optionalList t ?_).last (reads_done _)
  simp only [TeamSetArgs.fitsFrame, ht] at h
  have hsize : 2 + optionSize a.state + optionListSize t ≤ 250 := of_decide_eq_true h
  omega

theorem reads_padAssign (a : PadAssignArgs) : reads Reader.padAssign a.write a := by
  have htarget : reads Reader.assignTarget
      (match a.target with | .place team seat => [0#8, team, seat] | .release => [1#8]) a.target := by
    cases a.target <;> exact fun _ => rfl
  exact (reads_byte a.pad).andThen (htarget.last (reads_done _))

theorem reads_lampSet (a : LampSetArgs) : reads Reader.lampSet a.write a := by
  have hpads : reads Reader.lampPads (match a.pads with | .one pad => [0#8, pad] | .all => [1#8]) a.pads := by
    cases a.pads <;> exact fun _ => rfl
  have hchoice : reads Reader.lampChoice
      (match a.choice with | .lamp state => [0#8, state] | .clear => [1#8]) a.choice := by
    cases a.choice <;> exact fun _ => rfl
  exact hpads.andThen (hchoice.last (reads_done _))

theorem reads_cueLoad {a : CueLoadArgs} (h : a.fitsFrame = true) : reads Reader.cueLoad a.write a := by
  have hlist : optionListSize a.record.eligible ≤ 250 := by
    have hsize := of_decide_eq_true h
    simp only [Config.maxPayload] at hsize
    omega
  have hrecord : reads Reader.cueFields _ a.record := (reads_byte a.record.kind).andThen <| (reads_half a.record.question).andThen <|
    (reads_half a.record.correctPoints).andThen <| (reads_half a.record.wrongPoints).andThen <|
    (reads_half a.record.roundWindow).andThen <| (reads_optionalList a.record.eligible hlist).andThen <|
    (reads_optionalByte a.record.answerWindow).andThen <| (reads_optionalFlag a.record.rebound).andThen <|
    (reads_optionalByte a.record.expiryVerdict).andThen <| (reads_optionalByte a.record.streakBonus).andThen <|
    (reads_optionalByte a.record.optionCount).andThen <| (reads_optionalByte a.record.correctOption).andThen <|
    (reads_optionalByte a.record.changePolicy).andThen <| (reads_optionalByte a.record.speedPlaces).andThen <|
    (reads_optionalByte a.record.speedPoints).last (reads_done a.record)
  have hload : reads Reader.cueLoad _ a := (reads_byte a.slot).andThen (hrecord.last (reads_done a))
  simpa only [CueLoadArgs.write, List.append_assoc, List.cons_append, List.nil_append] using hload

theorem reads_eraseTarget (a : EraseTarget) : reads Reader.eraseTarget a.write a := by
  cases a <;> exact fun _ => rfl

theorem reads_cueQuery (a : CueQuery) : reads Reader.cueQuery a.write a := by
  cases a <;> exact fun _ => rfl

theorem reads_judge (a : JudgeArgs) : reads Reader.judge a.write a := fun _ => rfl

theorem reads_scoreAdjust (a : ScoreAdjustArgs) : reads Reader.scoreAdjust a.write a := by
  have hchange : reads Reader.adjustment
      (match a.change with | .delta v => 0#8 :: writeHalf v | .set v => 1#8 :: writeHalf v) a.change := by
    cases a.change with
    | delta v => exact (reads_byte 0#8).andThen ((reads_half v).last (reads_done _))
    | set v => exact (reads_byte 1#8).andThen ((reads_half v).last (reads_done _))
  exact (reads_byte a.team).andThen (hchange.last (reads_done _))

theorem reads_routeSet {a : RouteSetArgs} (h : a.fitsFrame = true) : reads Reader.routeSet a.write a := by
  simp only [RouteSetArgs.fitsFrame, Bool.and_eq_true, beq_iff_eq] at h
  obtain ⟨⟨hparameter, hcondition⟩, hfits⟩ := h
  have hsize : 7 + optionSize a.parameter + optionSize a.condition + optionListSize a.text ≤ 250 :=
    of_decide_eq_true hfits
  have hroute : reads Reader.routeSet _ a := (reads_byte a.route).andThen <| (reads_byte a.source).andThen <|
    (reads_onlyIf hparameter).andThen <| (reads_byte a.panel).andThen <| (reads_byte a.firstCell).andThen <|
    (reads_byte a.width).andThen <| (reads_byte a.align).andThen <| (reads_byte a.fill).andThen <|
    (reads_byte a.look).andThen <| (reads_byte a.layer).andThen <| (reads_onlyIf hcondition).andThen <|
    (reads_optionalList a.text (by omega)).last (reads_done a)
  simpa only [RouteSetArgs.write, List.append_assoc, List.cons_append, List.nil_append] using hroute

theorem reads_routeTarget (a : RouteTarget) : reads Reader.routeTarget a.write a := by
  cases a <;> exact fun _ => rfl

theorem reads_noticeTarget (a : NoticeTarget) : reads Reader.noticeTarget a.write a := by
  cases a <;> exact fun _ => rfl

theorem reads_noticeEnable (a : NoticeEnableArgs) : reads Reader.noticeEnable a.write a :=
  (reads_noticeTarget a.target).andThen ((reads_flag a.on).last (reads_done _))

/-! ### Every command -/

/-- What a payload was written as is read back as that payload. -/
theorem whole_of_write {α : Type} {r : Reader α} {w : α → List Byte} {p : Payload α} {payload : List Byte}
    (hp : p.write w = some payload) (h : ∀ a, p = .fits a → reads r (w a) a) : Reader.whole r payload = p := by
  cases p with
  | misfit => cases hp
  | fits a =>
    obtain rfl := Option.some.inj hp
    exact whole_eq_fits (h a rfl)

/-- Settles O10: the reader of each command takes off what its writer wrote. -/
theorem decodeOfEncodeIsTheCommand : Obligations.DecodeOfEncodeIsTheCommand := by
  intro i c payload hwell hi hp
  cases i with
  | teamSet p =>
    obtain rfl := Option.some.inj hi
    exact congrArg (Frame.command ∘ Command.teamSet)
      (whole_of_write hp fun a ha => reads_teamSet (by simpa [ha, Instr.wellFormed, Payload.fitsFrame] using hwell))
  | cueLoad p =>
    obtain rfl := Option.some.inj hi
    exact congrArg (Frame.command ∘ Command.cueLoad)
      (whole_of_write hp fun a ha => reads_cueLoad (by simpa [ha, Instr.wellFormed, Payload.fitsFrame] using hwell))
  | routeSet p =>
    obtain rfl := Option.some.inj hi
    exact congrArg (Frame.command ∘ Command.routeSet)
      (whole_of_write hp fun a ha => reads_routeSet (by simpa [ha, Instr.wellFormed, Payload.fitsFrame] using hwell))
  | padAssign p =>
    obtain rfl := Option.some.inj hi
    exact congrArg (Frame.command ∘ Command.padAssign) (whole_of_write hp fun a _ => reads_padAssign a)
  | layoutSet p | padForget p | queryTeam p | queryPad p | deskSpeed p | captureSet p | cuePoint p | claimDrop p
  | scoreLock p | silenceArm p =>
    obtain rfl := Option.some.inj hi
    rw [← whole_of_write hp fun a _ => reads_byte a]
    rfl
  | lampSet p =>
    obtain rfl := Option.some.inj hi
    exact congrArg (Frame.command ∘ Command.lampSet) (whole_of_write hp fun a _ => reads_lampSet a)
  | queryDesk p | queryClock p | roundOpen p | callTime p | roundAbort p | roundClear p | queryRound p | queryQueue p
  | queryBallot p | scoreUnlock p | queryAwards p | roundSuspend p | roundResume p | queryStack p | boardScan p
  | boardPublish p | identify p | keepalive p | restart p =>
    obtain rfl := Option.some.inj hi
    rw [← whole_of_write hp fun a _ => reads_noArgs a]
    rfl
  | cueErase p =>
    obtain rfl := Option.some.inj hi
    exact congrArg (Frame.command ∘ Command.cueErase) (whole_of_write hp fun a _ => reads_eraseTarget a)
  | queryCue p =>
    obtain rfl := Option.some.inj hi
    exact congrArg (Frame.command ∘ Command.queryCue) (whole_of_write hp fun a _ => reads_cueQuery a)
  | roundArm p | reveal p | queryBoard p =>
    obtain rfl := Option.some.inj hi
    rw [← whole_of_write hp fun a _ => reads_optionalByte a]
    rfl
  | judge p =>
    obtain rfl := Option.some.inj hi
    exact congrArg (Frame.command ∘ Command.judge) (whole_of_write hp fun a _ => reads_judge a)
  | scoreAdjust p =>
    obtain rfl := Option.some.inj hi
    exact congrArg (Frame.command ∘ Command.scoreAdjust) (whole_of_write hp fun a _ => reads_scoreAdjust a)
  | boardSet p =>
    obtain rfl := Option.some.inj hi
    exact congrArg (Frame.command ∘ Command.boardSet) (whole_of_write hp fun a _ => reads_flag a)
  | routeClear p =>
    obtain rfl := Option.some.inj hi
    exact congrArg (Frame.command ∘ Command.routeClear) (whole_of_write hp fun a _ => reads_routeTarget a)
  | noticeEnable p =>
    obtain rfl := Option.some.inj hi
    exact congrArg (Frame.command ∘ Command.noticeEnable) (whole_of_write hp fun a _ => reads_noticeEnable a)
  | noticeClear p =>
    obtain rfl := Option.some.inj hi
    exact congrArg (Frame.command ∘ Command.noticeClear) (whole_of_write hp fun a _ => reads_noticeTarget a)
  | _ => cases hi

end Sys2Proof.Proofs

/-! PROOFS. The bytes of a frame, received one by one, run its command (R182 to R184, O9). -/

namespace Sys2Proof.Proofs
open Sys2Proof Sys2Proof.Machine

open Laws.FrameSize in
/-- The payload of a well-formed command row fits a frame. -/
theorem payload_length {i : Instr} {c : Command} {payload : List Byte} (hwell : i.wellFormed = true)
    (hi : i.frameCommand = some c) (hp : c.payload = some payload) : 1 ≤ payload.length ∧ payload.length ≤ 250 := by
  cases i with
  | teamSet p => exact teamSet p c payload hwell hi hp
  | padAssign p => exact padAssign p c payload hwell hi hp
  | layoutSet p => exact layoutSet p c payload hwell hi hp
  | padForget p => exact padForget p c payload hwell hi hp
  | queryTeam p => exact queryTeam p c payload hwell hi hp
  | queryPad p => exact queryPad p c payload hwell hi hp
  | deskSpeed p => exact deskSpeed p c payload hwell hi hp
  | lampSet p => exact lampSet p c payload hwell hi hp
  | queryDesk p => exact queryDesk p c payload hwell hi hp
  | captureSet p => exact captureSet p c payload hwell hi hp
  | queryClock p => exact queryClock p c payload hwell hi hp
  | cueLoad p => exact cueLoad p c payload hwell hi hp
  | cueErase p => exact cueErase p c payload hwell hi hp
  | cuePoint p => exact cuePoint p c payload hwell hi hp
  | queryCue p => exact queryCue p c payload hwell hi hp
  | roundArm p => exact roundArm p c payload hwell hi hp
  | roundOpen p => exact roundOpen p c payload hwell hi hp
  | callTime p => exact callTime p c payload hwell hi hp
  | roundAbort p => exact roundAbort p c payload hwell hi hp
  | roundClear p => exact roundClear p c payload hwell hi hp
  | queryRound p => exact queryRound p c payload hwell hi hp
  | judge p => exact judge p c payload hwell hi hp
  | claimDrop p => exact claimDrop p c payload hwell hi hp
  | queryQueue p => exact queryQueue p c payload hwell hi hp
  | reveal p => exact reveal p c payload hwell hi hp
  | queryBallot p => exact queryBallot p c payload hwell hi hp
  | scoreAdjust p => exact scoreAdjust p c payload hwell hi hp
  | scoreLock p => exact scoreLock p c payload hwell hi hp
  | scoreUnlock p => exact scoreUnlock p c payload hwell hi hp
  | queryAwards p => exact queryAwards p c payload hwell hi hp
  | roundSuspend p => exact roundSuspend p c payload hwell hi hp
  | roundResume p => exact roundResume p c payload hwell hi hp
  | silenceArm p => exact silenceArm p c payload hwell hi hp
  | queryStack p => exact queryStack p c payload hwell hi hp
  | boardScan p => exact boardScan p c payload hwell hi hp
  | boardPublish p => exact boardPublish p c payload hwell hi hp
  | boardSet p => exact boardSet p c payload hwell hi hp
  | routeSet p => exact routeSet p c payload hwell hi hp
  | routeClear p => exact routeClear p c payload hwell hi hp
  | queryBoard p => exact queryBoard p c payload hwell hi hp
  | identify p => exact identify p c payload hwell hi hp
  | keepalive p => exact keepalive p c payload hwell hi hp
  | restart p => exact restart p c payload hwell hi hp
  | noticeEnable p => exact noticeEnable p c payload hwell hi hp
  | noticeClear p => exact noticeClear p c payload hwell hi hp
  | _ => cases hi

theorem receives_of_next {a : List Byte} {s t : State} (b : List Byte) (h : receives a s = .next t) :
    receives (a ++ b) s = receives b t := by
  induction a generalizing s with
  | nil => rw [List.nil_append, Host.Outcome.next.inj h]
  | cons x xs ih =>
    simp only [receives, exec_eq_next] at h
    simp only [List.cons_append, receives, exec_eq_next]
    exact ih h

theorem receives_one (b : Byte) (s : State) : receives [b] s = exec (.byteReceived b true) s := by
  simp only [receives, exec_eq_next]

/-- Bytes that do not complete the frame are collected. -/
theorem receives_part {n : Byte} (hlow : 1 ≤ n.toNat) (hhigh : n.toNat ≤ 250) (got more rest : List Byte) {s : State}
    (hquiet : s.noRequest) (hframe : s.link.assembler = .inFrame got false) (hbytes : got ++ more = n :: rest)
    (hshort : rest.length < n.toNat + 3) :
    receives more s = .next { s with link := { s.link with assembler := .inFrame (n :: rest) false } } := by
  induction more generalizing got s with
  | nil =>
    rw [List.append_nil] at hbytes
    rw [← hbytes, ← hframe]
    rfl
  | cons b bs ih =>
    have hone : ∃ first, got ++ [b] = n :: first ∧ first.length ≤ rest.length := by
      cases got with
      | nil => exact ⟨[], by simp [(List.cons.inj hbytes).1], Nat.zero_le _⟩
      | cons x xs =>
        obtain ⟨rfl, hrest⟩ := List.cons.inj hbytes
        exact ⟨xs ++ [b], rfl, by simp [← hrest]⟩
    obtain ⟨first, hfirst, hlength⟩ := hone
    have hcollect : exec (.byteReceived b true) s
        = .next { s with link := { s.link with assembler := .inFrame (n :: first) false } } :=
      (bytesAreAssembled b true s hquiet).2.2.2 got false n first hframe hfirst hlow hhigh |>.1 (by omega)
    simp only [receives, hcollect]
    exact ih (got ++ [b]) hquiet (by rw [hfirst]) (by rw [List.append_assoc]; exact hbytes)

/-- The assembler is no part of what the frame it completed does. -/
theorem exec_command_assembler {i : Instr} {c : Command} (hi : i.frameCommand = some c) (s : State) (a : Assembler) :
    exec i { s with link := { s.link with assembler := a } } = exec i s := by
  rw [exec_command hi, exec_command hi]
  rfl

/-- Settles O9: the bytes up to the last are collected, and the last completes a frame that decodes to the command. -/
theorem frameBytesRunTheCommand : Obligations.FrameBytesRunTheCommand := by
  intro i c payload s hwell hi hp hhunting hquiet
  obtain ⟨hsome, hfits⟩ := payload_length hwell hi hp
  obtain ⟨n, hn⟩ : ∃ n, n = BitVec.ofNat 8 payload.length := ⟨_, rfl⟩
  have hlength : n.toNat = payload.length := by simp [hn, Nat.mod_eq_of_lt (show payload.length < 256 by omega)]
  obtain ⟨check, hcheck⟩ : ∃ check, check = crc16 (n :: c.code :: payload) := ⟨_, rfl⟩
  have hbegun : receives [startMarker] s = .next { s with link := { s.link with assembler := .inFrame [] false } } := by
    rw [receives_one]
    exact (bytesAreAssembled startMarker true s hquiet).2.1 hhunting rfl
  have hpart := receives_part (s := { s with link := { s.link with assembler := .inFrame [] false } }) (n := n)
    (by omega) (by omega) [] (n :: c.code :: payload ++ [highByte check]) (c.code :: payload ++ [highByte check]) hquiet
    rfl rfl (by simp; omega)
  have hframe : frameBytes c.code payload
      = [startMarker] ++ ((n :: c.code :: payload ++ [highByte check]) ++ [lowByte check]) := by
    simp [frameBytes, ← hn, ← hcheck]
  rw [hframe, receives_of_next _ hbegun, receives_of_next _ hpart, receives_one]
  let t : State := { s with link := { s.link with assembler := .inFrame (n :: c.code :: payload ++ [highByte check]) false } }
  have htake : (c.code :: payload ++ [highByte check, lowByte check]).take (n.toNat + 1) = c.code :: payload :=
    List.take_left' (by rw [hlength]; rfl)
  have hdrop : (c.code :: payload ++ [highByte check, lowByte check]).drop (n.toNat + 1)
      = [highByte check, lowByte check] :=
    List.drop_left' (by rw [hlength]; rfl)
  have hruns := ((bytesAreAssembled (lowByte check) true t hquiet).2.2.2 _ false n
    (c.code :: payload ++ [highByte check, lowByte check]) rfl (by simp) (by omega) (by omega)).2.2 c.code payload
    (by simp; omega) rfl htake (hcheck ▸ hdrop)
  exact (hruns.2 i c hi (decodeOfEncodeIsTheCommand i c payload hwell hi hp)).trans (exec_command_assembler hi s _)

end Sys2Proof.Proofs

/-! PROOFS. How a command completes and an event ends: what it changed, its reply, and the publish it asked for.
The obligations about single commands and events go through these. -/

namespace Sys2Proof.Proofs
open Sys2Proof Sys2Proof.Machine

/-! ### Commands that ask for no publish -/

/-- A command that answers and changes nothing. -/
theorem completes_left {i : Instr} {c : Command} {kind : Byte} {s : State} {a : Answer} (hi : i.frameCommand = some c)
    (hk : c.code = kind) (hs : s.ready) (hrun : runCommand c s.told = (s.told, a)) :
    completes i s kind a [] fun _ => True :=
  completes_same c (exec_command hi s) hk hs hrun

/-- A command that writes the blocks `touched`, and asks for no publish. -/
theorem completes_writes {i : Instr} {c : Command} {kind : Byte} {s u : State} {a : Answer} {touched : List Block}
    {effect : State → Prop} (hi : i.frameCommand = some c) (hk : c.code = kind) (hs : s.ready)
    (hrun : runCommand c s.told = (u, a)) (hframe : unchangedBut touched s.told u) (hlink : .link ∉ touched)
    (hsilence : .silence ∉ touched) (hrequest : u.board.request = false)
    (heffect : ∀ t, unchangedBut [.link] u t → effect t) : completes i s kind a touched effect := by
  refine completes_quiet c (exec_command hi s) hk hs hrun (hframe .link hlink) (hframe .silence hsilence) hrequest
    (unchangedBut_of_told hframe) (heffect _ fun b hb => ?_)
  cases b with
  | link => exact absurd (.head _) hb
  | _ => rfl

/-! ### The publish that is asked for -/

/-- The state `t` is `u` with the publish taken that the change from `s` to `u` asked for by itself (R150). -/
structure PublishTaken (s u t : State) : Prop where
  ends : endsWith u.notices s t
  waiting : ∀ k, u.notices.waiting.get k = true → t.notices.waiting.get k = true
  same : unchangedBut [.link, .board, .notices] u t

theorem publishTaken {s u : State} (hquiet : s.noRequest) (hboard : u.board = s.board.triggered) :
    PublishTaken s u (takeRequest u) where
  ends := ends_take hquiet hboard rfl
  waiting := takeRequest_get u
  same b hb := takeRequest_same u b (fun h => hb (by simp [h])) (fun h => hb (by simp [h]))

theorem PublishTaken.engine {s u t : State} (h : PublishTaken s u t) : t.engine = u.engine := h.same .engine (by decide)
theorem PublishTaken.desk {s u t : State} (h : PublishTaken s u t) : t.desk = u.desk := h.same .desk (by decide)
theorem PublishTaken.cues {s u t : State} (h : PublishTaken s u t) : t.cues = u.cues := h.same .cues (by decide)
theorem PublishTaken.stack {s u t : State} (h : PublishTaken s u t) : t.stack = u.stack := h.same .stack (by decide)
theorem PublishTaken.scores {s u t : State} (h : PublishTaken s u t) : t.scores = u.scores := h.same .scores (by decide)
theorem PublishTaken.silence {s u t : State} (h : PublishTaken s u t) : t.silence = u.silence :=
  h.same .silence (by decide)

theorem PublishTaken.roster {s u t : State} (h : PublishTaken s u t) : t.roster = u.roster := by
  have hteams : t.roster.teams = u.roster.teams := h.same .teams (by decide)
  have hpads : t.roster.pads = u.roster.pads := h.same .pads (by decide)
  have hlayout : t.roster.layout = u.roster.layout := h.same .layout (by decide)
  cases ht : t.roster
  cases hu : u.roster
  simp_all

theorem PublishTaken.signals {s u t : State} {ks : List NoticeKind} (h : PublishTaken s u t)
    (hnotices : u.notices = s.notices.withPending ks) : signals ks s t := by
  refine ⟨fun k hk => h.waiting k ?_, hnotices ▸ h.ends⟩
  rw [hnotices, withPending_get, decide_eq_true hk, Bool.true_or]

/-- What a command writes, when it asks for a publish by itself. -/
theorem completes_publishing {i : Instr} {c : Command} {kind : Byte} {s u : State} {a : Answer} {touched : List Block}
    {effect : State → Prop} (hi : i.frameCommand = some c) (hk : c.code = kind) (hs : s.ready)
    (hrun : runCommand c s.told = (u, a)) (hboard : u.board = s.board.triggered)
    (hframe : unchangedBut touched s.told u) (hlink : .link ∉ touched) (hsilence : .silence ∉ touched)
    (hrenders : .board ∈ touched ∧ .notices ∈ touched) (heffect : ∀ t, PublishTaken s u t → effect t) :
    completes i s kind a touched effect := by
  subst hk
  obtain ⟨-, -, -, -, hquiet⟩ := id hs
  let v := enqueue (.reply { kind := c.code, answer := a }) u
  have htaken : PublishTaken s v (takeRequest v) := publishTaken hquiet hboard
  have hlinked : v.link = s.link.joined (.reply { kind := c.code, answer := a }) :=
    enqueue_link _ _ _ (hframe .link hlink)
  refine ⟨takeRequest v, ?_, ⟨?_, ?_⟩, fun b hb => ?_, heffect _ ⟨htaken.ends, htaken.waiting, fun b hb => ?_⟩⟩
  · rw [exec_command hi, frameArrives_ready c hs, hrun]
  · exact (show (takeRequest v).link = v.link by simp).trans hlinked
  · exact htaken.silence.trans (hframe .silence hsilence)
  · have htold : b.same s u := unchangedBut_of_told hframe b hb
    have hlast : b.same v (takeRequest v) := takeRequest_same v b (fun h => hb (by simp [h, hrenders.1]))
      (fun h => hb (by simp [h, hrenders.2]))
    cases b with
    | link => exact absurd (by simp) hb
    | _ => exact hlast.trans htold
  · have hlast : b.same v (takeRequest v) := htaken.same b hb
    cases b with
    | link => exact absurd (by simp) hb
    | _ => exact hlast

/-- What an event writes, when it asks for a publish by itself. -/
theorem happens_publishing {i : Instr} {s u : State} {touched : List Block} {effect : State → Prop}
    (hi : effectOf i s = u) (hquiet : s.noRequest) (hboard : u.board = s.board.triggered)
    (hframe : unchangedBut touched s u) (hrenders : .board ∈ touched ∧ .notices ∈ touched)
    (heffect : ∀ t, PublishTaken s u t → effect t) : happens i s touched effect := by
  refine ⟨takeRequest u, by rw [exec_eq_next, hi], fun b hb => ?_, heffect _ (publishTaken hquiet hboard)⟩
  have hframed : b.same s u := hframe b hb
  have hlast : b.same u (takeRequest u) := takeRequest_same u b (fun h => hb (h ▸ hrenders.1))
    (fun h => hb (h ▸ hrenders.2))
  cases b <;> exact hlast.trans hframed

/-- What an event writes, when it asks for no publish. -/
theorem happens_writes {i : Instr} {s u : State} {touched : List Block} {effect : State → Prop}
    (hi : effectOf i s = u) (hrequest : u.board.request = false) (hframe : unchangedBut touched s u)
    (heffect : effect u) : happens i s touched effect :=
  happens_quiet (by rw [exec_eq_next, hi, finish]) hrequest hframe heffect

end Sys2Proof.Proofs

/-! PROOFS. RESTART: its answer, and the restart that takes effect when the reply is out (R197, R209, R210, O12). -/

namespace Sys2Proof.Proofs
open Sys2Proof Sys2Proof.Machine

theorem restartDue_iff (l : LinkPort) :
    l.restartDue = true ↔ l.restarting = true ∧ l.queue.length ≤ 1 ∧ ∀ n, l.transmitter ≠ .notice n := by
  cases h : l.transmitter <;> simp [LinkPort.restartDue, h]

/-- The polls that go on depend on the pointer they go on from alone. -/
theorem pollsGoOn_congr {rest : List PadAddr} {s u t : State} (hpointer : u.desk.pointer = s.desk.pointer)
    (h : pollsGoOn rest u t) : pollsGoOn rest s t := by
  unfold pollsGoOn probeSent at h ⊢
  rw [← hpointer]
  exact h

theorem padsWith_of_presence {s t : State} (h : ∀ a, (t.pad a).presence = (s.pad a).presence) (p : PadPresence) :
    t.padsWith p = s.padsWith p := by
  simp only [State.padsWith, h]

/-- What a restart leaves in the blocks it writes. -/
theorem pad_restartBlocks (s : State) (a : PadAddr) :
    (restartBlocks s).pad a = { s.pad a with lagging := false, candidate := none } := look_mapTable _ _ a

theorem panel_restartBlocks (s : State) (p : PanelId) :
    (restartBlocks s).panel p = { s.panel p with shown := none } := look_mapTable _ _ p

theorem waiting_restartBlocks (s : State) (k : NoticeKind) :
    (restartBlocks s).notices.waiting.get k = decide (k = .link) := by
  cases k <;> rfl

theorem teams_releaseLock (s : State) :
    (s.lockHeld = false → (releaseLock s).roster.teams = s.roster.teams)
      ∧ (s.lockHeld = true → (releaseLock s).roster.teams = (applyAwards s.scores.pendingAwards s).roster.teams) := by
  unfold releaseLock
  constructor
  · intro h
    rw [if_neg (by simp [h])]
  · intro h
    rw [if_pos h]
    simp

/-- The line after a restart waits for the answer of the poll that is out, or begins a ROAM cycle at once. -/
theorem restartLine_desk (s v : State) (hv : v = restartBlocks (releaseLock s)) :
    (restartLine s.desk.stage.pollOnLine v).desk.switch = none
      ∧ (restartLine s.desk.stage.pollOnLine v).desk.cycleKind = .roam
      ∧ (s.desk.stage.pollOnLine = none →
          pollsGoOn (s.padsWith .present) s (restartLine s.desk.stage.pollOnLine v))
      ∧ ∀ p, s.desk.stage.pollOnLine = some p → (restartLine s.desk.stage.pollOnLine v).desk.stage = .draining p
          ∧ (restartLine s.desk.stage.pollOnLine v).desk.pointer = s.desk.pointer := by
  have hpointer : v.desk.pointer = s.desk.pointer := by simp [hv, restartBlocks, DeskLine.afterRestart]
  have hpads : v.padsWith .present = s.padsWith .present := padsWith_of_presence (fun a => by
    rw [hv, pad_restartBlocks]
    simp [State.pad]) _
  cases honLine : s.desk.stage.pollOnLine with
  | some p =>
    rw [restartLine_waits]
    refine ⟨by rw [hv]; rfl, by rw [hv]; rfl, nofun, fun q hq => ?_⟩
    obtain rfl := Option.some.inj hq
    exact ⟨rfl, hpointer⟩
  | none =>
    obtain ⟨hkind, -, -, -, -, hpolls⟩ := restartLine_begun v
    have hneed : v.sprintNeeded = false := by rw [hv]; rfl
    rw [if_neg (by simp [hneed])] at hkind
    refine ⟨hkind.2, hkind.1, fun _ => ?_, nofun⟩
    rw [← hpads]
    exact pollsGoOn_congr hpointer hpolls

theorem restartValues_of_due {s v t : State} (hv : v = restartBlocks (releaseLock s))
    (ht : t = restartLine s.desk.stage.pollOnLine v) : restartValues s t := by
  obtain ⟨hfree, hheld⟩ := teams_releaseLock s
  obtain ⟨hswitch, hkind, hpolls, hdrains⟩ := restartLine_desk s v hv
  rw [← ht] at hswitch hkind hpolls hdrains
  have hroster : t.roster = v.roster := by simp [ht]
  have hboard : t.board = v.board := by simp [ht]
  have hnotices : t.notices = v.notices := by simp [ht]
  have hpad : ∀ a, t.pad a = { s.pad a with lagging := false, candidate := none } := by
    intro a
    rw [State.pad, hroster, ← State.pad, hv, pad_restartBlocks]
    simp [State.pad]
  have hpanel : ∀ p, t.panel p = { s.panel p with shown := none } := by
    intro p
    rw [State.panel, hboard, ← State.panel, hv, panel_restartBlocks]
    simp [State.panel]
  have hwaiting : ∀ k, t.notices.waiting.get k = decide (k = .link) := by
    intro k
    rw [hnotices, hv, waiting_restartBlocks]
  have hteams : t.roster.teams = (releaseLock s).roster.teams := by
    rw [hroster, hv]
    exact rfl
  refine ⟨fun h => hteams.trans (hfree h), fun h => hteams.trans (hheld h), hpad, ?_, ?_, ?_, ?_, ?_, hswitch, hkind,
    ?_, ?_, hpolls, hdrains, ?_, ?_, ?_, ?_, ?_, ?_, hpanel, ?_, ?_, ?_, ?_, ?_, ?_, hwaiting, ?_, ?_, ?_, ?_, ?_, ?_,
    ?_, ?_⟩
  all_goals simp [ht, hv, restartBlocks, DeskLine.afterRestart, DeskLine.reset, Board.afterRestart, Board.reset,
    NoticeUnit.afterRestart, NoticeUnit.reset, LinkPort.afterRestart, LinkPort.reset, ScoreUnit.reset]

theorem restartTakesEffect_whenDue : restartTakesEffectWhenDue := by
  intro s hquiet
  constructor
  · intro hdue
    have heffect : restartTakesEffect s = restartLine s.desk.stage.pollOnLine (restartBlocks (releaseLock s)) :=
      if_pos ((restartDue_iff _).mpr hdue)
    refine ⟨_, exec_quiet (i := .restartEffect) heffect ?_, restartValues_of_due rfl rfl⟩
    simp [restartBlocks, Board.afterRestart, Board.reset]
  · intro hnotDue
    refine exec_quiet (i := .restartEffect) (if_neg fun hdue => ?_) hquiet
    obtain ⟨hrestarting, hlength, hnotice⟩ := (restartDue_iff _).mp hdue
    rcases hnotDue with h | h | ⟨n, h⟩
    · exact absurd (h.symm.trans hrestarting) (by decide)
    · omega
    · exact hnotice n h

theorem restart_isAnsweredAndWaits : restartIsAnsweredAndWaits := by
  intro s hs
  obtain ⟨-, -, -, -, hquiet⟩ := id hs
  refine ⟨enqueue (.reply { kind := 0x2B#8, answer := ok [] })
    { s.told with link := { s.told.link with restarting := true } }, ?_, rfl, rfl, fun b hb => ?_⟩
  · rw [exec_command rfl, frameArrives_ready _ hs]
    exact congrArg Host.Outcome.next (takeRequest_quiet hquiet)
  · cases b with
    | link => exact absurd (.head _) hb
    | silence => exact absurd (.tail _ (.head _)) hb
    | _ => rfl

/-- Settles O12: RESTART is answered and waits, and takes effect when its reply is all that is left to send. -/
theorem restartWaitsThenTakesEffect : Obligations.RestartWaitsThenTakesEffect :=
  ⟨restartTakesEffect_whenDue, restart_isAnsweredAndWaits⟩

end Sys2Proof.Proofs

/-! PROOFS. Notices: which one begins, what it carries and empties, and how it ends (R198 to R205, O13); and the two
commands about the flags of the kinds (R202, R206, O14). -/

namespace Sys2Proof.Proofs
open Sys2Proof Sys2Proof.Machine

/-! ### Discarding what is pending of a kind -/

theorem discardPending_unchangedBut (k : NoticeKind) (s : State) :
    unchangedBut (.notices :: keeperOf k) s (discardPending k s) := by
  intro b hb
  cases k <;> cases b <;> first | rfl | exact absurd (by decide) hb

theorem discardPending_waiting (k : NoticeKind) (s : State) :
    (discardPending k s).notices.waiting = s.notices.waiting.put k false := by
  cases k <;> rfl

theorem discardPending_enabled (k : NoticeKind) (s : State) :
    (discardPending k s).notices.enabled = s.notices.enabled := by
  cases k <;> rfl

theorem discardPending_request (k : NoticeKind) (s : State) :
    (discardPending k s).board.request = s.board.request := by
  cases k <;> rfl

theorem discardPending_linkKept {k : NoticeKind} (hk : k ≠ .link) (s : State) : linkKept s (discardPending k s) := by
  cases k <;> first | exact absurd rfl hk | exact ⟨rfl, rfl, rfl⟩

/-- What a kind keeps, but for its flags, is the part of the state that its discard empties. -/
def sameKept (k : NoticeKind) (s t : State) : Prop :=
  match k with
  | .pad => t.desk = s.desk
  | .score => t.scores = s.scores
  | .cue => t.cues = s.cues
  | .board => t.board = s.board
  | .link => linkKept s t
  | .hold | .floor | .round | .queue | .lock => True

theorem keptEmptied_self (k : NoticeKind) (s : State) : keptEmptied k s (discardPending k s) := by
  cases k <;> first | rfl | exact ⟨rfl, rfl, rfl⟩ | trivial

theorem sameKept_discardPending {j k : NoticeKind} (h : j ≠ k) (s : State) : sameKept k s (discardPending j s) := by
  cases k with
  | hold | floor | round | queue | lock => trivial
  | link => exact discardPending_linkKept h s
  | pad | score | cue | board => cases j <;> first | rfl | exact absurd rfl h

theorem keptEmptied_of_same {k : NoticeKind} {s t u : State} (h : keptEmptied k s t) (hsame : sameKept k t u) :
    keptEmptied k s u := by
  cases k with
  | hold | floor | round | queue | lock => trivial
  | link => exact ⟨hsame.1.trans h.1, hsame.2.1.trans h.2.1, hsame.2.2.trans h.2.2⟩
  | pad | score | cue | board => exact Eq.trans hsame h

/-- What is emptied stays emptied, whatever is discarded after. -/
theorem keptEmptied_discard {k : NoticeKind} {s t : State} (h : keptEmptied k s t) (j : NoticeKind) :
    keptEmptied k s (discardPending j t) := by
  by_cases hjk : j = k
  · subst hjk
    cases j with
    | hold | floor | round | queue | lock => trivial
    | link => exact ⟨rfl, rfl, rfl⟩
    | pad =>
      have ht : t.desk = { s.desk with changed := [] } := h
      simp [keptEmptied, discardPending, emptyKept, ht]
    | score =>
      have ht : t.scores = { s.scores with changed := [] } := h
      simp [keptEmptied, discardPending, emptyKept, ht]
    | cue =>
      have ht : t.cues = { s.cues with wrapped := [] } := h
      simp [keptEmptied, discardPending, emptyKept, ht]
    | board =>
      have ht : t.board = { s.board with completed := 0 } := h
      simp [keptEmptied, discardPending, emptyKept, ht]
  · exact keptEmptied_of_same h (sameKept_discardPending hjk t)

/-- Emptying after a discard is emptying. -/
theorem keptEmptied_after {j k : NoticeKind} {s t : State} (h : keptEmptied k (discardPending j s) t) :
    keptEmptied k s t := by
  cases k with
  | hold | floor | round | queue | lock | link => exact h
  | pad | score | cue | board => cases j <;> exact h

/-! ### Discarding and enabling several kinds -/

theorem discardAll_keptEmptied (ks : List NoticeKind) {k : NoticeKind} {s t : State} (h : keptEmptied k s t) :
    keptEmptied k s (discardAll ks t) := by
  induction ks generalizing t with
  | nil => exact h
  | cons j js ih => exact ih (keptEmptied_discard h j)

theorem discardAll_empties {ks : List NoticeKind} {k : NoticeKind} (hk : k ∈ ks) (s : State) :
    keptEmptied k s (discardAll ks s) := by
  induction ks generalizing s with
  | nil => cases hk
  | cons j js ih =>
    rcases List.mem_cons.mp hk with rfl | hjs
    · exact discardAll_keptEmptied js (keptEmptied_self k s)
    · exact keptEmptied_after (ih hjs (discardPending j s))

theorem discardAll_unchangedBut (ks : List NoticeKind) (s : State) :
    unchangedBut (.notices :: ks.flatMap keeperOf) s (discardAll ks s) := by
  induction ks generalizing s with
  | nil => exact fun b _ => by cases b <;> rfl
  | cons j js ih =>
    intro b hb
    have hfirst : b.same s (discardPending j s) := discardPending_unchangedBut j s b fun h => hb (by
      rcases List.mem_cons.mp h with rfl | h <;> simp_all)
    have hrest : b.same (discardPending j s) (discardAll js (discardPending j s)) := ih _ b fun h => hb (by
      rcases List.mem_cons.mp h with rfl | h <;> simp_all)
    cases b <;> exact hrest.trans hfirst

theorem discardAll_waiting (ks : List NoticeKind) (s : State) (k : NoticeKind) :
    (discardAll ks s).notices.waiting.get k = (decide (k ∉ ks) && s.notices.waiting.get k) := by
  induction ks generalizing s with
  | nil => simp [discardAll]
  | cons j js ih =>
    rw [discardAll, ih, discardPending_waiting, put_get]
    by_cases hjk : j = k
    · simp [hjk]
    · simp [hjk, Ne.symm hjk]

theorem discardAll_enabled (ks : List NoticeKind) (s : State) :
    (discardAll ks s).notices.enabled = s.notices.enabled := by
  induction ks generalizing s with
  | nil => rfl
  | cons j js ih => rw [discardAll, ih, discardPending_enabled]

theorem discardAll_request (ks : List NoticeKind) (s : State) :
    (discardAll ks s).board.request = s.board.request := by
  induction ks generalizing s with
  | nil => rfl
  | cons j js ih => rw [discardAll, ih, discardPending_request]

theorem linkKept_trans {s t u : State} (h : linkKept s t) (h' : linkKept t u) : linkKept s u :=
  ⟨h'.1.trans h.1, h'.2.1.trans h.2.1, h'.2.2.trans h.2.2⟩

theorem discardAll_linkKept {ks : List NoticeKind} (h : .link ∉ ks) (s : State) : linkKept s (discardAll ks s) := by
  induction ks generalizing s with
  | nil => exact ⟨rfl, rfl, rfl⟩
  | cons j js ih =>
    rw [List.mem_cons, not_or] at h
    exact linkKept_trans (discardPending_linkKept (Ne.symm h.1) s) (ih h.2 _)

theorem enableAll_eq (b : Bool) (ks : List NoticeKind) (s : State) :
    enableAll b ks s = { s with notices := { s.notices with
      enabled := ks.foldl (fun f k => f.put k b) s.notices.enabled } } := by
  induction ks generalizing s with
  | nil => rfl
  | cons j js ih => rw [enableAll, ih]; rfl

theorem foldl_put_get (b : Bool) (ks : List NoticeKind) (f : NoticeFlags) (k : NoticeKind) :
    (ks.foldl (fun f k => f.put k b) f).get k = if k ∈ ks then b else f.get k := by
  induction ks generalizing f with
  | nil => simp
  | cons j js ih =>
    rw [List.foldl_cons, ih, put_get]
    by_cases hjk : j = k
    · simp [hjk]
    · simp [hjk, Ne.symm hjk]

/-! ### A notice begins and ends (O13) -/

/-- The kind sent first is the eligible one of the lowest code (R200). -/
theorem next_eq_some {n : NoticeUnit} {k : NoticeKind} (helig : n.eligible k = true)
    (hfirst : ∀ j : NoticeKind, j.code.toNat < k.code.toNat → n.eligible j = false) : n.next = some k := by
  have hsplit : NoticeKind.all = (NoticeKind.all.filter fun j => decide (j.code.toNat < k.code.toNat))
      ++ k :: NoticeKind.all.filter fun j => decide (k.code.toNat < j.code.toNat) := by
    cases k <;> decide
  refine List.find?_eq_some_iff_append.mpr ⟨helig, _, _, hsplit, fun j hj => ?_⟩
  rw [hfirst j (of_decide_eq_true (List.mem_filter.mp hj).2)]
  rfl

theorem next_eq_none {n : NoticeUnit} (h : ∀ k, n.eligible k = false) : n.next = none :=
  List.find?_eq_none.mpr fun k _ => by simp [h k]

theorem free_iff (l : LinkPort) :
    l.free = true ↔ l.queue = [] ∧ l.held = none ∧ l.transmitter = .idle ∧ l.restarting = false := by
  simp [LinkPort.free, and_assoc]

theorem noticeBegins_free {k : NoticeKind} {s : State} (hnext : s.notices.next = some k) (hfree : s.link.free = true) :
    noticeBegins s = beginNotice k s := by
  simp only [noticeBegins, hnext, hfree, if_true]

theorem noticeBegins_waits {s : State} (h : s.notices.next = none ∨ s.link.free = false) : noticeBegins s = s := by
  unfold noticeBegins
  split
  next k hnext =>
    have hbusy : s.link.free = false := h.resolve_left (by simp [hnext])
    rw [if_neg (by simp [hbusy])]
  next => rfl

theorem noticeEnds_sending {s : State} {n : Notice} (h : s.link.transmitter = .notice n) :
    noticeEnds s = nextEntry s := by
  simp only [noticeEnds, h]

theorem noticeEnds_notSending {s : State} (h : ∀ n, s.link.transmitter ≠ .notice n) : noticeEnds s = s := by
  unfold noticeEnds
  split
  next n hn => exact absurd hn (h n)
  all_goals rfl

theorem beginNotice_unchangedBut (k : NoticeKind) (s : State) :
    unchangedBut (.link :: .notices :: keeperOf k) s (beginNotice k s) := by
  intro b hb
  have hdiscard : b.same s (discardPending k s) :=
    discardPending_unchangedBut k s b fun h => hb (List.mem_cons_of_mem _ h)
  cases b with
  | link => exact absurd (.head _) hb
  | _ => exact hdiscard

theorem notices_goOut : noticesGoOut := by
  intro s hquiet
  refine ⟨fun k helig hfirst hqueue hheld hidle hrestart => ?_, fun hwaits => ?_, fun n hn => ?_, fun hn => ?_⟩
  · have hbegins : effectOf .noticeBegin s = beginNotice k s :=
      noticeBegins_free (next_eq_some helig hfirst) ((free_iff _).mpr ⟨hqueue, hheld, hidle, hrestart⟩)
    have hlink : (discardPending k s).link = s.link := by cases k <;> rfl
    refine happens_writes hbegins ((discardPending_request k s).trans hquiet) (beginNotice_unchangedBut k s)
      ⟨?_, discardPending_waiting k s, discardPending_enabled k s, ?_, fun hk => discardPending_linkKept hk s⟩
    · simp only [beginNotice, State.setTransmitter, hlink]
    · exact keptEmptied_of_same (keptEmptied_self k s) (by cases k <;> first | rfl | exact ⟨rfl, rfl, rfl⟩ | trivial)
  · refine exec_quiet (i := .noticeBegin) (noticeBegins_waits ?_) hquiet
    rcases hwaits with h | hbusy
    · exact .inl (next_eq_none h)
    · refine .inr (Bool.eq_false_iff.mpr fun hfree => ?_)
      obtain ⟨hqueue, hheld, hidle, hrestart⟩ := (free_iff _).mp hfree
      rcases hbusy with h | h | h | h
      · exact h hqueue
      · exact h hheld
      · exact h hidle
      · exact absurd (h.symm.trans hrestart) (by decide)
  · exact exec_quiet (i := .noticeEnd) ((noticeEnds_sending hn).trans (nextEntry_eq s)) hquiet
  · exact exec_quiet (i := .noticeEnd) (noticeEnds_notSending hn) hquiet

/-! ### What the notices carry -/

theorem holdNotice_carries (s : State) : holdNoticeCarries s := by
  refine ⟨fun period last h => ?_, fun period last deadline h => ?_, fun h => ?_⟩ <;>
    simp only [noticeContent, holdNotice, h]

theorem floorNotice_carries (s : State) : floorNoticeCarries s := by
  refine ⟨fun hidle => ?_, fun c hc => ?_⟩
  · simp only [noticeContent, floorNotice, hidle]
    rfl
  refine ⟨optItems teamItem c.floorHolder,
    optItems (fun q => [.u8 q.pad.val, .clock q.capture]) (if c.floorHolder.isSome then c.queue.head? else none),
    optItems (fun f => [.u8 f.answerWindow]) c.floorFields, optItems clockItem c.answerDeadline,
    optItems ticksItem (c.answerTimeLeft s.clock), optItems teamItem c.contestedTeam, ?_, ?_, ?_, ?_, ?_, ?_, ?_, ?_, ?_,
    ?_, ?_⟩
  · simp only [noticeContent, floorNotice, hc]
  · intro t hphase hholder
    simp [Context.floorHolder, hphase, hholder, optItems, teamItem]
  · rintro (hphase | hholder)
    · simp [Context.floorHolder, hphase, optItems]
    · simp [Context.floorHolder, hholder, optItems]
  · intro t q rest hphase hholder hqueue
    simp [Context.floorHolder, hphase, hholder, hqueue, optItems]
  · rintro (hphase | hholder | hqueue)
    · simp [Context.floorHolder, hphase, optItems]
    · simp [Context.floorHolder, hholder, optItems]
    · simp [hqueue, optItems]
  · intro f hf
    simp [hf, optItems]
  · intro hf
    simp [hf, optItems]
  · intro d hd
    simp [hd, Context.answerTimeLeft, optItems, clockItem, ticksItem, ticksLeft]
  · intro hd
    refine ⟨by simp [hd, optItems], fun n hn => ?_, fun hn => ?_⟩ <;>
      simp [hd, hn, Context.answerTimeLeft, optItems, ticksItem]
  · intro head before q after hphase hqueue hbefore hq
    have hfind : (before ++ q :: after).find? Claim.contested = some q := by
      rw [List.find?_append, List.find?_eq_none.mpr (fun x hx => by simp [hbefore x hx])]
      simp [hq]
    simp [Context.contestedTeam, hphase, hqueue, hfind, optItems, teamItem]
  · rintro (hphase | hclean)
    · simp [Context.contestedTeam, hphase, optItems]
    · have hfind : c.queue.tail.find? Claim.contested = none :=
        List.find?_eq_none.mpr fun x hx => by simp [hclean x hx]
      simp [Context.contestedTeam, hfind, optItems]

theorem roundNotice_carries (s : State) : roundNoticeCarries s := by
  refine ⟨fun hidle => ?_, fun c hc => ?_⟩
  · simp only [noticeContent, roundNotice, hidle]
  · simp only [noticeContent, roundNotice, hc]

theorem queueNotice_carries (s : State) : queueNoticeCarries s := by
  refine ⟨fun c hc hkind => ?_, fun hpolls => ?_⟩
  · simp [noticeContent, queueNotice, State.noticedClaims, hc, hkind, listItems]
  · have hnone : s.noticedClaims = [] := by
      unfold State.noticedClaims
      split
      next => rfl
      next c hc => rw [if_pos (hpolls c hc)]
    simp [noticeContent, queueNotice, hnone, listItems]

theorem scoreNotices_carry (s : State) : scoreNoticesCarry s := by
  refine ⟨rfl, fun e he => ?_, ?_⟩
  · simp [noticeContent, lockNotice, he, lockEndItems]
  · cases h : s.scores.lock <;> simp [State.lockHeld, h]

theorem lineNotices_carry (s : State) : lineNoticesCarry s := by
  refine ⟨rfl, rfl, ?_, ?_⟩
  · simp [noticeContent, cueNotice, pagesItems, listItems, List.map_eq_flatMap]
  · cases hstarted : s.notices.started <;> cases hoverrun : s.notices.overrun <;>
      simp [noticeContent, linkNotice, hstarted, hoverrun]

/-- Settles O13: the first eligible kind goes out when the link is free, with what the state holds of it. -/
theorem noticesBeginAndEnd : Obligations.NoticesBeginAndEnd :=
  ⟨notices_goOut, fun s => ⟨holdNotice_carries s, floorNotice_carries s, roundNotice_carries s, queueNotice_carries s,
    scoreNotices_carry s, lineNotices_carry s⟩⟩

/-! ### The commands about the flags (O14) -/

theorem link_notMem_keepers (ks : List NoticeKind) {b : Block} (hb : b = .link ∨ b = .silence) :
    b ∉ .notices :: ks.flatMap keeperOf := by
  intro h
  rcases List.mem_cons.mp h with rfl | h
  · rcases hb with h | h <;> cases h
  · obtain ⟨k, -, hk⟩ := List.mem_flatMap.mp h
    rcases hb with rfl | rfl <;> cases k <;> simp [keeperOf] at hk

theorem flagItems_congr {s t : State} (h : t.notices = s.notices) : flagItems t = flagItems s := by
  simp only [flagItems, h]

/-- What a discard leaves is seen in the notice unit and in the parts the kinds keep. -/
theorem keptEmptied_congr {k : NoticeKind} {s t u : State} (h : keptEmptied k s t)
    (hsame : unchangedBut [.link] t u) : keptEmptied k s u := by
  refine keptEmptied_of_same h ?_
  have hnotices : u.notices = t.notices := hsame .notices (by decide)
  cases k with
  | pad => exact hsame .desk (by decide)
  | score => exact hsame .scores (by decide)
  | cue => exact hsame .cues (by decide)
  | board => exact hsame .board (by decide)
  | link => exact ⟨by rw [hnotices], by rw [hnotices], by rw [hnotices]⟩
  | hold | floor | round | queue | lock => trivial

theorem noticeEnable_badKind {args : NoticeEnableArgs} (h : noticeKindsOf args.target = none) (s : State) :
    noticeEnable args s = (s, refuse .badValue) := by
  simp only [noticeEnable, h]

theorem noticeEnable_on {target : NoticeTarget} {ks : List NoticeKind} (h : noticeKindsOf target = some ks)
    (s : State) : noticeEnable { target := target, on := true } s
      = (enableAll true ks s, ok (flagItems (enableAll true ks s))) := by
  simp only [noticeEnable, h, if_true]

theorem noticeEnable_off {target : NoticeTarget} {ks : List NoticeKind} (h : noticeKindsOf target = some ks)
    (s : State) : noticeEnable { target := target, on := false } s
      = (discardAll ks (enableAll false ks s), ok (flagItems (discardAll ks (enableAll false ks s)))) := by
  simp only [noticeEnable, h, Bool.false_eq_true, if_false]

theorem noticeClear_badKind {target : NoticeTarget} (h : noticeKindsOf target = none) (s : State) :
    noticeClear target s = (s, refuse .badValue) := by
  simp only [noticeClear, h]

theorem noticeClear_kinds {target : NoticeTarget} {ks : List NoticeKind} (h : noticeKindsOf target = some ks)
    (s : State) : noticeClear target s = (discardAll ks s, ok (flagItems (discardAll ks s))) := by
  simp only [noticeClear, h]

theorem enableAll_unchangedBut (b : Bool) (ks : List NoticeKind) (s : State) :
    unchangedBut [.notices] s (enableAll b ks s) := by
  rw [enableAll_eq]
  intro x hx
  cases x <;> first | rfl | exact absurd (by decide) hx

/-- A kind's keepers are untouched by what only enables. -/
theorem keptEmptied_enableAll {k : NoticeKind} {b : Bool} {ks : List NoticeKind} {s t : State}
    (h : keptEmptied k (enableAll b ks s) t) : keptEmptied k s t := by
  rw [enableAll_eq] at h
  cases k <;> exact h

theorem noticeEnable_on_completes {s : State} {target : NoticeTarget} {ks : List NoticeKind} (hs : s.ready)
    (hks : noticeKindsOf target = some ks) :
    ∃ a, completes (.noticeEnable (.fits { target := target, on := true })) s 0x2C#8 a [.notices] fun t =>
      a = ok (flagItems t) ∧ t.notices.waiting = s.notices.waiting
        ∧ (∀ k, t.notices.enabled.get k = (decide (k ∈ ks) || s.notices.enabled.get k)) ∧ linkKept s t := by
  obtain ⟨-, -, -, -, hquiet⟩ := id hs
  refine ⟨_, completes_writes rfl rfl hs (noticeEnable_on hks s.told) (enableAll_unchangedBut true ks s.told)
    (by decide) (by decide) (by rw [enableAll_eq]; exact hquiet) fun t ht => ?_⟩
  have hnotices : t.notices = (enableAll true ks s.told).notices := ht .notices (by decide)
  rw [flagItems_congr hnotices, linkKept, hnotices, enableAll_eq]
  refine ⟨rfl, rfl, fun k => ?_, rfl, rfl, rfl⟩
  rw [foldl_put_get]
  by_cases hk : k ∈ ks <;> simp [hk, State.told]

/-- What a discard from `s`, or from `s` with flags disabled, leaves behind. -/
theorem discardAll_leaves {s u t : State} (ks : List NoticeKind) (hu : u = s.told ∨ u = enableAll false ks s.told)
    (ht : unchangedBut [.link] (discardAll ks u) t) :
    t.notices.enabled = u.notices.enabled
      ∧ (∀ k, t.notices.waiting.get k = (decide (k ∉ ks) && s.notices.waiting.get k))
      ∧ (∀ k ∈ ks, keptEmptied k s t) ∧ (.link ∉ ks → linkKept s t) := by
  have hnotices : t.notices = (discardAll ks u).notices := ht .notices (by decide)
  have hwaiting : u.notices.waiting = s.notices.waiting := by
    rcases hu with rfl | rfl
    · rfl
    · rw [enableAll_eq]
      rfl
  have hkept : ∀ {k v}, keptEmptied k u v → keptEmptied k s v := by
    intro k v h
    rcases hu with rfl | rfl
    · cases k <;> exact h
    · have htold : keptEmptied k s.told v := keptEmptied_enableAll h
      cases k <;> exact htold
  have hlink : linkKept s u := by
    rcases hu with rfl | rfl
    · exact ⟨rfl, rfl, rfl⟩
    · rw [enableAll_eq]
      exact ⟨rfl, rfl, rfl⟩
  refine ⟨by rw [hnotices, discardAll_enabled], fun k => ?_,
    fun k hk => keptEmptied_congr (hkept (discardAll_empties hk u)) ht, fun hk => ?_⟩
  · rw [hnotices, discardAll_waiting, hwaiting]
  · rw [linkKept, hnotices]
    exact linkKept_trans hlink (discardAll_linkKept hk u)

theorem noticeEnable_off_completes {s : State} {target : NoticeTarget} {ks : List NoticeKind} (hs : s.ready)
    (hks : noticeKindsOf target = some ks) :
    ∃ a, completes (.noticeEnable (.fits { target := target, on := false })) s 0x2C#8 a
        (.notices :: ks.flatMap keeperOf) fun t =>
      a = ok (flagItems t)
        ∧ (∀ k, t.notices.enabled.get k = (decide (k ∉ ks) && s.notices.enabled.get k))
        ∧ (∀ k, t.notices.waiting.get k = (decide (k ∉ ks) && s.notices.waiting.get k))
        ∧ (∀ k ∈ ks, keptEmptied k s t) ∧ (.link ∉ ks → linkKept s t) := by
  obtain ⟨-, -, -, -, hquiet⟩ := id hs
  have hframe : unchangedBut (.notices :: ks.flatMap keeperOf) s.told (discardAll ks (enableAll false ks s.told)) := by
    intro b hb
    have hfirst : b.same s.told (enableAll false ks s.told) :=
      enableAll_unchangedBut false ks s.told b fun h => hb (by simp_all)
    have hrest := discardAll_unchangedBut ks (enableAll false ks s.told) b hb
    cases b <;> exact hrest.trans hfirst
  refine ⟨_, completes_writes rfl rfl hs (noticeEnable_off hks s.told) hframe (link_notMem_keepers ks (.inl rfl))
    (link_notMem_keepers ks (.inr rfl)) ?_ fun t ht => ?_⟩
  · rw [discardAll_request, enableAll_eq]
    exact hquiet
  obtain ⟨henabled, hrest⟩ := discardAll_leaves ks (.inr rfl) ht
  refine ⟨by rw [flagItems_congr (ht .notices (by decide))], fun k => ?_, hrest⟩
  rw [henabled, enableAll_eq, foldl_put_get]
  by_cases hk : k ∈ ks <;> simp [hk, State.told]

theorem noticeClear_completes {s : State} {target : NoticeTarget} {ks : List NoticeKind} (hs : s.ready)
    (hks : noticeKindsOf target = some ks) :
    ∃ a, completes (.noticeClear (.fits target)) s 0x2D#8 a (.notices :: ks.flatMap keeperOf) fun t =>
      a = ok (flagItems t) ∧ t.notices.enabled = s.notices.enabled
        ∧ (∀ k, t.notices.waiting.get k = (decide (k ∉ ks) && s.notices.waiting.get k))
        ∧ (∀ k ∈ ks, keptEmptied k s t) ∧ (.link ∉ ks → linkKept s t) := by
  obtain ⟨-, -, -, -, hquiet⟩ := id hs
  refine ⟨_, completes_writes rfl rfl hs (noticeClear_kinds hks s.told) (discardAll_unchangedBut ks s.told)
    (link_notMem_keepers ks (.inl rfl)) (link_notMem_keepers ks (.inr rfl)) ?_ fun t ht => ?_⟩
  · rw [discardAll_request]
    exact hquiet
  · exact ⟨by rw [flagItems_congr (ht .notices (by decide))], discardAll_leaves (u := s.told) ks (.inl rfl) ht⟩

/-- Settles O14: the flags of the kinds named are set, and what they keep is discarded when they are disabled or
cleared. -/
theorem noticeFlagsAreSetAndDiscarded : Obligations.NoticeFlagsAreSetAndDiscarded := by
  intro s hs
  refine ⟨fun target ks hks => ⟨noticeEnable_on_completes hs hks, noticeEnable_off_completes hs hks,
    noticeClear_completes hs hks⟩, fun target on hks => ⟨?_, ?_⟩⟩
  · exact completes_left rfl rfl hs (noticeEnable_badKind hks s.told)
  · exact completes_left rfl rfl hs (noticeClear_badKind hks s.told)

end Sys2Proof.Proofs

/-! PROOFS. PAD_ASSIGN (R29, O27), and the commands that set the speed of the line, the lamps and the debounce,
with the lamps the pads show (R33 to R40, O30). -/

namespace Sys2Proof.Proofs
open Sys2Proof Sys2Proof.Machine

/-! ### PAD_ASSIGN -/

theorem assignPad_unchangedBut (a : PadAddr) (asg : Assignment) (s : State) :
    unchangedBut [.pads] s (assignPad a asg s) := setPad_unchangedBut s a _

theorem pad_assignPad (a : PadAddr) (asg : Assignment) (s : State) :
    (assignPad a asg s).pad a = { s.pad a with
        assignment := asg
        candidate := if s.placeOf a = effectivePlace s.roster.layout a asg then (s.pad a).candidate else none }
      ∧ ∀ b, b ≠ a → (assignPad a asg s).pad b = s.pad b := by
  refine ⟨?_, fun b hb => by rw [assignPad, pad_setPad, if_neg hb.symm]⟩
  rw [assignPad, pad_setPad, if_pos rfl]
  by_cases h : s.placeOf a = effectivePlace s.roster.layout a asg
  · simp [h]
  · simp [h, Ne.symm h]

/-- A pad's record after the pads of `u` were written and the reply joined the queue. -/
theorem pad_of_unchanged {u t : State} (h : unchangedBut [.link] u t) (a : PadAddr) : t.pad a = u.pad a := by
  have hpads : t.roster.pads = u.roster.pads := h .pads (by decide)
  simp only [State.pad, hpads]

theorem padAssign_completes {s : State} {args : PadAssignArgs} {a : PadAddr} {asg : Assignment} {items : List Item}
    (hs : s.ready) (hrun : padAssign args s.told = (assignPad a asg s.told, ok items)) :
    completes (.padAssign (.fits args)) s 0x02#8 (ok items) [.pads] fun u =>
      u.pad a = { s.pad a with
          assignment := asg
          candidate := if s.placeOf a = effectivePlace s.roster.layout a asg then (s.pad a).candidate else none }
        ∧ ∀ b, b ≠ a → u.pad b = s.pad b := by
  obtain ⟨-, -, -, -, hquiet⟩ := id hs
  refine completes_writes rfl rfl hs hrun (assignPad_unchangedBut a asg s.told) (by decide) (by decide) hquiet
    fun t ht => ?_
  obtain ⟨hpad, hothers⟩ := pad_assignPad a asg s.told
  exact ⟨(pad_of_unchanged ht a).trans hpad, fun b hb => (pad_of_unchanged ht b).trans (hothers b hb)⟩

theorem padAssign_place {s : State} {args : PadAssignArgs} {a : PadAddr} {team seat : Byte} {t : TeamId} {n : Seat}
    (htarget : args.target = .place team seat) (ha : padOf args.pad = some a) (ht : teamOf team = some t)
    (hn : seatOf seat = some n) : padAssign args s = assignToPlace a ⟨t, n⟩ s := by
  simp only [padAssign, htarget, ha, ht, hn]

theorem padAssign_release {s : State} {args : PadAssignArgs} {a : PadAddr} (htarget : args.target = .release)
    (ha : padOf args.pad = some a) :
    padAssign args s = (assignPad a .released s, ok (optItems placeItems (s.placeOf a))) := by
  simp only [padAssign, htarget, ha]

theorem padAssign_badValue {s : State} {args : PadAssignArgs} (h : padOf args.pad = none
    ∨ ∃ team seat, args.target = .place team seat ∧ (teamOf team = none ∨ seatOf seat = none)) :
    padAssign args s = (s, refuse .badValue) := by
  rcases h with h | ⟨team, seat, htarget, h⟩
  · simp only [padAssign, h]
  · cases ha : padOf args.pad with
    | none => simp only [padAssign, ha]
    | some a =>
      rcases h with h | h
      · simp only [padAssign, ha, htarget, h]
      · cases ht : teamOf team <;> simp only [padAssign, ha, htarget, h, ht]

/-- Settles O27: PAD_ASSIGN checks the team's pads, then the seat, and writes the assignment. -/
theorem padAssignGivesThePlace : Obligations.PadAssignGivesThePlace := by
  intro s args hs
  refine ⟨fun a team seat t n htarget ha ht hn => ?_, fun a htarget ha => ?_, fun hbad => ?_⟩
  · have hplace : ∀ u : State, padAssign args u = assignToPlace a ⟨t, n⟩ u := fun u => padAssign_place htarget ha ht hn
    have htaken := seatTaken_iff s.told a ⟨t, n⟩
    refine ⟨fun hfull => ?_, fun hroom hseat => ?_, fun hroom hfree => ?_⟩
    · exact completes_left rfl rfl hs ((hplace s.told).trans (if_pos hfull))
    · refine completes_left rfl rfl hs ((hplace s.told).trans ?_)
      exact (if_neg (Nat.not_le.mpr hroom)).trans (if_pos (htaken.mpr hseat))
    · have hfree' : ¬∃ b, b ≠ a ∧ s.told.placeOf b = some ⟨t, n⟩ := fun ⟨b, hne, hb⟩ => hfree b hne hb
      exact padAssign_completes hs ((hplace s.told).trans
        ((if_neg (Nat.not_le.mpr hroom)).trans (if_neg (mt htaken.mp hfree'))))
  · exact padAssign_completes hs (padAssign_release htarget ha)
  · exact completes_left rfl rfl hs (padAssign_badValue hbad)

/-! ### DESK_SPEED, LAMP_SET and CAPTURE_SET -/

theorem deskSpeed_setting {b : Byte} {v : SpeedSetting} (h : settingOf b = some v) (s : State) :
    deskSpeed b s = ({ s with desk := ({ s.desk with setting := v } : DeskLine).judged (needFor v s.engine.active) },
      ok [.name v.code, .name (speedCode s.desk.speed),
        .flag (({ s.desk with setting := v } : DeskLine).judged (needFor v s.engine.active)).switch.isSome]) := by
  have hjudged : ∀ (needed : Bool) (d : DeskLine), (d.judged needed).setting = d.setting
      ∧ (d.judged needed).speed = d.speed := by
    intro needed d
    unfold DeskLine.judged
    split <;> exact ⟨rfl, rfl⟩
  simp only [deskSpeed, h, judgeNeed_eq, hjudged]

theorem deskSpeed_badValue {b : Byte} (h : settingOf b = none) (s : State) :
    deskSpeed b s = (s, refuse .badValue) := by
  simp only [deskSpeed, h]

theorem withDesk_unchangedBut (s : State) (d : DeskLine) : unchangedBut [.desk] s { s with desk := d } := by
  intro b hb
  cases b with
  | desk => exact absurd (.head _) hb
  | _ => rfl

theorem lampSet_one {choice : LampChoice} {l : Option Lamp} {b : Byte} {a : PadAddr}
    (hl : lampChoiceOf choice = some l) (ha : padOf b = some a) (s : State) :
    lampSet { pads := .one b, choice := choice } s = (s.setPad a { s.pad a with lampOverride := l },
      ok (optItems (fun o => [.name o.code]) (s.pad a).lampOverride)) := by
  simp only [lampSet, hl, ha]

theorem lampSet_all {choice : LampChoice} {l : Option Lamp} (hl : lampChoiceOf choice = some l) (s : State) :
    lampSet { pads := .all, choice := choice } s = (setAllLamps l s, ok [.u8 s.overrideCount]) := by
  simp only [lampSet, hl]

theorem lampSet_badValue {pads : LampPads} {choice : LampChoice} {b : Byte}
    (h : lampChoiceOf choice = none ∨ (pads = .one b ∧ padOf b = none)) (s : State) :
    lampSet { pads := pads, choice := choice } s = (s, refuse .badValue) := by
  rcases h with h | ⟨rfl, h⟩
  · simp only [lampSet, h]
  · cases hl : lampChoiceOf choice <;> simp only [lampSet, h, hl]

theorem captureSet_count {b : Byte} {n : Nat} (h : within 1 4 b = some n) {s : State} (hfree : s.debounceFixed = false) :
    captureSet b s = ({ s with debounce := n }, ok [.u8 s.debounce, .u8 n]) := by
  simp [captureSet, h, hfree]

theorem captureSet_fixed {b : Byte} {n : Nat} (h : within 1 4 b = some n) {s : State} (hfixed : s.debounceFixed = true) :
    captureSet b s = (s, refuse .wrongState) := by
  simp only [captureSet, h, hfixed, if_true]

theorem captureSet_badValue {b : Byte} (h : within 1 4 b = none) (s : State) :
    captureSet b s = (s, refuse .badValue) := by
  simp only [captureSet, h]

theorem setAllLamps_unchangedBut (l : Option Lamp) (s : State) : unchangedBut [.pads] s (setAllLamps l s) := by
  intro b hb
  cases b with
  | pads => exact absurd (.head _) hb
  | _ => rfl

theorem pad_setAllLamps (l : Option Lamp) (s : State) (a : PadAddr) :
    (setAllLamps l s).pad a = { s.pad a with lampOverride := l } := look_mapTable _ _ a

theorem withDebounce_unchangedBut (s : State) (n : Nat) : unchangedBut [.debounce] s { s with debounce := n } := by
  intro b hb
  cases b with
  | debounce => exact absurd (.head _) hb
  | _ => rfl

theorem settings_areTakenOrRefused : settingsAreTakenOrRefused := by
  intro s b hs
  obtain ⟨-, -, -, -, hquiet⟩ := id hs
  refine ⟨fun v hv => ⟨_, rfl, ?_⟩, fun hv => ?_, fun choice l a hl ha => ?_, fun choice l hl => ?_,
    fun pads choice h => ?_, fun n hn hfree => ?_, fun n hn hfixed => ?_, fun hn => ?_⟩
  · exact completes_writes rfl rfl hs (deskSpeed_setting hv s.told) (withDesk_unchangedBut s.told _) (by decide)
      (by decide) hquiet fun t ht => ht .desk (by decide)
  · exact completes_left rfl rfl hs (deskSpeed_badValue hv s.told)
  · refine completes_writes rfl rfl hs (lampSet_one hl ha s.told) (setPad_unchangedBut s.told a _) (by decide)
      (by decide) hquiet fun t ht => ⟨?_, fun n hn => ?_⟩
    · rw [pad_of_unchanged ht, pad_setPad, if_pos rfl]
      rfl
    · rw [pad_of_unchanged ht, pad_setPad, if_neg hn.symm]
      rfl
  · refine completes_writes rfl rfl hs (lampSet_all hl s.told) (setAllLamps_unchangedBut l s.told) (by decide)
      (by decide) hquiet fun t ht n => ?_
    rw [pad_of_unchanged ht, pad_setAllLamps]
    rfl
  · exact completes_left rfl rfl hs (lampSet_badValue h s.told)
  · exact completes_writes rfl rfl hs (captureSet_count (s := s.told) hn hfree) (withDebounce_unchangedBut s.told n)
      (by decide) (by decide) hquiet fun t ht => ht .debounce (by decide)
  · exact completes_left rfl rfl hs (captureSet_fixed (s := s.told) hn hfixed)
  · exact completes_left rfl rfl hs (captureSet_badValue hn s.told)

/-! ### Lamps -/

theorem hasVoted_iff (c : Context) (t : TeamId) : c.hasVoted t = true ↔
    ∃ b e v, c.ballot = some b ∧ (b.entries.find? fun e => e.team == t) = some e ∧ e.vote = some v := by
  unfold Context.hasVoted
  split
  next hnone => simp [hnone]
  next b hb =>
    unfold Ballot.entryOf
    split
    next hnone => simp [hb, hnone]
    next e he => simp [hb, he, Option.isSome_iff_exists]

theorem hasClaim_iff (c : Context) (t : TeamId) : c.hasClaim t = true ↔ ∃ q ∈ c.queue, q.team = t := by
  simp [Context.hasClaim]

theorem hasClaim_eq_false_iff (c : Context) (t : TeamId) : c.hasClaim t = false ↔ ∀ q ∈ c.queue, q.team ≠ t := by
  simp [Context.hasClaim]

theorem lampOf_byRows (c : Context) (t : TeamId) : lampByRows c t (c.lampOf t) := by
  refine ⟨fun hphase => ?_, fun hphase => ⟨fun hout => ?_, fun hin hkind => ⟨fun hholder => ?_,
    fun hholder hclaim => ?_, fun hholder hclaim => ⟨fun hlock => ?_, fun hlock hp => ?_, fun hlock hp => ?_⟩⟩,
    fun hin hkind => ⟨fun hlock => ?_, fun hlock hp => ⟨fun hchosen => ?_, fun hchosen => ?_⟩, fun hlock hp => ?_⟩⟩⟩
  · have hdark : c.phase = .armed ∨ c.phase = .opening ∨ c.phase = .closing ∨ c.phase = .closed
        ∨ c.phase = .revealed := by
      obtain ⟨h1, h2, h3⟩ := hphase
      cases hp : c.phase <;> simp_all
    rw [Context.lampOf, if_pos hdark]
  all_goals
    have hlit : ¬(c.phase = .armed ∨ c.phase = .opening ∨ c.phase = .closing ∨ c.phase = .closed
        ∨ c.phase = .revealed) := by
      rcases hphase with h | h | h <;> simp [h]
    rw [Context.lampOf, if_neg hlit]
  · rw [if_pos hout]
  · simp [hin, hkind, hholder]
  · simp [hin, hkind, hholder, (hasClaim_iff c t).mpr hclaim]
  · simp [hin, hkind, hholder, (hasClaim_eq_false_iff c t).mpr hclaim, hlock]
  · have hopen : c.phase = .opened ∨ c.phase = .settling := hphase.imp_right fun h => h.resolve_right hp
    simp [hin, hkind, hholder, (hasClaim_eq_false_iff c t).mpr hclaim, hlock, hopen]
  · simp [hin, hkind, hholder, (hasClaim_eq_false_iff c t).mpr hclaim, hlock, hp]
  · simp [hin, hkind, hlock]
  · simp [hin, hkind, hlock, hp, (hasVoted_iff c t).mpr hchosen]
  · simp [hin, hkind, hlock, hp, mt (hasVoted_iff c t).mp hchosen]
  · simp [hin, hkind, hlock, hp]

theorem lampFor_override {s : State} {a : PadAddr} {l : Lamp} (h : (s.pad a).lampOverride = some l) :
    s.lampFor a = l := by
  simp only [State.lampFor, h]

theorem lampFor_policy {s : State} {a : PadAddr} (h : (s.pad a).lampOverride = none) :
    s.lampFor a = s.policyLamp a := by
  simp only [State.lampFor, h]

theorem lamps_followThePolicy : lampsFollowThePolicy := by
  intro s a
  refine ⟨fun l hl => lampFor_override hl, fun hnone => ?_, ?_⟩
  · rw [lampFor_policy hnone]
    refine ⟨fun hplace => ?_, fun p hp => ⟨fun haway => ?_, fun hpresent => ⟨fun hidle => ?_, fun c hc => ?_⟩⟩⟩
    · simp [State.policyLamp, State.teamOfPad, hplace]
    · simp [State.policyLamp, State.teamOfPad, hp, State.teamPresent, haway]
    · simp [State.policyLamp, State.teamOfPad, hp, State.teamPresent, hpresent, hidle]
    · have hlamp : s.policyLamp a = c.lampOf p.team := by
        simp [State.policyLamp, State.teamOfPad, hp, State.teamPresent, hpresent, hc]
      rw [hlamp]
      exact lampOf_byRows c p.team
  · cases hkind : s.desk.cycleKind <;> simp [State.pollOf, CycleKind.flag, hkind]

/-- Settles O30: the settings are taken or refused, and the lamps follow the rows of the policy. -/
theorem deskSpeedLampAndCaptureSettingsAct : Obligations.DeskSpeedLampAndCaptureSettingsAct :=
  ⟨settings_areTakenOrRefused, lamps_followThePolicy⟩

end Sys2Proof.Proofs

/-! PROOFS. The teams in the order of a score (R137, R138), the teams at the top, and the eligible teams (R76, R88 to
R91, O35). -/

namespace Sys2Proof.Proofs
open Sys2Proof Sys2Proof.Machine

/-! ### The order of a score -/

/-- `t` stands before `u`: it scored more, or as much with a lower number. -/
def ahead (score : TeamId → Int) (t u : TeamId) : Prop := score u < score t ∨ (score t = score u ∧ t < u)

theorem insertRanked_perm (score : TeamId → Int) (t : TeamId) (l : List TeamId) :
    (insertRanked score t l).Perm (t :: l) := by
  induction l with
  | nil => exact .refl _
  | cons u us ih =>
    unfold insertRanked
    split
    · exact (ih.cons u).trans (.swap t u us)
    · exact .refl _

/-- A team is put behind those of its score that came before it. -/
theorem insertRanked_ahead {score : TeamId → Int} {t : TeamId} {l : List TeamId} (hl : l.Pairwise (ahead score))
    (hlow : ∀ u ∈ l, u < t) : (insertRanked score t l).Pairwise (ahead score) := by
  induction l with
  | nil => exact List.pairwise_singleton _ t
  | cons u us ih =>
    obtain ⟨hu, hus⟩ := List.pairwise_cons.mp hl
    have hut : u < t := hlow u List.mem_cons_self
    unfold insertRanked
    split
    next hle =>
      refine List.pairwise_cons.mpr ⟨fun v hv => ?_, ih hus fun v hv => hlow v (List.mem_cons_of_mem u hv)⟩
      rcases List.mem_cons.mp ((insertRanked_perm score t us).mem_iff.mp hv) with rfl | hv
      · rcases Int.lt_or_eq_of_le hle with hlt | heq
        · exact .inl hlt
        · exact .inr ⟨heq.symm, hut⟩
      · exact hu v hv
    next hgt =>
      have hlt : score u < score t := Int.not_le.mp hgt
      refine List.pairwise_cons.mpr ⟨fun v hv => .inl ?_, hl⟩
      rcases List.mem_cons.mp hv with rfl | hv
      · exact hlt
      · exact (hu v hv).elim (Int.lt_trans · hlt) (·.1 ▸ hlt)

theorem presentTeams_ascending (s : State) : s.presentTeams.Pairwise (· < ·) :=
  (List.pairwise_lt_finRange 16).filter _

theorem mem_presentTeams {s : State} {t : TeamId} : t ∈ s.presentTeams ↔ (s.team t).state = .present := by
  simp [State.presentTeams, State.teamPresent]

/-- Ranking teams in ascending order puts each where it belongs. -/
theorem rankFold_ahead {score : TeamId → Int} (l order : List TeamId) (hl : l.Pairwise (· < ·))
    (horder : order.Pairwise (ahead score)) (hlow : ∀ u ∈ order, ∀ t ∈ l, u < t) :
    (l.foldl (fun order t => insertRanked score t order) order).Perm (l ++ order)
      ∧ (l.foldl (fun order t => insertRanked score t order) order).Pairwise (ahead score) := by
  induction l generalizing order with
  | nil => exact ⟨.refl _, horder⟩
  | cons t ts ih =>
    obtain ⟨ht, hts⟩ := List.pairwise_cons.mp hl
    have hperm : (insertRanked score t order).Perm (t :: order) := insertRanked_perm score t order
    obtain ⟨hfold, hahead⟩ := ih (insertRanked score t order) hts
      (insertRanked_ahead horder fun u hu => hlow u hu t List.mem_cons_self) fun u hu v hv => by
        rcases List.mem_cons.mp (hperm.mem_iff.mp hu) with rfl | hu
        · exact ht v hv
        · exact hlow u hu v (List.mem_cons_of_mem t hv)
    exact ⟨hfold.trans ((hperm.append_left ts).trans List.perm_middle), hahead⟩

theorem rankOrder_perm (s : State) (score : TeamId → Int) : (s.rankOrder score).Perm s.presentTeams := by
  have hperm := (rankFold_ahead (score := score) s.presentTeams [] (presentTeams_ascending s) .nil (by simp)).1
  rwa [List.append_nil] at hperm

theorem rankOrder_ahead (s : State) (score : TeamId → Int) : (s.rankOrder score).Pairwise (ahead score) :=
  (rankFold_ahead s.presentTeams [] (presentTeams_ascending s) .nil (by simp)).2

theorem rankOrder_ranks (s : State) (score : TeamId → Int) : ranks score (s.rankOrder score) s :=
  ⟨fun _ => (rankOrder_perm s score).mem_iff.trans mem_presentTeams, rankOrder_ahead s score⟩

theorem ranks_followTheScores : ranksFollowTheScores := by
  refine fun s => ⟨rankOrder_ranks s _, rankOrder_ranks s _, fun hfree t => ?_, fun time snapshot hheld t => ?_⟩
  · simp only [State.boardScore, hfree, State.liveScore]
  · simp only [State.boardScore, hheld]

/-! ### The teams at the top and the eligible ones -/

theorem higherFold_isMax (score : TeamId → Int) (l : List TeamId) (best : Option Int) :
    ∀ z, l.foldl (fun best t => higher best (score t)) best = some z →
      (∀ t ∈ l, score t ≤ z) ∧ (∀ b, best = some b → b ≤ z)
        ∧ ((∃ t ∈ l, score t = z) ∨ best = some z) := by
  induction l generalizing best with
  | nil => exact fun z hz => ⟨nofun, fun b hb => by simp_all, .inr hz⟩
  | cons t ts ih =>
    intro z hz
    obtain ⟨hall, hbest, hreached⟩ := ih (higher best (score t)) z hz
    obtain ⟨b, hb⟩ : ∃ b, higher best (score t) = some b := by
      cases best <;> exact ⟨_, rfl⟩
    have hle : b ≤ z := hbest b hb
    have htb : score t ≤ b ∧ (∀ a, best = some a → a ≤ b) ∧ (score t = b ∨ best = some b) := by
      cases best with
      | none =>
        obtain rfl := Option.some.inj hb
        exact ⟨Int.le_refl _, nofun, .inl rfl⟩
      | some a =>
        obtain rfl := Option.some.inj hb
        refine ⟨Int.le_max_right a _, fun c hc => ?_, ?_⟩
        · exact Option.some.inj hc ▸ Int.le_max_left a _
        · rcases Int.le_total a (score t) with h | h
          · exact .inl (Int.max_eq_right h).symm
          · exact .inr (by rw [Int.max_eq_left h])
    obtain ⟨htb, hab, hreach⟩ := htb
    refine ⟨fun u hu => ?_, fun a ha => Int.le_trans (hab a ha) hle, ?_⟩
    · rcases List.mem_cons.mp hu with rfl | hu
      · exact Int.le_trans htb hle
      · exact hall u hu
    · rcases hreached with ⟨u, hu, hz⟩ | hz
      · exact .inl ⟨u, List.mem_cons_of_mem t hu, hz⟩
      · obtain rfl := Option.some.inj (hb.symm.trans hz)
        exact hreach.imp (fun h => ⟨t, List.mem_cons_self, h⟩) id

theorem higherFold_isSome (score : TeamId → Int) {l : List TeamId} (best : Option Int) {t : TeamId} (ht : t ∈ l) :
    (l.foldl (fun best t => higher best (score t)) best).isSome = true := by
  have hsome : ∀ (l : List TeamId) (best : Option Int), best.isSome = true →
      (l.foldl (fun best t => higher best (score t)) best).isSome = true := by
    intro l
    induction l with
    | nil => exact fun _ h => h
    | cons u us ih => exact fun best _ => ih _ (by cases best <;> rfl)
  cases l with
  | nil => cases ht
  | cons u us => exact hsome us _ (by cases best <;> rfl)

theorem mem_topTeams (s : State) (t : TeamId) : t ∈ s.topTeams ↔ (s.team t).state = .present
    ∧ ∀ u, (s.team u).state = .present → (s.team u).score ≤ (s.team t).score := by
  rw [State.topTeams, List.mem_filter, mem_presentTeams, decide_eq_true_iff]
  refine and_congr_right fun ht => ⟨fun htop u hu => ?_, fun hall => ?_⟩
  · exact (higherFold_isMax s.liveScore s.presentTeams none _ htop).1 u (mem_presentTeams.mpr hu)
  · obtain ⟨z, hz⟩ := Option.isSome_iff_exists.mp
      (higherFold_isSome s.liveScore none (mem_presentTeams.mpr ht))
    obtain ⟨hbound, -, hreached⟩ := higherFold_isMax s.liveScore s.presentTeams none z hz
    obtain ⟨u, hu, huz⟩ := hreached.resolve_right nofun
    have hle : s.liveScore u ≤ s.liveScore t := hall u (mem_presentTeams.mp hu)
    have hge : s.liveScore t ≤ z := hbound t (mem_presentTeams.mpr ht)
    rw [State.topScore, hz, Int.le_antisymm hge (huz ▸ hle)]

theorem eligibleFor_tiebreak {s : State} {cue : Cue} {f : FloorFields} (h : cue.part = .tiebreak f) :
    s.eligibleFor cue = s.topTeams := by
  simp only [State.eligibleFor, h]

theorem eligibleFor_other {s : State} {cue : Cue} (h : ∀ f, cue.part ≠ .tiebreak f) : s.eligibleFor cue
    = match cue.eligible with
      | none => s.presentTeams
      | some l => s.presentTeams.filter fun t => decide (t ∈ l) := by
  unfold State.eligibleFor
  split
  next f hf => exact absurd hf (h f)
  all_goals rfl

theorem mem_eligibleFor_other {s : State} {cue : Cue} (h : ∀ f, cue.part ≠ .tiebreak f) (t : TeamId) :
    t ∈ s.eligibleFor cue ↔ (s.team t).state = .present ∧ ∀ l, cue.eligible = some l → t ∈ l := by
  rw [eligibleFor_other h]
  cases hl : cue.eligible with
  | none => simp [mem_presentTeams]
  | some l => simp [mem_presentTeams]

theorem eligibleFor_ascending (s : State) (cue : Cue) : (s.eligibleFor cue).Pairwise (· < ·) := by
  unfold State.eligibleFor State.topTeams
  (repeat' split) <;> first | exact presentTeams_ascending s | exact (presentTeams_ascending s).filter _

theorem teamsRefusal_tiebreak {s : State} {cue : Cue} {f : FloorFields} (h : cue.part = .tiebreak f) :
    (s.topTeams = [] → teamsRefusal s cue = some ⟨.refused .noTie, [.presence false]⟩)
      ∧ (∀ t, s.topTeams = [t] → teamsRefusal s cue
          = some ⟨.refused .noTie, [.presence true, .i16 (s.team t).score, .u8 (t.val + 1)]⟩)
      ∧ (2 ≤ s.topTeams.length → teamsRefusal s cue = none) := by
  refine ⟨fun htop => ?_, fun t htop => ?_, fun htop => ?_⟩
  · simp only [teamsRefusal, h, htop]
  · simp only [teamsRefusal, h, htop, State.liveScore]
  · match hteams : s.topTeams, htop with
    | _ :: _ :: _, _ => simp only [teamsRefusal, h, hteams]

theorem teamsRefusal_other {s : State} {cue : Cue} (h : ∀ f, cue.part ≠ .tiebreak f) : teamsRefusal s cue
    = if s.eligibleFor cue = [] then
        some { result := .refused .noTeams, data := optItems teamsItems (cue.eligible.map asSet) }
      else none := by
  have hempty : (s.eligibleFor cue).isEmpty = true ↔ s.eligibleFor cue = [] := List.isEmpty_iff
  unfold teamsRefusal
  split
  next f hf => exact absurd hf (h f)
  all_goals simp only [hempty]

theorem eligibleTeams_arePresent : eligibleTeamsArePresent := by
  intro s cue
  refine ⟨mem_topTeams s, fun f hf => eligibleFor_tiebreak hf, mem_eligibleFor_other, fun f hf => ?_, fun hf => ?_,
    eligibleFor_ascending s cue⟩
  · obtain ⟨hnone, hone, htwo⟩ := teamsRefusal_tiebreak (s := s) hf
    refine ⟨fun hfree => ?_, htwo⟩
    match hteams : s.topTeams with
    | [] => exact nomatch hfree.symm.trans (hnone hteams)
    | [t] => exact nomatch hfree.symm.trans (hone t hteams)
    | _ :: _ :: _ => simp
  · rw [teamsRefusal_other hf]
    split <;> simp_all

/-- Settles O35: the eligible teams are present ones in ascending order, and the ranks order the present teams. -/
theorem eligibleTeamsAreThePresentOnes : Obligations.EligibleTeamsAreThePresentOnes :=
  ⟨eligibleTeams_arePresent, ranks_followTheScores⟩

theorem cues_needTeams : cuesNeedTeams := by
  intro s cue
  refine ⟨fun f hf => teamsRefusal_tiebreak hf, fun hf => ⟨fun hsome => ?_, fun hnone => ⟨fun hall => ?_,
    fun l hl => ⟨asSet l, (List.pairwise_lt_finRange 16).filter _, fun t => by simp [asSet], ?_⟩⟩⟩⟩
  · rw [teamsRefusal_other hf, if_neg hsome]
  · rw [teamsRefusal_other hf, if_pos hnone, hall]
    rfl
  · rw [teamsRefusal_other hf, if_pos hnone, hl]
    simp only [Option.map_some, optItems, teamsItems, listItems, List.map_eq_flatMap]
    rfl

/-! ### The position of a team -/

theorem ahead_asymm {score : TeamId → Int} {t u : TeamId} (h : ahead score t u) : ¬ahead score u t := by
  simp only [ahead, Fin.lt_def] at *
  omega

theorem ahead_decidable (score : TeamId → Int) (t u : TeamId) :
    decide (score u < score t ∨ (score t = score u ∧ t < u)) = true ↔ ahead score t u := decide_eq_true_iff

/-- A team's position in an order is one more than the number of teams ahead of it. -/
theorem positionOf_eq {score : TeamId → Int} {l : List TeamId} (hl : l.Pairwise (ahead score)) (t : TeamId) :
    positionOf t l = if t ∈ l then
        some ((l.filter fun u => decide (score t < score u ∨ (score u = score t ∧ u < t))).length + 1)
      else none := by
  induction l with
  | nil => rfl
  | cons u us ih =>
    obtain ⟨hu, hus⟩ := List.pairwise_cons.mp hl
    by_cases hut : u = t
    · subst hut
      have hself : ¬ahead score u u := fun h => ahead_asymm h h
      have hnone : (us.filter fun v => decide (score u < score v ∨ (score v = score u ∧ v < u))) = [] :=
        List.filter_eq_nil_iff.mpr fun v hv h => ahead_asymm (hu v hv) ((ahead_decidable score v u).mp h)
      have hfirst : ¬decide (score u < score u ∨ (score u = score u ∧ u < u)) = true :=
        fun h => hself ((ahead_decidable score u u).mp h)
      rw [positionOf, if_pos rfl, if_pos List.mem_cons_self, List.filter_cons, if_neg hfirst, hnone]
      rfl
    · rw [positionOf, if_neg hut, ih hus]
      by_cases ht : t ∈ us
      · have hfirst : decide (score t < score u ∨ (score u = score t ∧ u < t)) = true :=
          (ahead_decidable score u t).mpr (hu t ht)
        simp only [ht, List.mem_cons, or_true, if_true, Option.map_some, List.filter_cons, hfirst, List.length_cons]
      · simp [ht, Ne.symm hut]

end Sys2Proof.Proofs

/-! PROOFS. The queries: they report and change nothing, or are refused (R4, R5), and the reports carry the state, item
by item (chapter 12, O29). -/

namespace Sys2Proof.Proofs
open Sys2Proof Sys2Proof.Machine

/-! ### Queries answer and change nothing -/

theorem queryTeam_of {b : Byte} {t : TeamId} (h : teamOf b = some t) (s : State) :
    queryTeam b s = (s, ok (teamReport s t)) := by
  simp only [queryTeam, h]

theorem queryPad_of {b : Byte} {a : PadAddr} (h : padOf b = some a) (s : State) :
    queryPad b s = (s, ok (padReport s a)) := by
  simp only [queryPad, h]

theorem queryCue_slot {b : Byte} {x : SlotId} (h : slotOf b = some x) (s : State) :
    queryCue (.slot b) s = (s, ok (slotReport s x)) := by
  simp only [queryCue, h]

theorem queryCue_page {b : Byte} {p : Page} (h : pageOf b = some p) (s : State) :
    queryCue (.page b) s = (s, ok (pageReport s p)) := by
  simp only [queryCue, h]

theorem queryRound_idle {s : State} (h : s.engine.active = none) (a : NoArgs) :
    queryRound a s = (s, ok [.name 0, .u8 (s.engine.tiePointer.val + 1), .u8 s.stack.length]) := by
  simp only [queryRound, h]

theorem queryRound_active {s : State} {c : Context} (h : s.engine.active = some c) (a : NoArgs) :
    queryRound a s = (s, ok (roundReport s c)) := by
  simp only [queryRound, h]

theorem queryQueue_active {s : State} {c : Context} (h : s.engine.active = some c) (hkind : c.isPoll = false)
    (a : NoArgs) : queryQueue a s = (s, ok (queueReport s c)) := by
  simp [queryQueue, h, hkind]

theorem queryQueue_refused {s : State} (h : ∀ c, s.engine.active = some c → c.isPoll = true) (a : NoArgs) :
    queryQueue a s = (s, refuse .wrongState) := by
  unfold queryQueue
  split
  next => rfl
  next c hc => rw [if_pos (h c hc)]

theorem queryBallot_active {s : State} {c : Context} {f : PollFields} {b : Ballot} (h : s.engine.active = some c)
    (hf : c.pollFields = some f) (hb : c.ballot = some b) (a : NoArgs) :
    queryBallot a s = (s, ok (ballotReport s c f b)) := by
  simp only [queryBallot, h, hf, hb]

theorem pollFields_eq_none_iff (c : Context) : c.pollFields = none ↔ c.isPoll = false := by
  cases h : c.cue.part <;> simp [Context.pollFields, Context.isPoll, h]

theorem queryBallot_refused {s : State} (h : ∀ c, s.engine.active = some c → c.isPoll = false) (a : NoArgs) :
    queryBallot a s = (s, refuse .wrongState) := by
  unfold queryBallot
  split
  next => rfl
  next c hc =>
    have hnone : c.pollFields = none := (pollFields_eq_none_iff c).mpr (h c hc)
    simp only [hnone]

theorem queryBoard_panel {b : Byte} {p : PanelId} (h : panelOf b = some p) (s : State) :
    queryBoard (some b) s = (s, ok (optItems (listItems cellItems) (s.panel p).shown)) := by
  simp only [queryBoard, h]

theorem queries_reportAndChangeNothing : queriesReportAndChangeNothing := by
  intro s hs
  refine ⟨fun b t ht => ?_, fun b a ha => ?_, ?_, ?_, fun b x hx => ?_, fun b p hp => ?_, fun hidle => ?_,
    fun c hc => ?_, fun c hc hkind => ?_, fun c f b hc hf hb => ?_, ?_, ?_, ?_, fun b p hp => ?_, ?_, ?_⟩
  · exact completes_left rfl rfl hs ((queryTeam_of ht s.told).trans (by rw [teamReport_told]))
  · exact completes_left rfl rfl hs ((queryPad_of ha s.told).trans (by rw [padReport_told]))
  · exact completes_left rfl rfl hs (Prod.ext rfl (congrArg ok (deskReport_told s)))
  · exact completes_left rfl rfl hs rfl
  · exact completes_left rfl rfl hs ((queryCue_slot hx s.told).trans (by rw [slotReport_told]))
  · exact completes_left rfl rfl hs ((queryCue_page hp s.told).trans (by rw [pageReport_told]))
  · exact completes_left rfl rfl hs (queryRound_idle (s := s.told) hidle .none)
  · exact completes_left rfl rfl hs ((queryRound_active (s := s.told) hc .none).trans (by rw [roundReport_told]))
  · exact completes_left rfl rfl hs ((queryQueue_active (s := s.told) hc hkind .none).trans (by rw [queueReport_told]))
  · exact completes_left rfl rfl hs ((queryBallot_active (s := s.told) hc hf hb .none).trans (by rw [ballotReport_told]))
  · exact completes_left rfl rfl hs (Prod.ext rfl (congrArg ok (awardsReport_told s)))
  · refine completes_left rfl rfl hs (Prod.ext rfl (congrArg ok ?_))
    exact congrArg (_ ++ ·) (silenceItems_told s)
  · exact completes_left rfl rfl hs (Prod.ext rfl (congrArg ok (boardReport_told s)))
  · exact completes_left rfl rfl hs (queryBoard_panel hp s.told)
  · exact completes_left rfl rfl hs (Prod.ext rfl (congrArg ok (identifyReport_told s)))
  · exact completes_left rfl rfl hs rfl

theorem queries_areRefused : queriesAreRefused := by
  intro s b hs
  refine ⟨fun h => ?_, fun h => ?_, fun h => ?_, fun h => ?_, fun h => ?_, fun h => ?_, fun h => ?_⟩
  · exact completes_left rfl rfl hs (show queryTeam b s.told = _ by simp only [queryTeam, h])
  · exact completes_left rfl rfl hs (show queryPad b s.told = _ by simp only [queryPad, h])
  · exact completes_left rfl rfl hs (show queryCue (.slot b) s.told = _ by simp only [queryCue, h])
  · exact completes_left rfl rfl hs (show queryCue (.page b) s.told = _ by simp only [queryCue, h])
  · exact completes_left rfl rfl hs (queryQueue_refused (s := s.told) h .none)
  · exact completes_left rfl rfl hs (queryBallot_refused (s := s.told) h .none)
  · exact completes_left rfl rfl hs (show queryBoard (some b) s.told = _ by simp only [queryBoard, h])

/-! ### Lists of items -/

theorem listItems_single {α : Type} (f : α → Item) (l : List α) :
    listItems (fun a => [f a]) l = .count l.length :: l.map f := by
  rw [listItems, List.map_eq_flatMap]

theorem teamsItems_eq (l : List TeamId) : teamsItems l = .count l.length :: l.map fun t => .u8 (t.val + 1) :=
  listItems_single (fun t : TeamId => Item.u8 (t.val + 1)) l

theorem items_areLaidOut : itemsAreLaidOut :=
  ⟨fun _ _ _ => ⟨rfl, rfl⟩, fun _ _ _ => rfl, fun _ => rfl, teamsItems_eq⟩

theorem padsItems_eq (l : List PadAddr) : padsItems l = .count l.length :: l.map fun a => .u8 a.val :=
  listItems_single (fun a : PadAddr => Item.u8 a.val) l

theorem pagesItems_eq (l : List Page) : pagesItems l = .count l.length :: l.map fun p => .u8 p.val :=
  listItems_single (fun p : Page => Item.u8 p.val) l

theorem glyphsItems_eq : glyphsItems = fun l : List Glyph => .count l.length :: l.map fun g => .u8 g.val :=
  funext (listItems_single fun g : Glyph => Item.u8 g.val)

/-! ### The reports, one by one -/

/-- A team's position in the live ranks, for a present team (R137). -/
theorem position_eq (s : State) (t : TeamId) : positionOf t s.liveRanks
    = if (s.team t).state = .present then some ((teamsAhead s t).length + 1) else none := by
  rw [State.liveRanks, positionOf_eq (rankOrder_ahead s s.liveScore) t]
  have hmem : t ∈ s.rankOrder s.liveScore ↔ (s.team t).state = .present := (rankOrder_ranks s s.liveScore).1 t
  have hcount : ((s.rankOrder s.liveScore).filter fun u =>
        decide (s.liveScore t < s.liveScore u ∨ (s.liveScore u = s.liveScore t ∧ u < t))).length
      = (teamsAhead s t).length := by
    rw [((rankOrder_perm s s.liveScore).filter _).length_eq, State.presentTeams, List.filter_filter, teamsAhead]
    refine congrArg List.length (List.filter_congr fun u _ => ?_)
    rw [Bool.eq_iff_iff, Bool.and_eq_true, State.teamPresent, decide_eq_true_iff, decide_eq_true_iff,
      decide_eq_true_iff, and_comm]
    rfl
  simp only [hmem, hcount]

theorem teams_areReported : teamsAreReported := by
  intro s t
  simp only [teamReport, position_eq, glyphsItems_eq]
  rfl

theorem keysMask_eq (k : Keys) : keysMask k = keyBits k := by
  obtain ⟨buzz, a, b, c, d⟩ := k
  revert buzz a b c d
  decide

theorem roundNeedsSprint_eq (s : State) : s.roundNeedsSprint = needFor .auto s.engine.active := by
  cases h : s.engine.active <;> simp [State.roundNeedsSprint, needFor, h]

theorem deskReport_eq (s : State) : deskReport s =
    [.name (if s.desk.speed = .roam then 0 else 1), .name s.desk.setting.code,
        .flag (needFor .auto s.engine.active)]
      ++ optItems (fun w => .u8 w.completed ::
          (let left := (padsIn s .present).filter fun b => !w.echoed.contains b
          .count left.length :: left.map fun b => .u8 b.val)) s.desk.switch
      ++ [.u8 s.desk.pointer.val, .clock s.desk.sprintCount, .u8 (padsIn s .absent).length,
          .u8 (padsIn s .present).length, .u8 (padsIn s .lost).length]
      ++ (let lagging := (List.finRange 64).filter fun b => (s.pad b).lagging
        [.u8 lagging.length, .count lagging.length] ++ lagging.map fun b => .u8 b.val) := by
  have hspeed : speedCode s.desk.speed = if s.desk.speed = .roam then 0 else 1 := by
    cases s.desk.speed <;> rfl
  simp only [deskReport, hspeed, roundNeedsSprint_eq, padsItems_eq, List.append_assoc, List.cons_append,
    List.nil_append]
  rfl

theorem pads_areReported : padsAreReported := by
  intro s a
  refine ⟨fun h => ?_, fun p h => ?_, fun h => ?_, ?_, deskReport_eq s⟩
  · rw [State.placeOf, h]
    rfl
  · rw [State.placeOf, h]
    rfl
  · rw [State.placeOf, h]
    rfl
  · simp only [padReport, keysMask_eq]
    rfl

theorem cues_areWritten : cuesAreWritten := by
  intro c
  refine ⟨fun f n h => ?_, fun f h => ?_, fun p h => ?_⟩ <;>
    simp [cueItems, h, KindPart.kind, KindPart.floor, KindPart.streakBonus, KindPart.pollPart, optItems,
      List.replicate_succ]

theorem cues_areReported : cuesAreReported := by
  intro s
  refine ⟨fun x => ?_, fun p => ?_⟩
  · simp only [slotReport, pointerItems, pagesItems_eq]
  · have hpage : ∀ x : SlotId, decide (pageOfSlot x = p) = decide (x.val / 16 = p.val) := fun x => by
      simp [pageOfSlot, Fin.ext_iff]
    simp only [pageReport, pointerItems, pagesItems_eq, hpage]
    rfl

theorem optTicks_timeLeft (now : ClockValue) (c : Context) :
    optItems ticksItem (c.roundTimeLeft now) = optItems (fun z => [.i32 z]) (timeLeft now c) := by
  cases hdeadline : c.roundDeadline with
  | some d => simp [Context.roundTimeLeft, timeLeft, hdeadline, optItems, ticksItem, ticksLeft]
  | none =>
    cases hremaining : c.roundRemaining <;>
      simp [Context.roundTimeLeft, timeLeft, hdeadline, hremaining, optItems, ticksItem]

theorem windowCode_eq (c : Context) : c.windowCode = match c.roundDeadline, c.roundRemaining with
    | some _, _ => 1
    | none, some _ => 2
    | none, none => 0 := by
  cases hdeadline : c.roundDeadline <;> cases hremaining : c.roundRemaining <;>
    simp [Context.windowCode, hdeadline, hremaining]

theorem ticksLeft_eq (now d : ClockValue) : ((ticksLeft now d : Nat) : Int) = max (clockDiff now d) 0 := by
  simp [ticksLeft]

theorem rounds_areReported : roundsAreReported := by
  intro s c
  simp only [roundReport, optTicks_timeLeft, windowCode_eq, ticksLeft_eq]
  rfl

/-- The claims of a queue are reported in order with their positions, counted from 1 (R189). -/
theorem claimReports_eq (s : State) (n : Nat) (l : List Claim) :
    claimReports s (n + 1) l = (l.zipIdx n).flatMap fun x =>
      [.u8 (x.2 + 1), .u8 (x.1.team.val + 1), .u8 x.1.pad.val, .clock x.1.capture, .clock x.1.joinCycle,
        .i32 ((s.desk.sprintCount - x.1.joinCycle).toNat), .flag x.1.contested] := by
  induction l generalizing n with
  | nil => rfl
  | cons q qs ih =>
    rw [claimReports, ih, List.zipIdx_cons, List.flatMap_cons]
    rfl

theorem queues_areReported : queuesAreReported := by
  intro s c
  simp only [queueReport, claimReports_eq, ticksLeft_eq]
  rfl

theorem talliesItems_eq (x : Tallies) : talliesItems x = optItems (fun n => [.u8 n]) x.counts[0]?
    ++ optItems (fun n => [.u8 n]) x.counts[1]? ++ optItems (fun n => [.u8 n]) x.counts[2]?
    ++ optItems (fun n => [.u8 n]) x.counts[3]? ++ [.u8 x.noChoice] := by
  simp [talliesItems, List.range_succ]

theorem entryReport_eq (s : State) (c : Context) (e : BallotEntry) :
    entryReport s (decide (c.phase = .revealed)) e = [.u8 (e.team.val + 1), .name (s.team e.team).state.code]
      ++ optItems (fun v => [.name v.choice.code]) e.vote ++ optItems (fun v => [.clock v.capture]) e.vote
      ++ optItems (fun v => [.clock v.firstCapture]) e.vote ++ [.u8 e.changes]
      ++ if c.phase = .revealed then [.presence true, .flag e.skipped] else [.presence false] := by
  by_cases h : c.phase = .revealed <;> simp [entryReport, h, optItems]

theorem ballots_areReported : ballotsAreReported := by
  intro s c f b
  have hcause : (fun e : EndCause => [Item.name e.closeCode]) = fun e => [.name (if e = .called then 1 else 0)] := by
    funext e
    cases e <;> rfl
  have hentries : listItems (entryReport s (decide (c.phase = .revealed))) b.entries
      = .count b.entries.length :: (b.entries.flatMap fun e =>
          [.u8 (e.team.val + 1), .name (s.team e.team).state.code]
            ++ optItems (fun v => [.name v.choice.code]) e.vote ++ optItems (fun v => [.clock v.capture]) e.vote
            ++ optItems (fun v => [.clock v.firstCapture]) e.vote ++ [.u8 e.changes]
            ++ if c.phase = .revealed then [.presence true, .flag e.skipped] else [.presence false]) := by
    rw [listItems, funext (entryReport_eq s c)]
  have htallies : talliesItems = fun x : Tallies => optItems (fun n => [.u8 n]) x.counts[0]?
      ++ optItems (fun n => [.u8 n]) x.counts[1]? ++ optItems (fun n => [.u8 n]) x.counts[2]?
      ++ optItems (fun n => [.u8 n]) x.counts[3]? ++ [.u8 x.noChoice] := funext talliesItems_eq
  simp only [ballotReport, hcause, hentries, htallies]
  rfl

theorem toList_eq_map_look (v : Vector Int 16) : v.toList = (List.finRange 16).map fun t => look v t := by
  refine List.ext_getElem (by simp) fun i h₁ h₂ => ?_
  simp [look_getElem]

theorem awardItems_eq : awardItems = fun a : Award =>
    [Item.u8 (a.team.val + 1), .i16 a.points, .name a.cause.code]
      ++ optItems (fun n : Nat => [.i16 n]) a.question ++ optItems (fun n => [.u8 n]) a.bonus := by
  funext a
  cases h : a.question <;> simp [awardItems, optItems, h]

theorem awards_areReported : awardsAreReported := by
  intro s
  refine ⟨fun hfree => ?_, fun time snapshot hheld => ?_⟩
  · simp only [awardsReport, hfree, awardItems_eq, marksItems, listItems, List.append_assoc, List.cons_append,
      List.nil_append]
  · simp only [awardsReport, hheld, awardItems_eq, marksItems, listItems, toList_eq_map_look, List.map_map, List.append_assoc,
      List.cons_append]
    rfl

/-- The saved contexts are reported from the top of the stack, with their levels (R189). -/
theorem savedReports_eq (l : List SavedContext) (n total : Nat) (h : n + l.length = total) :
    savedReports l = (l.zipIdx n).flatMap fun x => savedReport (total - x.2) x.1 := by
  induction l generalizing n with
  | nil => rfl
  | cons x xs ih =>
    rw [List.length_cons] at h
    rw [savedReports, List.zipIdx_cons, List.flatMap_cons, ih (n + 1) (by omega)]
    have hlevel : total - n = xs.length + 1 := by omega
    simp only [hlevel]

theorem voteCount_eq (b : Ballot) : b.voteCount = (b.entries.filter fun e => decide (e.vote ≠ none)).length := by
  have hvoted : ∀ e : BallotEntry, e.vote.isSome = decide (e.vote ≠ none) := fun e => by cases e.vote <;> rfl
  simp only [Ballot.voteCount, hvoted]

theorem stacks_areReported : stacksAreReported := by
  intro s
  refine ⟨?_, fun h => by rw [h]; rfl, fun period last deadline h => by rw [h]; rfl,
    fun period last h => by rw [h]; rfl⟩
  rw [savedReports_eq s.stack 0 s.stack.length (by omega)]
  simp only [savedReport, voteCount_eq]
  rfl

theorem routeReport_eq (s : State) (x : RouteId × Route) : routeReport s x =
    [.u8 x.1.val] ++ x.2.source.items
      ++ [.u8 x.2.panel.val, .u8 x.2.first, .u8 x.2.width, .name x.2.align.code, .name x.2.fill.code,
        .name x.2.look.code]
      ++ (match x.2.layer with
        | .base => [.name 0]
        | .overlay k => [.name 1, .name k.code])
      ++ (match x.2.source with
        | .text l => .presence true :: .count l.length :: l.map fun g => .u8 g.val
        | _ => [.presence false])
      ++ match x.2.layer with
        | .base => [.presence false]
        | .overlay k => [.presence true, .flag (s.conditionHolds k)] := by
  have htext : optItems glyphsItems x.2.source.staticText = match x.2.source with
      | .text l => .presence true :: .count l.length :: l.map fun g => .u8 g.val
      | _ => [.presence false] := by
    cases x.2.source <;> simp [Source.staticText, optItems, glyphsItems_eq]
  have hlayer : x.2.layer.items = match x.2.layer with
      | .base => [.name 0]
      | .overlay k => [.name 1, .name k.code] := by
    cases x.2.layer <;> rfl
  have hholds : optItems (fun b => [.flag b]) (s.overlayHolds x.2.layer) = match x.2.layer with
      | .base => [.presence false]
      | .overlay k => [.presence true, .flag (s.conditionHolds k)] := by
    cases x.2.layer <;> rfl
  simp only [routeReport, routeItems, htext, hlayer, hholds, List.append_assoc, List.cons_append, List.nil_append]

theorem boards_areReported : boardsAreReported := by
  intro s
  refine ⟨?_, fun results total => ?_, fun results => rfl⟩
  · have hpanels : panelReport s = fun p => .name (s.panel p).presence.code
        :: optItems (fun n => [.u8 n]) (s.panel p).cells ++ [.flag (decide ((s.panel p).shown = none))] := by
      funext p
      cases h : (s.panel p).shown <;> simp [panelReport, h]
    have hoperation : s.board.operation.code = match s.board.operation with
        | .idle => 0
        | .publish _ _ _ _ => 1
        | .scan _ => 2 := by
      cases s.board.operation <;> rfl
    simp only [boardReport, hpanels, hoperation, funext (routeReport_eq s)]
    rfl
  · have hresults : PanelResult.items = fun
        | .skipped => [.name 0]
        | .nothing => [.name 1]
        | .sent n => [.name 2, .u8 n]
        | .fault n => [.name 3, .u8 n] := by
      funext r
      cases r <;> rfl
    rw [BoardResult.items, hresults] <;> rfl

theorem parts_areIdentified : partsAreIdentified := by
  refine ⟨Config.revision, fun s => ?_⟩
  cases h : s.link.rate <;> simp only [identifyReport, h, LinkRate.baud] <;> rfl

/-- Settles O29: the queries answer with the reports, which carry the state, or are refused. -/
theorem queriesReportOrAreRefused : Obligations.QueriesReportOrAreRefused :=
  ⟨queries_reportAndChangeNothing, queries_areRefused, items_areLaidOut, teams_areReported, pads_areReported,
    cues_areWritten, cues_areReported, rounds_areReported, queues_areReported, ballots_areReported, awards_areReported,
    stacks_areReported, boards_areReported, parts_areIdentified⟩

end Sys2Proof.Proofs

/-! PROOFS. CUE_LOAD and its checks in their order, and CUE_ERASE (R50, R54, R56, O31). -/

namespace Sys2Proof.Proofs
open Sys2Proof Sys2Proof.Machine

/-! ### What a field of the record reads as -/

theorem allOf_eq_some_iff {α β : Type} {f : α → Option β} {l : List α} {bs : List β} :
    allOf f l = some bs ↔ l.map f = bs.map some := by
  induction l generalizing bs with
  | nil => cases bs <;> simp [allOf]
  | cons a as ih =>
    cases bs with
    | nil =>
      unfold allOf
      split <;> simp
    | cons b bs =>
      rw [List.map_cons, List.map_cons, List.cons.injEq, ← ih, allOf]
      cases f a <;> cases allOf f as <;> simp

theorem allOf_isSome_iff {α β : Type} {f : α → Option β} {l : List α} :
    (allOf f l).isSome = true ↔ ∀ a ∈ l, (f a).isSome = true := by
  induction l with
  | nil => simp [allOf]
  | cons a as ih =>
    rw [List.forall_mem_cons, ← ih, allOf]
    cases f a <;> cases allOf f as <;> simp

theorem allOf_length {α β : Type} {f : α → Option β} {l : List α} {bs : List β} (h : allOf f l = some bs) :
    bs.length = l.length := by
  have hmap : (l.map f).length = (bs.map some).length := congrArg List.length (allOf_eq_some_iff.mp h)
  rw [List.length_map, List.length_map] at hmap
  exact hmap.symm

theorem teamOf_eq_some_iff {b : Byte} {t : TeamId} : teamOf b = some t ↔ b.toNat = t.val + 1 := indexFromOne_eq_some_iff

theorem teamOf_isSome_iff {b : Byte} : (teamOf b).isSome = true ↔ 1 ≤ b.toNat ∧ b.toNat ≤ 16 := by
  rw [Option.isSome_iff_exists]
  constructor
  · rintro ⟨t, ht⟩
    have hval : b.toNat = t.val + 1 := teamOf_eq_some_iff.mp ht
    omega
  · rintro ⟨hlow, hhigh⟩
    exact ⟨⟨b.toNat - 1, by omega⟩, teamOf_eq_some_iff.mpr (show b.toNat = b.toNat - 1 + 1 by omega)⟩

theorem cueKindOf_eq_some_iff {b : Byte} {k : CueKind} : cueKindOf b = some k ↔ b.toNat = k.code := by
  unfold cueKindOf
  cases k <;> split <;> simp_all [CueKind.code]

theorem cueKindOf_eq_none_iff {b : Byte} : cueKindOf b = none ↔ ¬b.toNat ≤ 2 := by
  unfold cueKindOf
  split
  all_goals simp_all
  omega

theorem expiryOf_eq_some_iff {b : Byte} {e : ExpiryVerdict} : expiryOf b = some e ↔ b.toNat = e.code := by
  unfold expiryOf
  cases e <;> split <;> simp_all [ExpiryVerdict.code]

theorem expiryOf_isSome_iff {b : Byte} : (expiryOf b).isSome = true ↔ b.toNat ≤ 1 := by
  unfold expiryOf
  split
  all_goals simp_all
  omega

theorem policyOf_eq_some_iff {b : Byte} {p : ChangePolicy} : policyOf b = some p ↔ b.toNat = p.code := by
  unfold policyOf
  cases p <;> split <;> simp_all [ChangePolicy.code]

theorem policyOf_isSome_iff {b : Byte} : (policyOf b).isSome = true ↔ b.toNat ≤ 1 := by
  unfold policyOf
  split
  all_goals simp_all
  omega

theorem letterOf_eq_some_iff {b : Byte} {o : Letter} : letterOf b = some o ↔ b.toNat = o.code := by
  unfold letterOf
  cases o <;> split <;> simp_all [Letter.code]

theorem letterOf_isSome_iff {b : Byte} : (letterOf b).isSome = true ↔ b.toNat < 4 := by
  unfold letterOf
  split
  all_goals simp_all
  omega

theorem within_isSome_iff {low high : Nat} {b : Byte} :
    (within low high b).isSome = true ↔ low ≤ b.toNat ∧ b.toNat ≤ high := by
  unfold within
  split <;> simp_all

theorem signedWithin_isSome_iff {low high : Int} {h : Half} :
    (signedWithin low high h).isSome = true ↔ low ≤ h.toInt ∧ h.toInt ≤ high := by
  unfold signedWithin
  split <;> simp_all

theorem roundWindowOf_isSome_iff {h : Half} : (roundWindowOf h).isSome = true ↔
    h.toInt = 0 ∨ 5 ≤ h.toInt ∧ h.toInt ≤ 600 := by
  unfold roundWindowOf
  split
  next hzero => simp [hzero]
  next hzero => simp [hzero, signedWithin_isSome_iff]

theorem roundWindowOf_reads {h : Half} {w : Nat} (hw : roundWindowOf h = some w) : (w : Int) = h.toInt := by
  unfold roundWindowOf at hw
  split at hw
  next hzero =>
    rw [hzero, ← Option.some.inj hw]
    rfl
  next =>
    obtain ⟨z, hz, rfl⟩ := Option.map_eq_some_iff.mp hw
    obtain ⟨rfl, hlow, -⟩ := signedWithin_eq_some_iff.mp hz
    omega

theorem eligibleListOf_isSome_iff {o : Option (List Byte)} : (eligibleListOf o).isSome = true ↔
    ∀ l, o = some l → l ≠ [] ∧ ∀ b ∈ l, 1 ≤ b.toNat ∧ b.toNat ≤ 16 := by
  unfold eligibleListOf
  split
  next => simp
  next => simp
  next b l => simp only [Option.isSome_map, allOf_isSome_iff, teamOf_isSome_iff, Option.some.injEq, forall_eq', ne_eq,
    reduceCtorEq, not_false_eq_true, true_and]

theorem allOf_teamOf_reads {bs : List Byte} {ts : List TeamId} (h : allOf teamOf bs = some ts) :
    ts.map (fun t => t.val + 1) = bs.map BitVec.toNat := by
  induction bs generalizing ts with
  | nil =>
    rw [← Option.some.inj (show some [] = some ts from h)]
    rfl
  | cons b bs ih =>
    cases ts with
    | nil => simpa using allOf_length h
    | cons t ts =>
      obtain ⟨hhead, htail⟩ := List.cons.inj (allOf_eq_some_iff.mp h)
      rw [List.map_cons, List.map_cons, ih (allOf_eq_some_iff.mpr htail), teamOf_eq_some_iff.mp hhead]

theorem eligibleListOf_reads {o : Option (List Byte)} {e : Option (List TeamId)} (h : eligibleListOf o = some e) :
    e.map (List.map fun t => t.val + 1) = o.map (List.map BitVec.toNat) := by
  unfold eligibleListOf at h
  split at h
  next =>
    rw [← Option.some.inj h]
    rfl
  next => simp at h
  next b l =>
    obtain ⟨ts, hts, rfl⟩ := Option.map_eq_some_iff.mp h
    rw [Option.map_some, Option.map_some, allOf_teamOf_reads hts]

/-! ### The part of the record that its kind selects -/

theorem floorFieldsOf_eq_some_iff {r : CueFields} {f : FloorFields} : floorFieldsOf r = some f ↔
    r.answerWindow.bind (within 3 60) = some f.answerWindow ∧ r.rebound = some f.rebound
      ∧ r.expiryVerdict.bind expiryOf = some f.expiry := by
  obtain ⟨w, b, e⟩ := f
  unfold floorFieldsOf
  split
  next hw hb he => simp [hw, hb, he]
  next hmissing =>
    simp only [reduceCtorEq, false_iff]
    rintro ⟨hw, hb, he⟩
    exact hmissing _ _ _ hw hb he

theorem floorFieldsOf_isSome_iff {r : CueFields} : (floorFieldsOf r).isSome = true ↔
    (r.answerWindow.bind (within 3 60)).isSome = true ∧ r.rebound.isSome = true
      ∧ (r.expiryVerdict.bind expiryOf).isSome = true := by
  simp only [Option.isSome_iff_exists, floorFieldsOf_eq_some_iff]
  exact ⟨fun ⟨f, hw, hb, he⟩ => ⟨⟨_, hw⟩, ⟨_, hb⟩, ⟨_, he⟩⟩,
    fun ⟨⟨w, hw⟩, ⟨b, hb⟩, ⟨e, he⟩⟩ => ⟨⟨w, b, e⟩, hw, hb, he⟩⟩

theorem map_toNat_of_bind {α : Type} {f : Byte → Option α} {code : α → Nat} {o : Option Byte} {a : α}
    (hf : ∀ {b a}, f b = some a → b.toNat = code a) (h : o.bind f = some a) :
    o.map BitVec.toNat = some (code a) := by
  obtain ⟨b, rfl, hb⟩ := Option.bind_eq_some_iff.mp h
  rw [Option.map_some, hf hb]

theorem map_toNat_of_within {low high n : Nat} {o : Option Byte} (h : o.bind (within low high) = some n) :
    o.map BitVec.toNat = some n :=
  map_toNat_of_bind (code := id) (fun h => (within_eq_some_iff.mp h).1) h

theorem floorFieldsOf_reads {r : CueFields} {f : FloorFields} (h : floorFieldsOf r = some f) :
    floorFieldsTaken r f := by
  obtain ⟨hw, hb, he⟩ := floorFieldsOf_eq_some_iff.mp h
  exact ⟨map_toNat_of_within hw, hb, map_toNat_of_bind expiryOf_eq_some_iff.mp he⟩

theorem correctOptionOf_isSome_iff {n : Nat} {o : Option Byte} (hn : n ≤ 4) :
    (correctOptionOf n o).isSome = true ↔ ∀ b, o = some b → b.toNat < n := by
  cases o with
  | none => simp [correctOptionOf]
  | some b =>
    simp only [Option.some.injEq, forall_eq', correctOptionOf]
    cases ho : letterOf b with
    | none =>
      have hbig : ¬b.toNat < 4 := fun h => by simpa [ho] using letterOf_isSome_iff.mpr h
      simp only [Option.isSome_none, Bool.false_eq_true, false_iff]
      omega
    | some o =>
      rw [letterOf_eq_some_iff.mp ho]
      by_cases h : o.code < n <;> simp [h]

theorem correctOptionOf_reads {n : Nat} {o : Option Byte} {l : Option Letter} (h : correctOptionOf n o = some l) :
    o.map BitVec.toNat = l.map Letter.code := by
  cases o with
  | none =>
    rw [← Option.some.inj (show some none = some l from h)]
    rfl
  | some b =>
    simp only [correctOptionOf] at h
    split at h
    next o ho =>
      split at h
      next =>
        rw [← Option.some.inj h, Option.map_some, Option.map_some, letterOf_eq_some_iff.mp ho]
      next => simp at h
    next => simp at h

theorem pollFieldsOf_eq_some_iff {r : CueFields} {p : PollFields} : pollFieldsOf r = some p ↔
    r.optionCount.bind (within 2 4) = some p.options ∧ r.changePolicy.bind policyOf = some p.policy
      ∧ r.speedPlaces.bind (within 0 3) = some p.places ∧ r.speedPoints.bind (within 0 200) = some p.placePoints
      ∧ correctOptionOf p.options r.correctOption = some p.correct := by
  obtain ⟨options, correct, policy, places, placePoints⟩ := p
  unfold pollFieldsOf
  split
  next n q k z hn hq hk hz =>
    simp only [hn, hq, hk, hz, Option.some.injEq, Option.map_eq_some_iff, PollFields.mk.injEq]
    constructor
    · rintro ⟨l, hl, rfl, rfl, rfl, rfl, rfl⟩
      exact ⟨rfl, rfl, rfl, rfl, hl⟩
    · rintro ⟨rfl, rfl, rfl, rfl, hl⟩
      exact ⟨correct, hl, rfl, rfl, rfl, rfl, rfl⟩
  next hmissing =>
    simp only [reduceCtorEq, false_iff]
    rintro ⟨hn, hq, hk, hz, -⟩
    exact hmissing _ _ _ _ hn hq hk hz

theorem pollFieldsOf_isSome_iff {r : CueFields} : (pollFieldsOf r).isSome = true ↔
    (∃ n, r.optionCount.bind (within 2 4) = some n ∧ (correctOptionOf n r.correctOption).isSome = true)
      ∧ (r.changePolicy.bind policyOf).isSome = true ∧ (r.speedPlaces.bind (within 0 3)).isSome = true
      ∧ (r.speedPoints.bind (within 0 200)).isSome = true := by
  simp only [Option.isSome_iff_exists, pollFieldsOf_eq_some_iff]
  exact ⟨fun ⟨p, hn, hq, hk, hz, hc⟩ => ⟨⟨_, hn, _, hc⟩, ⟨_, hq⟩, ⟨_, hk⟩, ⟨_, hz⟩⟩,
    fun ⟨⟨n, hn, c, hc⟩, ⟨q, hq⟩, ⟨k, hk⟩, ⟨z, hz⟩⟩ => ⟨⟨n, c, q, k, z⟩, hn, hq, hk, hz, hc⟩⟩

theorem kindPartOf_reads {k : CueKind} {r : CueFields} {part : KindPart} (h : kindPartOf k r = some part) :
    (k = .buzz → ∃ f n, part = .buzz f n ∧ floorFieldsTaken r f ∧ r.streakBonus.map BitVec.toNat = some n)
    ∧ (k = .tiebreak → ∃ f, part = .tiebreak f ∧ floorFieldsTaken r f)
    ∧ (k = .poll → ∃ p, part = .poll p ∧ r.optionCount.map BitVec.toNat = some p.options
        ∧ r.correctOption.map BitVec.toNat = p.correct.map Letter.code
        ∧ r.changePolicy.map BitVec.toNat = some p.policy.code
        ∧ r.speedPlaces.map BitVec.toNat = some p.places ∧ r.speedPoints.map BitVec.toNat = some p.placePoints) := by
  cases k with
  | buzz =>
    refine ⟨fun _ => ?_, nofun, nofun⟩
    simp only [kindPartOf] at h
    split at h
    next f n hf hn => exact ⟨f, n, (Option.some.inj h).symm, floorFieldsOf_reads hf, map_toNat_of_within hn⟩
    next => simp at h
  | tiebreak =>
    obtain ⟨f, hf, rfl⟩ := Option.map_eq_some_iff.mp (show (floorFieldsOf r).map _ = _ from h)
    exact ⟨nofun, fun _ => ⟨f, rfl, floorFieldsOf_reads hf⟩, nofun⟩
  | poll =>
    obtain ⟨p, hp, rfl⟩ := Option.map_eq_some_iff.mp (show (pollFieldsOf r).map _ = _ from h)
    obtain ⟨hn, hq, hk, hz, hc⟩ := pollFieldsOf_eq_some_iff.mp hp
    exact ⟨nofun, nofun, fun _ => ⟨p, rfl, map_toNat_of_within hn, correctOptionOf_reads hc,
      map_toNat_of_bind policyOf_eq_some_iff.mp hq, map_toNat_of_within hk, map_toNat_of_within hz⟩⟩

theorem fieldsFit_iff {k : CueKind} {r : CueFields} (hk : r.kind.toNat = k.code) :
    fieldsFit k r = true ↔ kindFieldsAsRequired r := by
  simp only [kindFieldsAsRequired, hk]
  cases k <;> simp only [fieldsFit, CueKind.code, Bool.and_eq_true, Option.isSome_iff_ne_none, Option.isNone_iff_eq_none]
    <;> grind

theorem bind_isSome_iff {α : Type} {f : Byte → Option α} {o : Option Byte} (ho : o ≠ none) :
    (o.bind f).isSome = true ↔ ∀ b, o = some b → (f b).isSome = true := by
  cases o with
  | none => exact absurd rfl ho
  | some b => simp

/-- Where the fields are the kind's, its part of the record is taken exactly when each of them is in its range. -/
theorem kindPartOf_isSome_iff {k : CueKind} {r : CueFields} (hk : r.kind.toNat = k.code)
    (hfit : kindFieldsAsRequired r) : (kindPartOf k r).isSome = true ↔
      (∀ b, r.answerWindow = some b → 3 ≤ b.toNat ∧ b.toNat ≤ 60)
      ∧ (∀ b, r.expiryVerdict = some b → b.toNat ≤ 1) ∧ (∀ b, r.streakBonus = some b → b.toNat ≤ 100)
      ∧ (∀ b, r.optionCount = some b → 2 ≤ b.toNat ∧ b.toNat ≤ 4
          ∧ ∀ o, r.correctOption = some o → o.toNat < b.toNat)
      ∧ (∀ b, r.changePolicy = some b → b.toNat ≤ 1) ∧ (∀ b, r.speedPlaces = some b → b.toNat ≤ 3)
      ∧ ∀ b, r.speedPoints = some b → b.toNat ≤ 200 := by
  obtain ⟨hfloor, hpoll, hstreak⟩ := hfit
  cases k with
  | buzz =>
    obtain ⟨hw, hb, he, hn, hc, hq, hp, hz⟩ := hfloor (by simp [hk, CueKind.code])
    have hs : r.streakBonus ≠ none := hstreak.mpr hk
    have hpart : (kindPartOf .buzz r).isSome = true ↔ (floorFieldsOf r).isSome = true
        ∧ (r.streakBonus.bind (within 0 100)).isSome = true := by
      simp only [kindPartOf]
      cases floorFieldsOf r <;> cases r.streakBonus.bind (within 0 100) <;> simp
    rw [hpart, floorFieldsOf_isSome_iff, bind_isSome_iff hw, bind_isSome_iff he, bind_isSome_iff hs]
    simp [hn, hq, hp, hz, Option.isSome_iff_ne_none.mpr hb, within_isSome_iff, expiryOf_isSome_iff, and_assoc]
  | tiebreak =>
    obtain ⟨hw, hb, he, hn, hc, hq, hp, hz⟩ := hfloor (by simp [hk, CueKind.code])
    have hs : r.streakBonus = none := by
      refine Classical.byContradiction fun h => ?_
      simp [CueKind.code, hstreak.mp h] at hk
    rw [kindPartOf, Option.isSome_map, floorFieldsOf_isSome_iff, bind_isSome_iff hw, bind_isSome_iff he]
    simp [hn, hq, hp, hz, hs, Option.isSome_iff_ne_none.mpr hb, within_isSome_iff, expiryOf_isSome_iff]
  | poll =>
    obtain ⟨hw, hb, he, hn, hq, hp, hz⟩ := hpoll hk
    have hs : r.streakBonus = none := by
      refine Classical.byContradiction fun h => ?_
      simp [CueKind.code, hstreak.mp h] at hk
    rw [kindPartOf, Option.isSome_map, pollFieldsOf_isSome_iff, bind_isSome_iff hq, bind_isSome_iff hp,
      bind_isSome_iff hz]
    obtain ⟨n, hcount⟩ := Option.ne_none_iff_exists'.mp hn
    have hoptions : (∃ m, r.optionCount.bind (within 2 4) = some m ∧ (correctOptionOf m r.correctOption).isSome = true)
        ↔ 2 ≤ n.toNat ∧ n.toNat ≤ 4 ∧ ∀ o, r.correctOption = some o → o.toNat < n.toNat := by
      simp only [hcount, Option.bind_some, within_eq_some_iff]
      constructor
      · rintro ⟨m, ⟨rfl, hlow, hhigh⟩, hc⟩
        exact ⟨hlow, hhigh, (correctOptionOf_isSome_iff hhigh).mp hc⟩
      · rintro ⟨hlow, hhigh, hc⟩
        exact ⟨_, ⟨rfl, hlow, hhigh⟩, (correctOptionOf_isSome_iff hhigh).mpr hc⟩
    rw [hoptions]
    simp [hw, he, hs, hcount, within_isSome_iff, policyOf_isSome_iff]

/-! ### The checks of the record, in their order -/

theorem cueOf_eq_some_iff {k : CueKind} {r : CueFields} {c : Cue} : cueOf k r = some c ↔
    ∃ q, signedWithin 1 999 r.question = some q ∧ c.question = q.toNat
      ∧ signedWithin 0 500 r.correctPoints = some c.correctPoints
      ∧ signedWithin (-500) 0 r.wrongPoints = some c.wrongPoints
      ∧ roundWindowOf r.roundWindow = some c.roundWindow ∧ eligibleListOf r.eligible = some c.eligible
      ∧ kindPartOf k r = some c.part := by
  obtain ⟨question, right, wrong, window, eligible, part⟩ := c
  unfold cueOf
  split
  next hq hr hw hx he hp => simp [hq, hr, hw, hx, he, hp, eq_comm]
  next hmissing =>
    simp only [reduceCtorEq, false_iff]
    rintro ⟨q, hq, -, hr, hw, hx, he, hp⟩
    exact hmissing _ _ _ _ _ _ hq hr hw hx he hp

theorem cueOf_isSome_iff {k : CueKind} {r : CueFields} (hk : r.kind.toNat = k.code)
    (hfit : kindFieldsAsRequired r) : (cueOf k r).isSome = true ↔ fieldsInRange r := by
  have hparts : (cueOf k r).isSome = true ↔ (signedWithin 1 999 r.question).isSome = true
      ∧ (signedWithin 0 500 r.correctPoints).isSome = true ∧ (signedWithin (-500) 0 r.wrongPoints).isSome = true
      ∧ (roundWindowOf r.roundWindow).isSome = true ∧ (eligibleListOf r.eligible).isSome = true
      ∧ (kindPartOf k r).isSome = true := by
    simp only [Option.isSome_iff_exists, cueOf_eq_some_iff]
    exact ⟨fun ⟨c, q, hq, _, hr, hw, hx, he, hp⟩ => ⟨⟨_, hq⟩, ⟨_, hr⟩, ⟨_, hw⟩, ⟨_, hx⟩, ⟨_, he⟩, ⟨_, hp⟩⟩,
      fun ⟨⟨q, hq⟩, ⟨r, hr⟩, ⟨w, hw⟩, ⟨x, hx⟩, ⟨e, he⟩, ⟨p, hp⟩⟩ =>
        ⟨⟨q.toNat, r, w, x, e, p⟩, q, hq, rfl, hr, hw, hx, he, hp⟩⟩
  rw [hparts, kindPartOf_isSome_iff hk hfit, fieldsInRange]
  simp only [signedWithin_isSome_iff, roundWindowOf_isSome_iff, eligibleListOf_isSome_iff, and_assoc]

theorem cueOf_reads {k : CueKind} {r : CueFields} {c : Cue} (hk : r.kind.toNat = k.code) (h : cueOf k r = some c) :
    recordTaken r c := by
  obtain ⟨q, hq, hquestion, hright, hwrong, hwindow, heligible, hpart⟩ := cueOf_eq_some_iff.mp h
  obtain ⟨hbuzz, htiebreak, hpoll⟩ := kindPartOf_reads hpart
  obtain ⟨hq, hlow, -⟩ := signedWithin_eq_some_iff.mp hq
  refine ⟨by omega, (signedWithin_eq_some_iff.mp hright).1.symm, (signedWithin_eq_some_iff.mp hwrong).1.symm,
    roundWindowOf_reads hwindow, eligibleListOf_reads heligible, fun hkind => hbuzz ?_, fun hkind => htiebreak ?_,
    fun hkind => hpoll ?_⟩ <;> cases k <;> simp_all [CueKind.code]

theorem nodup_map_of_injective {α β : Type} {f : α → β} (hf : Function.Injective f) (l : List α) :
    (l.map f).Nodup ↔ l.Nodup :=
  List.pairwise_map.trans ⟨fun h => h.imp fun hne heq => hne (congrArg f heq), fun h => h.imp fun hne heq => hne (hf heq)⟩

theorem map_injective_of_read {l : List Byte} {ts : List TeamId}
    (h : ts.map (fun t => t.val + 1) = l.map BitVec.toNat) : (ts.Nodup ↔ l.Nodup) ∧ ts.length = l.length := by
  have hteam : Function.Injective fun t : TeamId => t.val + 1 := fun t u htu => Fin.ext (Nat.succ.inj htu)
  have hbyte : Function.Injective (BitVec.toNat : Byte → Nat) := fun _ _ => BitVec.eq_of_toNat_eq
  refine ⟨by rw [← nodup_map_of_injective hteam, ← nodup_map_of_injective hbyte, h], ?_⟩
  simpa using congrArg List.length h

theorem eligibleDistinct_iff {r : CueFields} {c : Cue} (h : recordTaken r c) :
    eligibleDistinct c = true ↔ ∀ l, r.eligible = some l → l.Nodup ∧ l.length ≤ 16 := by
  obtain ⟨-, -, -, -, heligible, -⟩ := h
  unfold eligibleDistinct
  split
  next hnone =>
    have hlist : r.eligible = none := by simpa [hnone] using heligible.symm
    simp [hlist]
  next ts hts =>
    obtain ⟨l, hl⟩ : ∃ l, r.eligible = some l := by
      cases hlist : r.eligible with
      | none => simp [hts, hlist] at heligible
      | some l => exact ⟨l, rfl⟩
    rw [hts, hl, Option.map_some, Option.map_some, Option.some.injEq] at heligible
    obtain ⟨hnodup, hlength⟩ := map_injective_of_read heligible
    simp [hl, hnodup, hlength, and_comm]

theorem tiebreakHasNoList_iff {r : CueFields} {c : Cue} {k : CueKind} (hk : r.kind.toNat = k.code)
    (h : recordTaken r c) : tiebreakHasNoList c = true ↔ (r.kind.toNat = 2 → r.eligible = none) := by
  obtain ⟨-, -, -, -, heligible, hbuzz, htiebreak, hpoll⟩ := h
  have hlist : c.eligible = none ↔ r.eligible = none := by
    cases hc : c.eligible <;> cases hr : r.eligible <;> simp [hc, hr] at heligible ⊢
  unfold tiebreakHasNoList
  cases k with
  | buzz =>
    obtain ⟨f, n, hpart, -⟩ := hbuzz hk
    simp [hpart, hk, CueKind.code]
  | poll =>
    obtain ⟨p, hpart, -⟩ := hpoll hk
    simp [hpart, hk, CueKind.code]
  | tiebreak =>
    obtain ⟨f, hpart, -⟩ := htiebreak hk
    simp [hpart, hk, CueKind.code, hlist]

theorem map_toNat_eq_zero_iff {o : Option Byte} {n : Nat} (h : o.map BitVec.toNat = some n) :
    n = 0 ↔ o = some 0#8 := by
  obtain ⟨b, rfl, rfl⟩ := Option.map_eq_some_iff.mp h
  rw [Option.some.injEq, ← BitVec.toNat_inj]
  rfl

theorem speedBonusWhole_iff {r : CueFields} {c : Cue} {k : CueKind} (hk : r.kind.toNat = k.code)
    (h : recordTaken r c) : speedBonusWhole c = true ↔
      (r.kind.toNat = 1 → (r.speedPlaces = some 0#8 ↔ r.speedPoints = some 0#8)) := by
  obtain ⟨-, -, -, -, -, hbuzz, htiebreak, hpoll⟩ := h
  unfold speedBonusWhole
  cases k with
  | buzz =>
    obtain ⟨f, n, hpart, -⟩ := hbuzz hk
    simp [hpart, hk, CueKind.code]
  | tiebreak =>
    obtain ⟨f, hpart, -⟩ := htiebreak hk
    simp [hpart, hk, CueKind.code]
  | poll =>
    obtain ⟨p, hpart, -, -, -, hplaces, hpoints⟩ := hpoll hk
    rw [← map_toNat_eq_zero_iff hplaces, ← map_toNat_eq_zero_iff hpoints]
    simp [hpart, hk, CueKind.code]

/-! ### The first check that fails -/

/-- The checks before the one at position `n` pass. -/
def PassesBelow (a : CueLoadArgs) (n : Nat) : Prop := ∀ m, m < n → passesCheck a m

theorem PassesBelow.one (a : CueLoadArgs) : PassesBelow a 1 := fun m hm => by
  obtain rfl : m = 0 := Nat.lt_one_iff.mp hm
  trivial

theorem PassesBelow.succ {a : CueLoadArgs} {n : Nat} (h : PassesBelow a n) (hn : passesCheck a n) :
    PassesBelow a (n + 1) := fun m hm => by
  rcases Nat.lt_succ_iff_lt_or_eq.mp hm with hlt | rfl
  · exact h m hlt
  · exact hn

/-- What CUE_LOAD's checks answer: the position of the first check that fails, or the record (R54). -/
def LoadChecked (a : CueLoadArgs) : Except Nat (SlotId × Cue) → Prop
  | .error n => 1 ≤ n ∧ n ≤ 7 ∧ ¬passesCheck a n ∧ PassesBelow a n
  | .ok (x, c) => PassesBelow a 8 ∧ a.slot.toNat = x.val ∧ recordTaken a.record c

/-- The outcome of the record's checks, once its kind is known. -/
def RecordChecked (a : CueLoadArgs) : Except Nat Cue → Prop
  | .error n => 1 ≤ n ∧ n ≤ 7 ∧ ¬passesCheck a n ∧ PassesBelow a n
  | .ok c => PassesBelow a 8 ∧ recordTaken a.record c

theorem checkRecord_checked {a : CueLoadArgs} {k : CueKind} (hk : a.record.kind.toNat = k.code)
    (h3 : PassesBelow a 3) : RecordChecked a (checkRecord k a.record) := by
  unfold checkRecord
  split
  next hmisfit =>
    have hfails : ¬passesCheck a 3 := fun h => by simp [(fieldsFit_iff hk).mpr h] at hmisfit
    exact ⟨by decide, by decide, hfails, h3⟩
  next hfits =>
    have hrequired : kindFieldsAsRequired a.record := (fieldsFit_iff hk).mp (by simpa using hfits)
    have h4 : PassesBelow a 4 := h3.succ hrequired
    have hranges := cueOf_isSome_iff hk hrequired
    split
    next hnone =>
      have hfails : ¬passesCheck a 4 := fun h => by simp [hnone] at hranges; exact hranges h
      exact ⟨by decide, by decide, hfails, h4⟩
    next c hc =>
      have htaken := cueOf_reads hk hc
      have h5 : PassesBelow a 5 := h4.succ (hranges.mp (by rw [hc]; rfl))
      split
      next hlist =>
        have hfails : ¬passesCheck a 5 := fun h => by simp [(eligibleDistinct_iff htaken).mpr h] at hlist
        exact ⟨by decide, by decide, hfails, h5⟩
      next hlist =>
        have h6 : PassesBelow a 6 := h5.succ ((eligibleDistinct_iff htaken).mp (by simpa using hlist))
        split
        next hnamed =>
          have hfails : ¬passesCheck a 6 := fun h => by simp [(tiebreakHasNoList_iff hk htaken).mpr h] at hnamed
          exact ⟨by decide, by decide, hfails, h6⟩
        next hnamed =>
          have h7 : PassesBelow a 7 := h6.succ ((tiebreakHasNoList_iff hk htaken).mp (by simpa using hnamed))
          split
          next hbonus =>
            have hfails : ¬passesCheck a 7 := fun h => by simp [(speedBonusWhole_iff hk htaken).mpr h] at hbonus
            exact ⟨by decide, by decide, hfails, h7⟩
          next hbonus => exact ⟨h7.succ ((speedBonusWhole_iff hk htaken).mp (by simpa using hbonus)), htaken⟩

theorem checkLoad_checked (a : CueLoadArgs) : LoadChecked a (checkLoad a) := by
  unfold checkLoad
  split
  next hslot =>
    have hfails : ¬passesCheck a 1 := Nat.not_lt.mpr (slotOf_eq_none_iff.mp hslot)
    exact ⟨by decide, by decide, hfails, .one a⟩
  next x hslot =>
    have hx : a.slot.toNat = x.val := slotOf_eq_some_iff.mp hslot
    have h2 : PassesBelow a 2 := (PassesBelow.one a).succ (show a.slot.toNat < 64 from hx ▸ x.isLt)
    split
    next hkind => exact ⟨by decide, by decide, cueKindOf_eq_none_iff.mp hkind, h2⟩
    next k hkind =>
      have hk := cueKindOf_eq_some_iff.mp hkind
      have h3 : PassesBelow a 3 := h2.succ (show a.record.kind.toNat ≤ 2 by rw [hk]; cases k <;> decide)
      have hrecord := checkRecord_checked hk h3
      split
      next n hn => rwa [hn] at hrecord
      next c hc =>
        rw [hc] at hrecord
        exact ⟨hrecord.1, hx, hrecord.2⟩

theorem loads_areChecked : loadsAreChecked := by
  intro a
  have hchecked := checkLoad_checked a
  cases hload : checkLoad a with
  | error k =>
    rw [hload] at hchecked
    obtain ⟨hlow, hhigh, hfails, hbelow⟩ := hchecked
    refine ⟨fun n => ⟨?_, fun ⟨hn, hn', hnfails, hnbelow⟩ => ?_⟩, fun hall => absurd (hall k hhigh) hfails, nofun⟩
    · rintro ⟨⟩
      exact ⟨hlow, hhigh, hfails, hbelow⟩
    · rcases Nat.lt_trichotomy n k with h | rfl | h
      · exact absurd (hbelow n h) hnfails
      · rfl
      · exact absurd (hnbelow k h) hfails
  | ok xc =>
    rw [hload] at hchecked
    obtain ⟨hall, hslot, htaken⟩ := hchecked
    refine ⟨fun n => ⟨nofun, fun ⟨_, hn, hfails, _⟩ => absurd (hall n (by omega)) hfails⟩, fun _ => ⟨_, _, rfl⟩, ?_⟩
    rintro x c ⟨⟩
    exact ⟨hslot, htaken⟩

/-! ### CUE_LOAD and CUE_ERASE -/

theorem cueLoad_error {a : CueLoadArgs} {n : Nat} (h : checkLoad a = .error n) (s : State) :
    cueLoad (.fits a) s = (s, refuseLoad n) := by
  simp only [cueLoad, h]

theorem cueLoad_ok {a : CueLoadArgs} {x : SlotId} {c : Cue} (h : checkLoad a = .ok (x, c)) (s : State) :
    cueLoad (.fits a) s = (placeCue x c s,
      ok (.name (s.cueSlot x).code :: optItems (fun c => [.i16 c.question]) (s.cueSlot x).record)) := by
  simp only [cueLoad, h]

theorem cueErase_none {target : EraseTarget} (h : eraseSlots target = none) (s : State) :
    cueErase target s = (s, refuse .badValue) := by
  simp only [cueErase, h]

theorem cueErase_some {target : EraseTarget} {covers : SlotId → Bool} (h : eraseSlots target = some covers)
    (s : State) : cueErase target s = (eraseCues covers s, ok [.u8 (s.recordCount covers)]) := by
  simp only [cueErase, h]

/-- The cue memory after it was written and the reply joined the queue. -/
theorem cues_of_unchanged {u t : State} (h : unchangedBut [.link] u t) : t.cues = u.cues := h .cues (by decide)

theorem cueLoad_placesTheRecord : cueLoadPlacesTheRecord := by
  intro s a hs
  obtain ⟨-, -, -, -, hquiet⟩ := id hs
  refine ⟨fun x c h => ?_, fun n h => completes_left rfl rfl hs (cueLoad_error h s.told), completes_left rfl rfl hs rfl⟩
  refine completes_writes rfl rfl hs (cueLoad_ok h s.told) (withCues_unchangedBut s.told _) (by decide) (by decide)
    hquiet fun t ht => ?_
  have hcues := cues_of_unchanged ht
  have hslot : ∀ y, t.cueSlot y = if x = y then .loaded c else s.cueSlot y := fun y => by
    rw [State.cueSlot, hcues]
    exact cueSlot_placeCue x y c s.told
  refine ⟨by rw [hslot, if_pos rfl], fun y hy => by rw [hslot, if_neg hy.symm], ?_, ?_⟩ <;> rw [hcues] <;> rfl

theorem cueErase_emptiesItsTarget : cueEraseEmptiesItsTarget := by
  intro s target hs
  obtain ⟨-, -, -, -, hquiet⟩ := id hs
  refine ⟨fun covers h => ?_, fun h => completes_left rfl rfl hs (cueErase_none h s.told), ?_, ?_, ?_⟩
  · refine completes_writes rfl rfl hs (cueErase_some h s.told) (withCues_unchangedBut s.told _) (by decide)
      (by decide) hquiet fun t ht => ?_
    have hcues := cues_of_unchanged ht
    refine ⟨fun x => ?_, ?_, ?_⟩
    · rw [State.cueSlot, hcues]
      exact cueSlot_eraseCues covers s.told x
    all_goals rw [hcues]; rfl
  · rintro b x rfl hb
    exact ⟨_, by rw [eraseSlots, slotOf_eq_some_iff.mpr hb]; rfl, fun y => decide_eq_true_iff⟩
  · rintro b p rfl hb
    refine ⟨_, by rw [eraseSlots, show pageOf b = some p from indexBelow_eq_some_iff.mpr hb]; rfl, fun y => ?_⟩
    rw [decide_eq_true_iff, Fin.ext_iff]
    rfl
  · rintro rfl
    exact ⟨_, rfl, fun _ => rfl⟩

/-- Settles O31: CUE_LOAD reports its first failing check or places the record, and CUE_ERASE empties its target. -/
theorem cueLoadAndEraseAct : Obligations.CueLoadAndEraseAct :=
  ⟨loads_areChecked, cueLoad_placesTheRecord, cueErase_emptiesItsTarget⟩

end Sys2Proof.Proofs

/-! PROOFS. ROUND_ARM makes a context from a cue and plays the cue (R58 to R61, O33); a tiebreak interjects and pushes
the active context (R67, O34). -/

namespace Sys2Proof.Proofs
open Sys2Proof Sys2Proof.Machine

/-! ### A change of the round -/

/-- The state after a publish taken on a round change: the engine as written, the desk judged for the new context,
and the kinds signalled. -/
theorem roundChanged_of_publishTaken {s v t : State} {ks : List NoticeKind} (h : PublishTaken s (signalRoundChange v) t)
    (hdesk : v.desk = s.desk) (hnotices : v.notices = s.notices.withPending ks) :
    t.engine = v.engine ∧ t.desk = s.desk.judged (needFor s.desk.setting v.engine.active)
      ∧ signals (ks ++ [.round]) s t := by
  rw [signalRoundChange_eq] at h
  refine ⟨h.engine, h.desk.trans (by rw [hdesk]), h.signals ?_⟩
  rw [hnotices, withPending_append]

theorem roundChangesTo_of_publishTaken {s v t : State} {active : Option Context}
    (h : PublishTaken s (signalRoundChange v) t) (hactive : v.engine.active = active) (hdesk : v.desk = s.desk)
    (hnotices : v.notices = s.notices) : roundChangesTo active [] s t := by
  obtain ⟨hengine, hd, hsignals⟩ := roundChanged_of_publishTaken h hdesk (hnotices.trans (withPending_nil _).symm)
  exact ⟨hengine ▸ hactive, hactive ▸ hd, hsignals⟩

theorem signalRoundChange_board {v : State} : (signalRoundChange v).board = v.board.triggered := by
  rw [signalRoundChange_eq]

/-! ### The new context and the played cue -/

theorem armedFrom_newContext (x : SlotId) (cue : Cue) (eligible : List TeamId) :
    armedFrom x cue eligible (newContext x cue eligible) := by
  refine ⟨rfl, rfl, rfl, rfl, rfl, rfl, rfl, rfl, rfl, rfl, rfl, rfl, rfl, rfl, rfl, rfl, rfl, rfl, fun h => ?_,
    fun h => ?_⟩
  · cases hpart : cue.part with
    | poll p => simp [Context.isPoll, newContext, hpart] at h
    | _ => simp [newContext, hpart]
  · cases hpart : cue.part with
    | poll p => exact ⟨Ballot.atArming eligible, by simp only [newContext, hpart], rfl, rfl, rfl, rfl, rfl, rfl⟩
    | _ => simp [Context.isPoll, newContext, hpart] at h

theorem playCue_notices (x : SlotId) (cue : Cue) (s : State) :
    (playCue x cue s).notices = s.notices.withPending (armingKinds x) := by
  unfold playCue armingKinds lastOfPage
  by_cases h : x.val % 16 = 15
  · simp [h, notePageWrap, setPending_eq]
  · simp [h, withPending_nil]

theorem playCue_slots (x : SlotId) (cue : Cue) (s : State) :
    (playCue x cue s).cues.slots = put s.cues.slots x (.played cue) := by
  unfold playCue notePageWrap
  split <;> rfl

theorem playCue_pointer (x : SlotId) (cue : Cue) (s : State) : (playCue x cue s).cues.pointer = nextSlot x := by
  unfold playCue notePageWrap
  split <;> rfl

theorem playCue_wrapped (x : SlotId) (cue : Cue) (s : State) : (playCue x cue s).cues.wrapped
    = if x.val % 16 = 15 then insertAsc (pageOfSlot x) s.cues.wrapped else s.cues.wrapped := by
  unfold playCue notePageWrap lastOfPage
  by_cases h : x.val % 16 = 15 <;> simp [h, setPending]

theorem slotPlayed_of_cues {x : SlotId} {cue : Cue} {s t : State} (h : t.cues = (playCue x cue s).cues) :
    slotPlayed x cue s t := by
  have hslot : ∀ y, t.cueSlot y = if x = y then .played cue else s.cueSlot y := fun y => by
    rw [State.cueSlot, h, playCue_slots]
    exact look_put _ _ _ _
  refine ⟨by rw [hslot, if_pos rfl], fun y hy => by rw [hslot, if_neg hy.symm], ?_, ?_⟩
  · rw [h, playCue_pointer, nextSlot]
    split <;> rfl
  · rw [h, playCue_wrapped]

theorem armContext_unchangedBut (x : SlotId) (cue : Cue) (s : State) :
    unchangedBut [.board, .notices, .desk, .cues, .engine] s (armContext x cue s) := by
  intro b hb
  cases b <;> simp [Block.same] at hb ⊢

/-- What is left after a context is armed from `v`, when `v` has the round, the cues and the notices of `s`. -/
theorem armed_of_publishTaken {x : SlotId} {cue : Cue} {s v t : State} (h : PublishTaken s (armContext x cue v) t)
    (hengine : v.engine = s.engine) (hdesk : v.desk = s.desk) (hcues : v.cues = s.cues)
    (hnotices : v.notices = s.notices) :
    (∃ c, armedFrom x cue (v.eligibleFor cue) c ∧ roundChangesAfter (some c) (armingKinds x) s t)
      ∧ slotPlayed x cue s t ∧ t.engine.tiePointer = s.engine.tiePointer := by
  have hplayed : t.cues = (playCue x cue v).cues := h.cues.trans (by rw [armContext, signalRoundChange_eq]; rfl)
  have hkept : slotPlayed x cue s t := by
    have hslots := slotPlayed_of_cues hplayed
    simpa only [slotPlayed, State.cueSlot, hcues] using hslots
  obtain ⟨ht, htdesk, hsignals⟩ := roundChanged_of_publishTaken (ks := armingKinds x) h
    (show ((playCue x cue v).setActive _).desk = s.desk by simpa using hdesk)
    (show (playCue x cue v).notices = _ from (playCue_notices x cue v).trans (by rw [hnotices]))
  refine ⟨⟨_, armedFrom_newContext x cue _, congrArg Engine.active ht, htdesk, hsignals⟩, hkept, ?_⟩
  rw [ht, ← hengine]
  simp [State.setActive]

theorem armContext_board (x : SlotId) (cue : Cue) (s : State) : (armContext x cue s).board = s.board.triggered := by
  rw [armContext, signalRoundChange_board]
  simp [State.setActive]

/-! ### ROUND_ARM -/

theorem roundArm_badSlot {o : Option Byte} {s : State} (h : s.slotToArm o = none) :
    roundArm o s = (s, refuse .badValue) := by
  simp only [roundArm, h]

theorem roundArm_empty {o : Option Byte} {x : SlotId} {s : State} (hx : s.slotToArm o = some x)
    (h : (s.cueSlot x).record = none) : roundArm o s = (s, { result := .refused .emptyCue, data := [.slot x] }) := by
  simp only [roundArm, hx, h]

theorem roundArm_cue {o : Option Byte} {x : SlotId} {cue : Cue} {s : State} (hx : s.slotToArm o = some x)
    (h : (s.cueSlot x).record = some cue) : roundArm o s = armCue x cue s := by
  simp only [roundArm, hx, h]

theorem armCue_atRest (x : SlotId) (cue : Cue) {s : State} (h : s.atRest = true) :
    armCue x cue s = armOrdinary x cue s := by
  unfold armCue
  split
  next => rfl
  next c hc =>
    have hphase : c.phase.needsSprint = false := by simpa [State.atRest, hc] using h
    cases hp : c.phase <;> simp [hp, Phase.needsSprint] at hphase ⊢

theorem armOrdinary_refused {x : SlotId} {cue : Cue} {s : State} {a : Answer} (h : teamsRefusal s cue = some a) :
    armOrdinary x cue s = (s, a) := by
  simp only [armOrdinary, h]

theorem armOrdinary_arms {x : SlotId} {cue : Cue} {s : State} (h : teamsRefusal s cue = none) :
    armOrdinary x cue s = (armContext x cue s, ok (armReply s x cue)) := by
  simp only [armOrdinary, h]

theorem roundArm_armsACue : roundArmArmsACue := by
  intro s slot x hs hx
  refine ⟨fun cue hcue hrest hteams => ?_, fun cue a hcue hrest hteams => ?_, fun hempty => ?_⟩
  · have hrun : roundArm slot s.told = (armContext x cue s.told, ok (armReply s.told x cue)) := by
      rw [roundArm_cue (s := s.told) hx hcue, armCue_atRest x cue (s := s.told) hrest,
        armOrdinary_arms (s := s.told) hteams]
    exact completes_publishing rfl rfl hs hrun (armContext_board x cue s.told) (armContext_unchangedBut x cue s.told)
      (by decide) (by decide) (by decide) fun t ht =>
        armed_of_publishTaken (v := s.told) ht rfl rfl rfl rfl
  · refine completes_left rfl rfl hs ?_
    exact (roundArm_cue (s := s.told) hx hcue).trans ((armCue_atRest x cue (s := s.told) hrest).trans
      (armOrdinary_refused (s := s.told) hteams))
  · exact completes_left rfl rfl hs (roundArm_empty (s := s.told) hx hempty)

/-- Settles O33: ROUND_ARM arms a cue's context for the eligible teams, or is refused. -/
theorem roundArmMakesAContext : Obligations.RoundArmMakesAContext :=
  ⟨fun s _ hs h => completes_left rfl rfl hs (roundArm_badSlot (s := s.told) h), roundArm_armsACue, cues_needTeams⟩

/-! ### Interjections -/

theorem pauseWindow_eq (now : ClockValue) (c : Context) : c.pauseWindow now = { c with
    roundRemaining := (match c.roundDeadline with
      | some d => some (clockDiff now d).toNat
      | none => c.roundRemaining)
    roundDeadline := none } := by
  unfold Context.pauseWindow
  split
  next h =>
    cases c
    simp_all
  next h => simp [h, ticksLeft]

theorem armCue_interjects {x : SlotId} {cue : Cue} {f : FloorFields} {c : Context} {s : State}
    (hc : s.engine.active = some c) (hpart : cue.part = .tiebreak f) (hphase : c.phase = .armed ∨ c.phase = .opened) :
    armCue x cue s = armInterjection x cue c s := by
  rcases hphase with h | h <;> simp only [armCue, hc, hpart, h]

theorem armCue_wrongState {x : SlotId} {cue : Cue} {c : Context} {s : State} (hc : s.engine.active = some c)
    (hrest : s.atRest = false) (h : (∀ f, cue.part ≠ .tiebreak f) ∨ (c.phase ≠ .armed ∧ c.phase ≠ .opened)) :
    armCue x cue s = (s, refuse .wrongState) := by
  have hneeds : c.phase.needsSprint = true := by simpa [State.atRest, hc] using hrest
  simp only [armCue, hc]
  split
  next hphase => simp [hphase, Phase.needsSprint] at hneeds
  next hphase => simp [hphase, Phase.needsSprint] at hneeds
  next f hphase hpart => exact absurd hpart (h.resolve_right (by simp [hphase]) f)
  next f hphase hpart => exact absurd hpart (h.resolve_right (by simp [hphase]) f)
  next => rfl

theorem armInterjection_full {x : SlotId} {cue : Cue} {c : Context} {s : State} (h : 3 ≤ s.stack.length) :
    armInterjection x cue c s = (s, refuse .stackFull) := if_pos h

theorem armInterjection_refused {x : SlotId} {cue : Cue} {c : Context} {s : State} {a : Answer}
    (h : s.stack.length < 3) (ha : teamsRefusal s cue = some a) : armInterjection x cue c s = (s, a) := by
  rw [armInterjection, if_neg (show ¬Config.maxStack ≤ s.stack.length from Nat.not_le.mpr h)]
  simp only [ha]

theorem armInterjection_arms {x : SlotId} {cue : Cue} {c : Context} {s : State} (h : s.stack.length < 3)
    (ha : teamsRefusal s cue = none) : armInterjection x cue c s
      = (armContext x cue (pushContext .tiebreak c s), ok (armReply s x cue ++ [.u8 (s.stack.length + 1)])) := by
  rw [armInterjection, if_neg (show ¬Config.maxStack ≤ s.stack.length from Nat.not_le.mpr h)]
  simp [ha, pushContext]

theorem interjection_unchangedBut (x : SlotId) (cue : Cue) (c : Context) (s : State) :
    unchangedBut [.board, .notices, .desk, .cues, .engine, .stack] s
      (armContext x cue (pushContext .tiebreak c s)) := by
  intro b hb
  cases b <;> simp [Block.same] at hb ⊢

/-- Settles O34: a tiebreak armed over an armed or open context pushes it, or is refused. -/
theorem interjectionPushesTheContext : Obligations.InterjectionPushesTheContext := by
  intro s slot x cue c hs hx hcue hc
  have harm : roundArm slot s.told = armCue x cue s.told := roundArm_cue (s := s.told) hx hcue
  refine ⟨fun f hpart hphase hroom htop => ?_, fun f hpart hphase hfull => ?_,
    fun f a hpart hphase hroom hrefused => ?_, fun hrest h => ?_⟩
  · have hteams : teamsRefusal s.told cue = none := (teamsRefusal_tiebreak hpart).2.2 htop
    have hrun := harm.trans ((armCue_interjects (s := s.told) hc hpart hphase).trans
      (armInterjection_arms (s := s.told) hroom hteams))
    have hreply : armReply s.told x cue = [.slot x, .i16 cue.question, .name 2] ++ teamsItems s.topTeams ++ [.name 1] := by
      rw [armReply, eligibleFor_told, eligibleFor_tiebreak hpart, hpart]
      rfl
    rw [hreply] at hrun
    refine completes_publishing rfl rfl hs hrun (armContext_board x cue _) (interjection_unchangedBut x cue c s.told)
      (by decide) (by decide) (by decide) fun t ht => ?_
    obtain ⟨hround, hslot, hpointer⟩ := armed_of_publishTaken (v := pushContext .tiebreak c s.told) ht rfl rfl rfl rfl
    have heligible : (pushContext .tiebreak c s.told).eligibleFor cue = s.topTeams := eligibleFor_tiebreak hpart
    refine ⟨heligible ▸ hround, hslot, hpointer, c.pauseWindow s.clock, ?_, pauseWindow_eq s.clock c⟩
    exact ht.stack.trans (armContext_frame x cue _).2.2.2.1
  · exact completes_left rfl rfl hs (harm.trans ((armCue_interjects (s := s.told) hc hpart hphase).trans
      (armInterjection_full (s := s.told) hfull)))
  · exact completes_left rfl rfl hs (harm.trans ((armCue_interjects (s := s.told) hc hpart hphase).trans
      (armInterjection_refused (s := s.told) hroom hrefused)))
  · exact completes_left rfl rfl hs (harm.trans (armCue_wrongState (s := s.told) hc hrest h))

end Sys2Proof.Proofs

/-! PROOFS. ROUND_OPEN, ROUND_ABORT and ROUND_CLEAR (R66, R70, R71, O36), with the context a round closes as. -/

namespace Sys2Proof.Proofs
open Sys2Proof Sys2Proof.Machine

/-! ### Windows and closed contexts -/

theorem startWindow_eq (now : ClockValue) (c : Context) : c.startWindow now = { c with
    roundDeadline := (match c.roundRemaining with
      | some (n + 1) => some (now + BitVec.ofNat 32 (n + 1))
      | some 0 => c.roundDeadline
      | none => c.roundDeadline) } := by
  obtain ⟨⟩ := c
  unfold Context.startWindow
  split
  next h => simp_all
  next h => simp_all
  next n h => simp_all [ticksAfter]

theorem opened_eq (now : ClockValue) {c : Context} (h : c.held = false) : c.opened now = openedAt now c := by
  have hfree : ¬({ c with phase := .opened, openInstant := some now } : Context).held = true := by simp [h]
  rw [Context.opened, Context.startUnlessHeld, if_neg hfree, startWindow_eq]
  rfl

theorem talliedAtClose_ballot (s : State) (c : Context) :
    (c.isPoll = false → (c.talliedAtClose s).ballot = c.ballot)
      ∧ ∀ f b, c.pollFields = some f → c.ballot = some b → (c.talliedAtClose s).ballot = some { b with
          tallies := some (tallyOf f.options (b.entries.filter fun e => s.teamPresent e.team)) } := by
  refine ⟨fun h => ?_, fun f b hf hb => ?_⟩
  · have hnone : c.pollFields = none := (pollFields_eq_none_iff c).mpr h
    simp [Context.talliedAtClose, hnone]
  · simp only [Context.talliedAtClose, hf, hb]
    rfl

theorem talliedAtClose_window (s : State) (c : Context) : (c.talliedAtClose s).roundDeadline = c.roundDeadline
    ∧ (c.talliedAtClose s).roundRemaining = c.roundRemaining := by
  unfold Context.talliedAtClose
  split <;> exact ⟨rfl, rfl⟩

theorem closedAs_closed (s : State) (e : Ending) (c : Context) :
    closedAs s e c ((c.talliedAtClose s).closed s.clock e) := by
  obtain ⟨hdeadline, hremaining⟩ := talliedAtClose_window s c
  obtain ⟨hkept, htallied⟩ := talliedAtClose_ballot s c
  have hballot : ((c.talliedAtClose s).closed s.clock e).ballot = (c.talliedAtClose s).ballot := by
    simp [Context.closed, pauseWindow_eq]
  have hleft : ((c.talliedAtClose s).closed s.clock e).roundRemaining = (match c.roundDeadline with
      | some x => some (clockDiff s.clock x).toNat
      | none => c.roundRemaining) := by
    simp only [Context.closed, pauseWindow_eq, hdeadline, hremaining] <;> rfl
  simp only [closedAs, hballot]
  refine ⟨by simp, by simp, by simp, by simp, by simp, by simp, by simp, by simp, by simp, by simp, hleft.trans rfl,
    by simp, by simp, by simp, by simp, by simp, by simp, by simp, hkept, htallied⟩

/-! ### What the round engine reads -/

/-- The state `v` is `s` as far as the round engine reads it: the clock, the line, the debounce, the tie pointer and
who is present. -/
structure SameRound (s v : State) : Prop where
  clock : v.clock = s.clock
  desk : v.desk = s.desk
  debounce : v.debounce = s.debounce
  pointer : v.engine.tiePointer = s.engine.tiePointer
  present : ∀ t, v.teamPresent t = s.teamPresent t

theorem SameRound.told (s : State) : SameRound s s.told := ⟨rfl, rfl, rfl, rfl, fun _ => rfl⟩

/-- The round's state after closing it: the context is closed, the desk is judged for it. -/
theorem closesRound_of_publishTaken {e : Ending} {c : Context} {s v t : State}
    (h : PublishTaken s (closeRound e c v) t) (hv : SameRound s v) : closesRound e c s t := by
  have hclosed := closedAs_closed v e c
  simp only [closedAs, hv.clock, hv.present] at hclosed
  rw [closeRound, signalRoundChange_eq] at h
  refine ⟨_, hclosed, h.engine.trans ?_, h.desk.trans ?_⟩ <;> simp [State.setActive, hv.pointer, hv.desk, hv.clock]

theorem closeRound_notices (e : Ending) (c : Context) (s : State) :
    (closeRound e c s).notices = s.notices.withPending [.round] := by
  rw [closeRound, signalRoundChange_eq]
  rfl

theorem closeRound_board (e : Ending) (c : Context) (s : State) :
    (closeRound e c s).board = s.board.triggered := signalRoundChange_board

theorem closeRound_unchangedBut (e : Ending) (c : Context) (s : State) :
    unchangedBut [.board, .notices, .desk, .engine] s (closeRound e c s) := by
  intro b hb
  cases b <;> simp [Block.same] at hb ⊢

/-- A round that closes, and what is signalled with it. -/
theorem closedRound_of_publishTaken {e : Ending} {c : Context} {s v t : State}
    (h : PublishTaken s (closeRound e c v) t) (hv : SameRound s v) (hnotices : v.notices = s.notices) :
    (∃ d, closedAs s e c d ∧ roundChangesTo (some d) [] s t) ∧ t.engine.tiePointer = s.engine.tiePointer := by
  obtain ⟨d, hclosed, hengine, hdesk⟩ := closesRound_of_publishTaken h hv
  refine ⟨⟨d, hclosed, by rw [hengine], hdesk, h.signals ?_⟩, by rw [hengine]⟩
  rw [closeRound_notices, hnotices]

/-! ### A new active context -/

theorem signalActive_unchangedBut (c : Option Context) (s : State) :
    unchangedBut [.board, .notices, .desk, .engine] s (signalRoundChange (s.setActive c)) := by
  intro b hb
  cases b <;> simp [Block.same] at hb ⊢

theorem completes_roundChange {i : Instr} {c : Command} {kind : Byte} {s : State} {a : Answer}
    {active : Option Context} (hi : i.frameCommand = some c) (hk : c.code = kind) (hs : s.ready)
    (hrun : runCommand c s.told = (signalRoundChange (s.told.setActive active), a)) :
    completes i s kind a [.board, .notices, .desk, .engine] fun t =>
      roundChangesTo active [] s t ∧ t.engine.tiePointer = s.engine.tiePointer := by
  refine completes_publishing hi hk hs hrun signalRoundChange_board (signalActive_unchangedBut active s.told)
    (by decide) (by decide) (by decide) fun t ht => ⟨roundChangesTo_of_publishTaken ht rfl rfl rfl, ?_⟩
  obtain ⟨hengine, -⟩ := roundChanged_of_publishTaken ht rfl (withPending_nil _).symm
  rw [hengine]
  rfl

/-! ### ROUND_OPEN, ROUND_ABORT and ROUND_CLEAR -/

theorem roundOpen_sprint {s : State} {c : Context} (hc : s.engine.active = some c) (hphase : c.phase = .armed)
    (hheld : c.held = false) (hspeed : s.desk.speed = .sprint) (a : NoArgs) : roundOpen a s
      = (signalRoundChange (s.setActive (some (openedAt s.clock c))), ok [.name 3]) := by
  simp only [roundOpen, hc, hphase, hspeed, if_true, enterOpen, opened_eq s.clock hheld]
  rfl

theorem roundOpen_roam {s : State} {c : Context} (hc : s.engine.active = some c) (hphase : c.phase = .armed)
    (hspeed : s.desk.speed = .roam) (a : NoArgs) : roundOpen a s
      = (signalRoundChange (s.setActive (some { c with phase := .opening })), ok [.name 2]) := by
  simp only [roundOpen, hc, hphase, hspeed, if_true, reduceCtorEq, if_false]
  rfl

theorem roundOpen_refused {s : State} (h : ∀ c, s.engine.active = some c → c.phase ≠ .armed) (a : NoArgs) :
    roundOpen a s = (s, refuse .wrongState) := by
  unfold roundOpen
  split
  next => rfl
  next c hc => rw [if_neg (h c hc)]

theorem roundOpen_opensOrWaits : roundOpenOpensOrWaits := by
  intro s hs
  refine ⟨fun c hc hphase hheld => ⟨fun hspeed => ?_, fun hspeed => ?_⟩, fun h => ?_⟩
  · exact completes_roundChange rfl rfl hs (roundOpen_sprint (s := s.told) hc hphase hheld hspeed .none)
  · exact completes_roundChange rfl rfl hs (roundOpen_roam (s := s.told) hc hphase hspeed .none)
  · exact completes_left rfl rfl hs (roundOpen_refused (s := s.told) h .none)

theorem roundAbort_closes {s : State} {c : Context} (hc : s.engine.active = some c)
    (hphase : c.phase.needsSprint = true) (a : NoArgs) :
    roundAbort a s = (closeRound ⟨.aborted, .aborted⟩ c s, ok [.name c.phase.code]) := by
  simp only [roundAbort, hc]
  split
  next h => simp [h, Phase.needsSprint] at hphase
  next h => simp [h, Phase.needsSprint] at hphase
  all_goals rfl

theorem roundAbort_refused {s : State} (h : s.atRest = true) (a : NoArgs) :
    roundAbort a s = (s, refuse .wrongState) := by
  unfold roundAbort
  split
  next => rfl
  next c hc =>
    have hphase : c.phase.needsSprint = false := by simpa [State.atRest, hc] using h
    cases hp : c.phase <;> simp [hp, Phase.needsSprint] at hphase ⊢

theorem roundClear_drops {s : State} {c : Context} (hc : s.engine.active = some c)
    (hphase : c.phase = .closed ∨ c.phase = .revealed) (a : NoArgs) :
    roundClear a s = (signalRoundChange (s.setActive none), ok []) := by
  rcases hphase with h | h <;> simp only [roundClear, hc, h]

theorem roundClear_refused {s : State} (h : s.engine.active = none ∨ s.atRest = false) (a : NoArgs) :
    roundClear a s = (s, refuse .wrongState) := by
  unfold roundClear
  split
  next => rfl
  next c hc =>
    have hphase : c.phase.needsSprint = true := by
      rcases h with h | h
      · simp [hc] at h
      · simpa [State.atRest, hc] using h
    cases hp : c.phase <;> simp [hp, Phase.needsSprint] at hphase ⊢

theorem abort_closesAndClearDrops : abortClosesAndClearDrops := by
  intro s hs
  refine ⟨fun c hc hphase => ?_, fun c hc hphase => ?_, fun h => ?_, fun h => ?_⟩
  · exact completes_publishing rfl rfl hs (roundAbort_closes (s := s.told) hc hphase .none) (closeRound_board _ c s.told)
      (closeRound_unchangedBut _ c s.told) (by decide) (by decide) (by decide) fun t ht =>
        closedRound_of_publishTaken ht (.told s) rfl
  · exact completes_roundChange rfl rfl hs (roundClear_drops (s := s.told) hc hphase .none)
  · exact completes_left rfl rfl hs (roundAbort_refused (s := s.told) h .none)
  · exact completes_left rfl rfl hs (roundClear_refused (s := s.told) h .none)

/-- Settles O36: ROUND_OPEN opens or waits for the sprint, ROUND_ABORT closes, and ROUND_CLEAR drops the context. -/
theorem roundOpenAbortAndClearAct : Obligations.RoundOpenAbortAndClearAct :=
  ⟨roundOpen_opensOrWaits, abort_closesAndClearDrops⟩

end Sys2Proof.Proofs

/-! PROOFS. Verdicts, and what the floor pass after them does with the round (R115 to R120): JUDGE (O38), CALL_TIME
(O37) and the answer expiry (O39). -/

namespace Sys2Proof.Proofs
open Sys2Proof Sys2Proof.Machine

/-! ### Grants -/

theorem grantedAs_granted (now : ClockValue) (head : Claim) (rest : List Claim) (c : Context) :
    grantedAs now head rest c (c.granted now head rest) := by
  simp only [Context.granted, pauseWindow_eq]
  exact ⟨rfl, rfl, rfl, rfl, rfl, rfl, rfl, rfl, rfl, rfl, rfl, rfl, rfl, rfl, rfl, rfl, rfl, rfl, rfl⟩

theorem tieAfterGrant_eq (pointer : TeamId) (head : Claim) (rest : List Claim) :
    tiePointerAfter pointer head rest = tieAfterGrant pointer head rest := by
  cases rest <;> rfl

theorem settled_iff {s v : State} (hv : SameRound s v) (q : Claim) : v.settled q = true ↔ hasSettled s q := by
  rw [State.settled, State.span, State.cyclesSince, hv.debounce, hv.desk, decide_eq_true_iff]
  rfl

theorem grantFloor_eq {s v : State} (hv : SameRound s v) (head : Claim) (rest : List Claim) (c : Context) :
    grantFloor head rest c v = { v with
      engine := { active := some (c.granted s.clock head rest)
                  tiePointer := tieAfterGrant s.engine.tiePointer head rest }
      notices := v.notices.withPending [.floor] } := by
  rw [grantFloor, setPending_eq, tieAfterGrant_eq, hv.clock, hv.pointer]

/-! ### The floor pass -/

theorem SameRound.signalQueueChange {s v : State} (h : SameRound s v) : SameRound s (Machine.signalQueueChange v) := by
  rw [signalQueueChange_eq]
  exact ⟨h.clock, h.desk, h.debounce, h.pointer, h.present⟩

theorem SameRound.handOver {s v : State} (h : SameRound s v) (a : Award) : SameRound s (Machine.handOver a v) := by
  refine ⟨by simp [h.clock], by simp [h.desk], by simp [h.debounce], by simp [h.pointer], fun t => ?_⟩
  rw [State.teamPresent, handOver_state, ← h.present]
  rfl

/-- A round change that leaves `d` active: the desk is judged for `d`, and the round is signalled after the kinds
already pending. -/
theorem activeRound_of_publishTaken {s v t : State} {d : Context} {n : NoticeUnit} {ks : List NoticeKind}
    (h : PublishTaken s (signalRoundChange (v.setActive (some d))) t) (hv : SameRound s v)
    (hnotices : v.notices = n.withPending ks) :
    t.engine = { active := some d, tiePointer := s.engine.tiePointer }
      ∧ t.desk = s.desk.judged (needFor s.desk.setting (some d))
      ∧ endsWith (n.withPending (ks ++ [.round])) s t := by
  rw [signalRoundChange_eq] at h
  refine ⟨h.engine.trans ?_, h.desk.trans ?_, ?_⟩
  · simp [State.setActive, hv.pointer]
  · simp [State.setActive, hv.desk]
  · have hends := h.ends
    simpa only [State.setActive, hnotices, withPending_append] using hends

theorem backIn_eq (phase : Phase) (now : ClockValue) {c : Context} (h : c.held = false) :
    ({ c with phase := phase } : Context).startUnlessHeld now = backIn phase now c := by
  have hfree : ¬({ c with phase := phase } : Context).held = true := by simp [h]
  rw [Context.startUnlessHeld, if_neg hfree, startWindow_eq]
  rfl

theorem allLockedOut_iff {s v : State} (hv : SameRound s v) (c : Context) :
    v.allLockedOut c = true ↔ ∀ u ∈ c.eligible, (s.team u).state = .present → u ∈ c.lockout := by
  simp only [State.allLockedOut, List.all_eq_true, hv.present, Bool.or_eq_true, Bool.not_eq_true',
    List.contains_iff_mem]
  simp only [State.teamPresent, decide_eq_false_iff_not]
  refine ⟨fun h u hu hpresent => (h u hu).resolve_left fun hgone => hgone hpresent, fun h u hu => ?_⟩
  by_cases hpresent : (s.team u).state = .present
  · exact .inr (h u hu hpresent)
  · exact .inl hpresent

theorem allLockedOut_eq_false_iff {s v : State} (hv : SameRound s v) (c : Context) :
    v.allLockedOut c = false ↔ ∃ u ∈ c.eligible, (s.team u).state = .present ∧ u ∉ c.lockout := by
  rw [← Bool.not_eq_true, allLockedOut_iff hv c]
  refine ⟨fun h => ?_, fun ⟨u, hu, hpresent, hfree⟩ h => hfree (h u hu hpresent)⟩
  refine Classical.byContradiction fun hno => h fun u hu hpresent => ?_
  exact Classical.byContradiction fun hfree => hno ⟨u, hu, hpresent, hfree⟩

theorem ranOut_iff (c : Context) : c.ranOut = true ↔ c.roundRemaining = some 0 := decide_eq_true_iff

/-- A round that is back in play after the floor pass needs the sprint (R34). -/
theorem backInPlay_of_publishTaken {s v t : State} {c : Context} {phase : Phase} {n : NoticeUnit}
    (h : PublishTaken s (signalRoundChange (v.setActive (some (backIn phase v.clock c)))) t) (hv : SameRound s v)
    (hphase : phase.needsSprint = true) (hnotices : v.notices = n.withPending [.queue]) :
    t.engine = { active := some (backIn phase s.clock c), tiePointer := s.engine.tiePointer }
      ∧ t.desk = s.desk.judged true ∧ endsWith (n.withPending [.queue, .round]) s t := by
  have hneed : needFor s.desk.setting (some (backIn phase s.clock c)) = true := by
    rw [needFor, Bool.or_eq_true]
    exact Or.inl hphase
  rw [hv.clock] at h
  obtain ⟨hengine, hdesk, hends⟩ := activeRound_of_publishTaken h hv hnotices
  exact ⟨hengine, hneed ▸ hdesk, hends⟩

theorem floorPass_head {cause : EndCause} {c : Context} {s : State} {head : Claim} {rest : List Claim}
    (hqueue : c.queue = head :: rest) (hheld : c.held = false) : floorPass cause c s =
      if s.settled head = true then grantFloor head rest c.passing s
      else signalRoundChange (s.setActive (some (backIn .settling s.clock c.passing))) := by
  have hpassing : c.passing.queue = head :: rest := hqueue
  have hfree : c.passing.held = false := hheld
  rw [← backIn_eq .settling s.clock hfree]
  simp only [floorPass, hpassing, hfree, Bool.not_false, Bool.and_true]

theorem floorPass_empty {cause : EndCause} {c : Context} {s : State} (hqueue : c.queue = [])
    (hheld : c.held = false) : floorPass cause c s =
      if s.allLockedOut c.passing = true then closeRound ⟨.allOut, cause⟩ c.passing s
      else if c.allowsRebound = true ∧ c.roundRemaining ≠ some 0 then
        signalRoundChange (s.setActive (some (backIn .opened s.clock c.passing)))
      else closeRound ⟨if c.roundRemaining = some 0 then .timeUp else .allOut, cause⟩ c.passing s := by
  have hpassing : c.passing.queue = [] := hqueue
  have hfree : c.passing.held = false := hheld
  have hrebound : c.passing.allowsRebound = c.allowsRebound := rfl
  have hran : c.passing.ranOut = c.ranOut := rfl
  rw [← backIn_eq .opened s.clock hfree]
  simp only [floorPass, hpassing, hrebound, hran, Bool.and_eq_true, Bool.not_eq_true', ← Bool.not_eq_true, ranOut_iff,
    ne_eq]

theorem floorPass_board {cause : EndCause} {c : Context} {v : State} {b : Board} (h : v.board = b.triggered) :
    (floorPass cause c v).board = b.triggered := by
  have hsignal : ∀ d, (signalRoundChange (v.setActive d)).board = b.triggered := fun d =>
    signalRoundChange_board.trans ((congrArg Board.triggered h).trans (triggered_twice b))
  have hclose : ∀ e d, (closeRound e d v).board = b.triggered := fun e d => hsignal _
  simp only [floorPass]
  split
  · split
    · exact h
    · exact hsignal _
  · split
    · exact hclose _ _
    · split
      · exact hsignal _
      · exact hclose _ _

theorem closesRound_endsWith {e : Ending} {c : Context} {s v t : State} {n : NoticeUnit}
    (h : PublishTaken s (closeRound e c v) t) (hv : SameRound s v) (hnotices : v.notices = n.withPending [.queue]) :
    closesRound e c s t ∧ endsWith (n.withPending [.queue, .round]) s t := by
  refine ⟨closesRound_of_publishTaken h hv, ?_⟩
  have hends := h.ends
  rwa [closeRound_notices, hnotices, withPending_append] at hends

/-- The floor pass, row by row: the next claim is granted or settles, or the round reopens or closes (R115). -/
theorem floorPassed_of_publishTaken {cause : EndCause} {c : Context} {s v t : State} {n : NoticeUnit}
    (h : PublishTaken s (floorPass cause c v) t) (hv : SameRound s v) (hnotices : v.notices = n.withPending [.queue])
    (hheld : c.held = false) : floorPassed cause c n s t := by
  refine ⟨fun head rest hqueue hsettled => ?_, fun head rest hqueue hsettled => ?_, fun hqueue hall => ?_,
    fun hqueue hsome hrebound hleft => ?_, fun hqueue hsome hover => ?_⟩
  · rw [floorPass_head hqueue hheld, if_pos ((settled_iff hv head).mpr hsettled), grantFloor_eq hv] at h
    refine ⟨⟨_, grantedAs_granted s.clock head rest c.passing, by rw [h.engine]⟩, by rw [h.engine],
      h.desk.trans hv.desk, ?_⟩
    have hends : endsWith (v.notices.withPending [.floor]) s t := h.ends
    rwa [hnotices, withPending_append] at hends
  · rw [floorPass_head hqueue hheld, if_neg (mt (settled_iff hv head).mp hsettled)] at h
    exact backInPlay_of_publishTaken h hv rfl hnotices
  · rw [floorPass_empty hqueue hheld, if_pos ((allLockedOut_iff hv c.passing).mpr hall)] at h
    exact closesRound_endsWith h hv hnotices
  · have hnot : ¬v.allLockedOut c.passing = true := Bool.not_eq_true _ ▸ (allLockedOut_eq_false_iff hv _).mpr hsome
    rw [floorPass_empty hqueue hheld, if_neg hnot, if_pos ⟨hrebound, hleft⟩] at h
    exact backInPlay_of_publishTaken h hv rfl hnotices
  · have hnot : ¬v.allLockedOut c.passing = true := Bool.not_eq_true _ ▸ (allLockedOut_eq_false_iff hv _).mpr hsome
    have hclosed : ¬(c.allowsRebound = true ∧ c.roundRemaining ≠ some 0) := by
      rintro ⟨hr, hl⟩
      rcases hover with hno | hno
      · simp [hno] at hr
      · exact hl hno
    rw [floorPass_empty hqueue hheld, if_neg hnot, if_neg hclosed] at h
    exact closesRound_endsWith h hv hnotices

/-! ### Verdicts -/

/-- The state `v` is `s` but for the link and the silence watch, which a frame has taken already. -/
def SameBehindLink (s v : State) : Prop := ∃ l m, v = { s with link := l, silence := m }

theorem SameBehindLink.round {s v : State} (h : SameBehindLink s v) : SameRound s v := by
  obtain ⟨l, m, rfl⟩ := h
  exact ⟨rfl, rfl, rfl, rfl, fun _ => rfl⟩

theorem SameBehindLink.handOver {s v : State} (h : SameBehindLink s v) (a : Award) :
    SameBehindLink (Machine.handOver a s) (Machine.handOver a v) := by
  obtain ⟨l, m, rfl⟩ := h
  exact ⟨l, m, handOver_told a s l m⟩

theorem SameBehindLink.told (s : State) : SameBehindLink s s.told := ⟨_, _, rfl⟩

theorem SameBehindLink.refl (s : State) : SameBehindLink s s := ⟨_, _, rfl⟩

theorem handOver_triggered (a : Award) {s v : State} (h : SameBehindLink s v) :
    (handOver a v).board.triggered = s.board.triggered := by
  obtain ⟨l, m, rfl⟩ := h
  rcases handOver_board a { s with link := l, silence := m } with h | h <;> simp [h]

theorem signalQueueChange_board {v : State} : (signalQueueChange v).board = v.board.triggered := by
  rw [signalQueueChange_eq]

/-- The award was handed over, and nothing after it wrote the teams or the scores. -/
theorem awardHandedOver_of_publishTaken {a : Award} {s v u t : State} (h : PublishTaken s u t)
    (hv : SameBehindLink s v) (hroster : u.roster = (handOver a v).roster) (hscores : u.scores = (handOver a v).scores) :
    awardHandedOver a s t := by
  obtain ⟨l, m, heq⟩ := hv.handOver a
  rw [heq] at hroster hscores
  exact ⟨h.roster.trans hroster, h.scores.trans hscores⟩

theorem applyVerdict_board (v : Verdict) (holder : TeamId) (c : Context) {s w : State} (hw : SameBehindLink s w) :
    (applyVerdict v holder c w).board = s.board.triggered := by
  cases v with
  | correct => exact (closeRound_board _ _ _).trans (handOver_triggered _ hw)
  | wrong => exact floorPass_board (signalQueueChange_board.trans (handOver_triggered _ hw))
  | void =>
    obtain ⟨l, m, rfl⟩ := hw
    exact floorPass_board signalQueueChange_board

theorem wrongVerdict_board (cause : EndCause) (holder : TeamId) (c : Context) {s w : State}
    (hw : SameBehindLink s w) : (wrongVerdict cause holder c w).board = s.board.triggered :=
  floorPass_board (signalQueueChange_board.trans (handOver_triggered _ hw))

theorem voidVerdict_board (cause : EndCause) (holder : TeamId) (c : Context) {s w : State}
    (hw : SameBehindLink s w) : (voidVerdict cause holder c w).board = s.board.triggered := by
  obtain ⟨l, m, rfl⟩ := hw
  exact floorPass_board signalQueueChange_board

theorem correctVerdict_taken {cause : EndCause} {holder : TeamId} {c : Context} {s w t : State}
    (hw : SameBehindLink s w) (h : PublishTaken s (correctVerdict holder { c with answerDeadline := none } w) t) :
    verdictTaken cause .correct holder c s t := by
  refine ⟨awardHandedOver_of_publishTaken h hw (by simp [correctVerdict, Context.correctAward])
    (by simp [correctVerdict, Context.correctAward]), closesRound_of_publishTaken h (hw.round.handOver _), ?_⟩
  obtain ⟨l, m, heq⟩ := hw.handOver (Context.correctAward c holder)
  have hends := h.ends
  rw [correctVerdict, closeRound_notices] at hends
  rw [show (handOver (Context.correctAward { c with answerDeadline := none } holder) w) = _ from heq] at hends
  exact hends

theorem wrongVerdict_taken {cause : EndCause} {holder : TeamId} {c : Context} {s w t : State} (hheld : c.held = false)
    (hw : SameBehindLink s w) (h : PublishTaken s (wrongVerdict cause holder { c with answerDeadline := none } w) t) :
    verdictTaken cause .wrong holder c s t := by
  refine ⟨awardHandedOver_of_publishTaken h hw (by simp [wrongVerdict, Context.wrongAward])
    (by simp [wrongVerdict, Context.wrongAward]),
    floorPassed_of_publishTaken h (hw.round.handOver _).signalQueueChange ?_ hheld⟩
  obtain ⟨l, m, heq⟩ := hw.handOver (Context.wrongAward c holder)
  rw [signalQueueChange_eq]
  exact congrArg (fun v => v.notices.withPending [.queue]) heq

theorem voidVerdict_taken {cause : EndCause} {holder : TeamId} {c : Context} {s w t : State} (hheld : c.held = false)
    (hw : SameBehindLink s w) (h : PublishTaken s (voidVerdict cause holder { c with answerDeadline := none } w) t) :
    verdictTaken cause .void holder c s t := by
  have hround := hw.round
  obtain ⟨l, m, rfl⟩ := hw
  refine ⟨h.roster.trans (by simp [voidVerdict]), h.scores.trans (by simp [voidVerdict]),
    floorPassed_of_publishTaken h hround.signalQueueChange ?_ hheld⟩
  rw [signalQueueChange_eq]

theorem applyVerdict_taken {v : Verdict} {holder : TeamId} {c : Context} {s w t : State} (hheld : c.held = false)
    (hw : SameBehindLink s w) (h : PublishTaken s (applyVerdict v holder { c with answerDeadline := none } w) t) :
    verdictTaken .judged v holder c s t := by
  cases v with
  | correct => exact correctVerdict_taken hw h
  | wrong => exact wrongVerdict_taken hheld hw h
  | void => exact voidVerdict_taken hheld hw h

theorem applyVerdict_unchangedBut (v : Verdict) (holder : TeamId) (c : Context) (s : State) :
    unchangedBut [.teams, .scores, .board, .notices, .desk, .engine] s (applyVerdict v holder c s) := by
  intro b hb
  cases v <;> cases b <;> simp [Block.same, applyVerdict, correctVerdict, wrongVerdict, voidVerdict] at hb ⊢

/-! ### JUDGE -/

theorem verdictOf_eq (args : JudgeArgs) (h : teamOf args.team = none ∨ verdictOf args.verdict = none) (s : State) :
    judge (.fits args) s = refuseJudge .badValue s := by
  simp only [judge]
  split
  next ht hv => simp [ht, hv] at h
  next => rfl

theorem judge_team {args : JudgeArgs} {t : TeamId} {v : Verdict} (ht : teamOf args.team = some t)
    (hv : verdictOf args.verdict = some v) (s : State) : judge (.fits args) s = judgeTeam t v s := by
  simp only [judge, ht, hv]

theorem judgeTeam_holder {t : TeamId} {v : Verdict} {c : Context} {s : State} (hc : s.engine.active = some c)
    (hphase : c.phase = .floor) (hholder : c.holder = some t) : judgeTeam t v s
      = (applyVerdict v t { c with answerDeadline := none } s,
        ok (.name v.code :: optItems (fun z => [.i16 z]) (c.verdictPoints v)
          ++ phaseItem (applyVerdict v t { c with answerDeadline := none } s).engine.active
            :: optItems teamItem (applyVerdict v t { c with answerDeadline := none } s).holder)) := by
  simp only [judgeTeam, hc, hphase, hholder, and_self, if_true]

theorem judgeTeam_stale {t : TeamId} {v : Verdict} {s : State}
    (h : ∀ c, s.engine.active = some c → c.phase ≠ .floor ∨ c.holder ≠ some t) :
    judgeTeam t v s = refuseJudge .stale s := by
  unfold judgeTeam
  split
  next => rfl
  next c hc =>
    have hnot : ¬(c.phase = .floor ∧ c.holder = some t) := fun ⟨hp, hh⟩ =>
      (h c hc).elim (absurd hp) (absurd hh)
    rw [if_neg hnot]

/-- Settles O38: JUDGE gives the holder the verdict, or is refused. -/
theorem judgeAppliesTheVerdict : Obligations.JudgeAppliesTheVerdict := by
  intro s args hs
  refine ⟨fun c t v ht hv hc hphase hholder hheld => ?_, fun h => ?_, fun t v ht hv h => ?_⟩
  · have hrun := (judge_team ht hv s.told).trans (judgeTeam_holder (s := s.told) hc hphase hholder)
    refine ⟨_, completes_publishing rfl rfl hs hrun (applyVerdict_board v t _ (.told s))
      (applyVerdict_unchangedBut v t _ s.told) (by decide) (by decide) (by decide) fun u hu => ⟨?_, ?_⟩⟩
    · exact applyVerdict_taken hheld (.told s) hu
    · rw [hu.engine]
      cases v <;> rfl
  · exact completes_left rfl rfl hs (verdictOf_eq args h s.told)
  · exact completes_left rfl rfl hs ((judge_team ht hv s.told).trans (judgeTeam_stale (s := s.told) h))

/-! ### The end of the answer window -/

theorem endAnswer_wrong {cause : EndCause} {c : Context} {t : TeamId} {f : FloorFields} (hholder : c.holder = some t)
    (hf : c.floorFields = some f) (hexpiry : f.expiry = .wrong) (s : State) :
    endAnswer cause c s = wrongVerdict cause t { c with answerDeadline := none } s := by
  simp only [endAnswer, hholder, hf, hexpiry]

theorem endAnswer_void {cause : EndCause} {c : Context} {t : TeamId} {f : FloorFields} (hholder : c.holder = some t)
    (hf : c.floorFields = some f) (hexpiry : f.expiry = .void) (s : State) :
    endAnswer cause c s = voidVerdict cause t { c with answerDeadline := none } s := by
  simp only [endAnswer, hholder, hf, hexpiry]

theorem endAnswer_board {cause : EndCause} {c : Context} {t : TeamId} {f : FloorFields} {s w : State}
    (hw : SameBehindLink s w) (hholder : c.holder = some t) (hf : c.floorFields = some f) :
    (endAnswer cause c w).board = s.board.triggered := by
  cases hexpiry : f.expiry with
  | wrong =>
    rw [endAnswer_wrong hholder hf hexpiry]
    exact wrongVerdict_board cause t _ hw
  | void =>
    rw [endAnswer_void hholder hf hexpiry]
    exact voidVerdict_board cause t _ hw

/-- When the answer window ends, the holder gets the verdict its cue says (R113, R118). -/
theorem endAnswer_taken {cause : EndCause} {c : Context} {holder : TeamId} {f : FloorFields} {s w t : State}
    (hheld : c.held = false) (hw : SameBehindLink s w) (hholder : c.holder = some holder)
    (hf : c.floorFields = some f) (h : PublishTaken s (endAnswer cause c w) t) :
    verdictTaken cause (expiryAs f.expiry) holder c s t := by
  cases hexpiry : f.expiry with
  | wrong =>
    rw [endAnswer_wrong hholder hf hexpiry] at h
    exact wrongVerdict_taken hheld hw h
  | void =>
    rw [endAnswer_void hholder hf hexpiry] at h
    exact voidVerdict_taken hheld hw h

theorem endAnswer_unchangedBut (cause : EndCause) (c : Context) (s : State) :
    unchangedBut [.teams, .scores, .board, .notices, .desk, .engine] s (endAnswer cause c s) := by
  intro b hb
  cases b <;> simp [Block.same] at hb ⊢

theorem reached_iff (now d : ClockValue) : reached now d = true ↔ clockDiff now d ≤ 0 := by
  simp [reached]

/-- Settles O39: the expiry of the answer window gives the verdict the cue says; before that it does nothing. -/
theorem answerExpiryPassesTheFloor : Obligations.AnswerExpiryPassesTheFloor := by
  intro s hquiet
  refine ⟨fun c f holder d hc hphase hholder hf hheld hdeadline hover => ?_, fun hearly => ?_⟩
  · have hexpires : answerExpiry s = endAnswer .expired c s := by
      simp only [answerExpiry, hc, hphase, hdeadline, (reached_iff _ _).mpr hover, if_true]
    exact happens_publishing (u := endAnswer .expired c s) hexpires hquiet (endAnswer_board (.refl s) hholder hf)
      (endAnswer_unchangedBut _ c s) (by decide) fun t ht => endAnswer_taken hheld (.refl s) hholder hf ht
  · have hstays : answerExpiry s = s := by
      unfold answerExpiry
      split
      next => rfl
      next c hc =>
        split
        next d hphase hdeadline =>
          have hleft : ¬reached s.clock d = true := by
            rw [reached_iff]
            exact Int.not_le.mpr (hearly c d hc hphase hdeadline)
          rw [if_neg hleft]
        next => rfl
    exact exec_quiet hstays hquiet

/-! ### CALL_TIME -/

theorem contextStep_cue {speed : LineSpeed} {holding : Bool} {c d : Context} (h : ContextStep speed holding c d) :
    d.cue = c.cue := by
  cases h with
  | opens | closes | grants | judgedRight | passGrants | passSettles | passReopens | passCloses => simp
  | _ => rfl

theorem Moves.cue {s t : State} {c : Context} (h : Moves s t) (hc : s.engine.active = some c) :
    ∃ d, t.engine.active = some d ∧ d.cue = c.cue := by
  obtain ⟨d, hd, hcd⟩ := h.active c hc
  have hcue : ∀ e, ContextSteps s.desk.speed s.holding c e → e.cue = c.cue := by
    intro e hce
    induction hce with
    | refl => rfl
    | tail _ hstep ih => exact (contextStep_cue hstep).trans ih
  exact ⟨d, hd, hcue d hcd⟩

theorem isPoll_of_floorFields {c : Context} {f : FloorFields} (h : c.floorFields = some f) : c.isPoll = false := by
  cases hpart : c.cue.part <;> simp [Context.floorFields, Context.isPoll, hpart] at h ⊢

theorem callTimeReply_of {s : State} {c : Context} (hc : s.engine.active = some c) :
    callTimeReply s = ok (.name c.phase.code :: optItems clockItem (if c.isPoll then c.closeInstant else none)) := by
  simp only [callTimeReply, State.pollCloseInstant, hc, phaseItem]

theorem callTime_round {s : State} {c : Context} (hc : s.engine.active = some c) (hphase : c.phase = .opened)
    (hkind : c.isPoll = false) (a : NoArgs) : callTime a s
      = (closeRound ⟨.timeUp, .called⟩ (windowAtZero c) s, ok [.name 7, .presence false]) := by
  have hclosed : (closeRound ⟨.timeUp, .called⟩ (windowAtZero c) s).engine.active
      = some (((windowAtZero c).talliedAtClose s).closed s.clock ⟨.timeUp, .called⟩) := by
    simp [closeRound, State.setActive]
  have hpoll : (((windowAtZero c).talliedAtClose s).closed s.clock ⟨.timeUp, .called⟩).isPoll = false :=
    (isPoll_of_cue (by simp [windowAtZero])).trans hkind
  have hreply := callTimeReply_of hclosed
  rw [hpoll] at hreply
  simp only [callTime, hc, hphase, hkind, Bool.false_eq_true, if_false]
  exact Prod.ext rfl (hreply.trans (by simp [optItems, Phase.code]))

theorem callTime_poll {s : State} {c : Context} (hc : s.engine.active = some c) (hphase : c.phase = .opened)
    (hkind : c.isPoll = true) (a : NoArgs) : callTime a s
      = (signalRoundChange (s.setActive (some (closingAs s .called s.clock c))),
        ok [.name 6, .presence true, .clock s.clock]) := by
  have hclosing : (closeVoting .called s.clock c s).engine.active = some (closingAs s .called s.clock c) := by
    simp [closeVoting, State.setActive]
    rfl
  have hreply := callTimeReply_of hclosing
  rw [show (closingAs s .called s.clock c).isPoll = true from hkind] at hreply
  simp only [callTime, hc, hphase, hkind, if_true]
  exact Prod.ext rfl hreply

theorem callTime_floor {s : State} {c : Context} (hc : s.engine.active = some c) (hphase : c.phase = .floor)
    (a : NoArgs) : callTime a s = (endAnswer .called c s, callTimeReply (endAnswer .called c s)) := by
  simp only [callTime, hc, hphase]

theorem callTimeReply_floor {s : State} {c : Context} {f : FloorFields} (hc : s.engine.active = some c)
    (hphase : c.phase = .floor) (hf : c.floorFields = some f) (hhold : s.holding = false) :
    callTimeReply (endAnswer .called c s)
      = ok [phaseItem (endAnswer .called c s).engine.active, .presence false] := by
  obtain ⟨d, hd, hcue⟩ := (moves_endAnswer .called hc hphase (.inr hhold)).cue hc
  have hkind : d.isPoll = false := (isPoll_of_cue hcue).trans (isPoll_of_floorFields hf)
  rw [callTimeReply_of hd, hkind, hd]
  rfl

theorem callTime_refused {s : State}
    (h : s.engine.active = none ∨ ∃ c, s.engine.active = some c ∧ c.phase ≠ .opened ∧ c.phase ≠ .floor)
    (a : NoArgs) : callTime a s = (s, refuse .notTimed) := by
  rcases h with h | ⟨c, hc, hopen, hfloor⟩
  · simp only [callTime, h]
  · simp only [callTime, hc]
    split
    next hphase => exact absurd hphase hopen
    next hphase => exact absurd hphase hfloor
    all_goals rfl

/-- Settles O37: CALL_TIME closes a round, starts the closing of a poll, or ends the answer window. -/
theorem callTimeEndsTheWindow : Obligations.CallTimeEndsTheWindow := by
  intro s hs
  obtain ⟨-, -, -, hhold, -⟩ := id hs
  refine ⟨fun c hc hphase hkind => ?_, fun c hc hphase hkind => ?_,
    fun c f holder hc hphase hholder hf hheld => ?_, fun h => ?_⟩
  · exact completes_publishing rfl rfl hs (callTime_round (s := s.told) hc hphase hkind .none)
      (closeRound_board _ _ s.told) (closeRound_unchangedBut _ _ s.told) (by decide) (by decide) (by decide)
      fun t ht => closedRound_of_publishTaken ht (.told s) rfl
  · exact completes_roundChange rfl rfl hs (callTime_poll (s := s.told) hc hphase hkind .none)
  · refine ⟨_, completes_publishing rfl rfl hs (callTime_floor (s := s.told) hc hphase .none)
      (endAnswer_board (.told s) hholder hf) (endAnswer_unchangedBut _ c s.told) (by decide) (by decide) (by decide)
      fun t ht => ⟨?_, endAnswer_taken hheld (.told s) hholder hf ht⟩⟩
    rw [callTimeReply_floor (s := s.told) hc hphase hf ((holding_told s).trans hhold), ht.engine]
  · exact completes_left rfl rfl hs (callTime_refused (s := s.told) h .none)

end Sys2Proof.Proofs

/-! PROOFS. A claim that leaves the queue without a verdict (R121): CLAIM_DROP (O40), and TEAM_SET, which benches the
claimant (R16 to R19, O26). -/

namespace Sys2Proof.Proofs
open Sys2Proof Sys2Proof.Machine

/-! ### The claim removed -/

/-- The state with a new active context, the queue's change signalled (R187). -/
theorem queueChanged_of_publishTaken {s v t : State} {d : Context}
    (h : PublishTaken s (signalQueueChange (v.setActive (some d))) t) (hengine : v.engine.tiePointer = s.engine.tiePointer)
    (hdesk : v.desk = s.desk) (hnotices : v.notices = s.notices) :
    t.engine = { s.engine with active := some d } ∧ t.desk = s.desk ∧ Machine.signals [.queue] s t := by
  rw [signalQueueChange_eq] at h
  refine ⟨h.engine.trans ?_, h.desk.trans hdesk, h.signals ?_⟩
  · simp [State.setActive, hengine]
  · simp [State.setActive, hnotices]

theorem removeClaim_keeps {t : TeamId} {c : Context} {s : State}
    (h : ∀ head rest, c.queue = head :: rest → c.phase = .settling → head.team ≠ t) : removeClaim t c s
      = signalQueueChange (s.setActive (some { c with queue := withoutTeam t c.queue })) := by
  simp only [removeClaim]
  split
  next head rest hphase hqueue => rw [if_neg (h head rest hqueue hphase)]
  next => rfl

theorem removeClaim_next {t : TeamId} {c : Context} {s : State} {head next : Claim} {rest more : List Claim}
    (hphase : c.phase = .settling) (hqueue : c.queue = head :: rest) (hhead : head.team = t)
    (hleft : withoutTeam t c.queue = next :: more) : removeClaim t c s
      = settleTest (signalQueueChange (s.setActive (some { c with queue := withoutTeam t c.queue }))) := by
  simp only [hqueue] at hleft
  simp only [removeClaim, hphase, hqueue, hhead, if_true, hleft]

theorem removeClaim_last {t : TeamId} {c : Context} {s : State} {head : Claim} {rest : List Claim}
    (hphase : c.phase = .settling) (hqueue : c.queue = head :: rest) (hhead : head.team = t)
    (hleft : withoutTeam t c.queue = []) : removeClaim t c s
      = reopenEmptied { c with queue := [] } (signalQueueChange (s.setActive (some { c with queue := [] }))) := by
  simp only [hqueue] at hleft
  simp only [removeClaim, hphase, hqueue, hhead, if_true, hleft]

theorem settleTest_grants {s : State} {c : Context} {head : Claim} {rest : List Claim} (hc : s.engine.active = some c)
    (hphase : c.phase = .settling) (hqueue : c.queue = head :: rest) (hheld : c.held = false)
    (hsettled : s.settled head = true) : settleTest s = signalRoundChange (grantFloor head rest c s) := by
  simp only [settleTest, hc, hphase, hqueue, hsettled, hheld, Bool.not_false, Bool.and_true, if_true]

theorem settleTest_waits {s : State} {c : Context} {head : Claim} {rest : List Claim} (hc : s.engine.active = some c)
    (hphase : c.phase = .settling) (hqueue : c.queue = head :: rest) (hsettled : s.settled head = false) :
    settleTest s = s := by
  simp only [settleTest, hc, hphase, hqueue, hsettled, Bool.false_and, Bool.false_eq_true, if_false]

theorem signalQueueChange_triggered {s v : State} (h : v.board = s.board ∨ v.board = s.board.triggered) :
    (signalQueueChange v).board = s.board.triggered := by
  rcases h with h | h <;> simp [signalQueueChange_board, h]

theorem signalRoundChange_triggered {s v : State} (h : v.board = s.board ∨ v.board = s.board.triggered) :
    (signalRoundChange v).board = s.board.triggered := by
  rcases h with h | h <;> simp [signalRoundChange_board, h]

/-- Whatever follows a claim's removal, the queue's change asks for a publish. -/
theorem removeClaim_board (t : TeamId) (c : Context) (s : State) : (removeClaim t c s).board = s.board.triggered := by
  have hleft : ∀ d, (signalQueueChange (s.setActive d)).board = s.board.triggered := fun d => signalQueueChange_board
  simp only [removeClaim]
  split
  next =>
    split
    next =>
      split
      next =>
        simp only [reopenEmptied]
        split
        · exact signalRoundChange_triggered (.inr (hleft _))
        · exact signalRoundChange_triggered (.inr (hleft _))
      next =>
        unfold settleTest
        split
        next => exact hleft _
        next =>
          split
          next =>
            split
            next => exact signalRoundChange_triggered (.inr (hleft _))
            next => exact hleft _
          next => exact hleft _
    next => exact hleft _
  next => exact hleft _

theorem removeClaim_unchangedBut (t : TeamId) (c : Context) (s : State) :
    unchangedBut [.board, .notices, .desk, .engine] s (removeClaim t c s) := by
  intro b hb
  cases b <;> simp [Block.same] at hb ⊢

/-- A claim that is not the settling head leaves the queue, and nothing else changes. -/
theorem removeClaim_keeps_taken {t : TeamId} {c : Context} {s u : State}
    (h : ∀ head rest, c.queue = head :: rest → c.phase = .settling → head.team ≠ t)
    (hu : PublishTaken s (removeClaim t c s.told) u) :
    u.engine = { s.engine with active := some { c with queue := withoutTeam t c.queue } } ∧ u.desk = s.desk
      ∧ Machine.signals [.queue] s u := by
  rw [removeClaim_keeps h] at hu
  exact queueChanged_of_publishTaken hu rfl rfl rfl

theorem sameRound_removed (s : State) (d : Context) :
    SameRound s (signalQueueChange (s.told.setActive (some d))) := by
  have hset : SameRound s (s.told.setActive (some d)) := ⟨rfl, rfl, rfl, rfl, fun _ => rfl⟩
  exact hset.signalQueueChange

theorem active_removed (s : State) (d : Context) :
    (signalQueueChange (s.setActive (some d))).engine.active = some d := by
  simp [State.setActive]

/-- The next claim takes the floor where it has settled. -/
theorem removeClaim_next_granted {t : TeamId} {c : Context} {s u : State} {head next : Claim} {rest more : List Claim}
    (hphase : c.phase = .settling) (hqueue : c.queue = head :: rest) (hhead : head.team = t)
    (hleft : withoutTeam t c.queue = next :: more) (hheld : c.held = false) (hsettled : hasSettled s next)
    (hu : PublishTaken s (removeClaim t c s.told) u) :
    (∃ d, grantedAs s.clock next more { c with queue := withoutTeam t c.queue } d ∧ u.engine.active = some d)
      ∧ u.engine.tiePointer = tieAfterGrant s.engine.tiePointer next more
      ∧ u.desk = s.desk.judged true ∧ Machine.signals [.queue, .floor, .round] s u := by
  let v := signalQueueChange (s.told.setActive (some { c with queue := withoutTeam t c.queue }))
  have hround : SameRound s v := sameRound_removed s _
  have hactive : v.engine.active = some { c with queue := withoutTeam t c.queue } := active_removed _ _
  rw [removeClaim_next hphase hqueue hhead hleft,
    settleTest_grants hactive hphase hleft hheld ((settled_iff hround next).mpr hsettled), grantFloor_eq hround] at hu
  have hnotices : v.notices.withPending [.floor] = s.notices.withPending [.queue, .floor] := by
    simp only [v, signalQueueChange_eq]
    exact withPending_append _ _ _
  obtain ⟨hengine, hdesk, hsignals⟩ := roundChanged_of_publishTaken hu hround.desk hnotices
  have hneed : needFor s.desk.setting (some (Context.granted s.clock next more
      { c with queue := withoutTeam t c.queue })) = true := by
    simp [needFor, Phase.needsSprint]
  exact ⟨⟨_, grantedAs_granted s.clock next more _, by rw [hengine]⟩, by rw [hengine], hneed ▸ hdesk, hsignals⟩

theorem removeClaim_next_waits {t : TeamId} {c : Context} {s u : State} {head next : Claim} {rest more : List Claim}
    (hphase : c.phase = .settling) (hqueue : c.queue = head :: rest) (hhead : head.team = t)
    (hleft : withoutTeam t c.queue = next :: more) (hsettled : ¬hasSettled s next)
    (hu : PublishTaken s (removeClaim t c s.told) u) :
    u.engine = { s.engine with active := some { c with queue := withoutTeam t c.queue } } ∧ u.desk = s.desk
      ∧ Machine.signals [.queue] s u := by
  let v := signalQueueChange (s.told.setActive (some { c with queue := withoutTeam t c.queue }))
  have hround : SameRound s v := sameRound_removed s _
  have hactive : v.engine.active = some { c with queue := withoutTeam t c.queue } := active_removed _ _
  have hnot : v.settled next = false := Bool.eq_false_iff.mpr (mt (settled_iff hround next).mp hsettled)
  rw [removeClaim_next hphase hqueue hhead hleft, settleTest_waits hactive hphase hleft hnot] at hu
  exact queueChanged_of_publishTaken hu rfl rfl rfl

/-- With the last claim gone the round opens again, or closes where its time has run out. -/
theorem removeClaim_last_taken {t : TeamId} {c : Context} {s u : State} {head : Claim} {rest : List Claim}
    (hphase : c.phase = .settling) (hqueue : c.queue = head :: rest) (hhead : head.team = t)
    (hleft : withoutTeam t c.queue = []) (hu : PublishTaken s (removeClaim t c s.told) u) :
    (c.roundRemaining ≠ some 0 → u.engine.tiePointer = s.engine.tiePointer
        ∧ roundChangesAfter (some { c with queue := [], phase := .opened }) [.queue] s u)
      ∧ (c.roundRemaining = some 0 →
        closesRound ⟨.timeUp, .expired⟩ { c with queue := [], phase := .opened } s u
          ∧ Machine.signals [.queue, .round] s u) := by
  rw [removeClaim_last hphase hqueue hhead hleft, reopenEmptied] at hu
  have hround := sameRound_removed s { c with queue := [] }
  have hnotices : (signalQueueChange (s.told.setActive (some { c with queue := [] }))).notices
      = s.notices.withPending [.queue] := by
    rw [signalQueueChange_eq]
    rfl
  refine ⟨fun hleft => ?_, fun hover => ?_⟩
  · have hran : ¬({ c with queue := [] } : Context).ranOut = true := by simp [ranOut_iff, hleft]
    rw [if_neg hran] at hu
    obtain ⟨hengine, hdesk, hsignals⟩ := roundChanged_of_publishTaken hu hround.desk hnotices
    exact ⟨by rw [hengine]; exact hround.pointer, by rw [hengine]; rfl, hdesk, hsignals⟩
  · have hran : ({ c with queue := [] } : Context).ranOut = true := (ranOut_iff _).mpr hover
    rw [if_pos hran] at hu
    refine ⟨closesRound_of_publishTaken hu hround, hu.signals ?_⟩
    rw [closeRound_notices, hnotices, withPending_append]
    rfl

/-! ### CLAIM_DROP -/

theorem claimDrop_badValue {b : Byte} (h : teamOf b = none) (s : State) :
    claimDrop b s = (s, refuse .badValue) := by
  simp only [claimDrop, h]

theorem claimDrop_wrongState {b : Byte} {t : TeamId} (ht : teamOf b = some t) {s : State}
    (h : ∀ c, s.engine.active = some c → c.isPoll = true
      ∨ (c.phase ≠ .opened ∧ c.phase ≠ .settling ∧ c.phase ≠ .floor)) :
    claimDrop b s = (s, refuse .wrongState) := by
  cases hc : s.engine.active with
  | none => simp only [claimDrop, ht, hc]
  | some c =>
    have hnot : c.isPoll = true ∨ ¬(c.phase = .opened ∨ c.phase = .settling ∨ c.phase = .floor) :=
      (h c hc).imp_right fun ⟨h1, h2, h3⟩ => by simp [h1, h2, h3]
    simp only [claimDrop, ht, hc, if_pos hnot]

/-- CLAIM_DROP in a round whose phase has a queue. -/
theorem claimDrop_inQueue {b : Byte} {t : TeamId} {s : State} {c : Context} (ht : teamOf b = some t)
    (hc : s.engine.active = some c) (hkind : c.isPoll = false)
    (hphase : c.phase = .opened ∨ c.phase = .settling ∨ c.phase = .floor) : claimDrop b s =
      if c.holder = some t then (s, refuse .floorHeld)
      else if c.hasClaim t = true then (removeClaim t c s,
        ok [phaseItem (removeClaim t c s).engine.active, .u8 (withoutTeam t c.queue).length])
      else (s, refuse .notQueued) := by
  have hin : ¬(c.isPoll = true ∨ ¬(c.phase = .opened ∨ c.phase = .settling ∨ c.phase = .floor)) := by
    simp [hkind, hphase]
  simp only [claimDrop, ht, hc, if_neg hin]

theorem claimDrop_acts : claimDropActs := by
  intro s b c hs hc hheld hkind
  refine ⟨fun t left ht hphase hholder hclaim hleft => ?_, fun t ht hphase hholder => ?_,
    fun t ht hphase hholder hclaim => ?_⟩
  · subst hleft
    have hrun := claimDrop_inQueue (s := s.told) ht hc hkind (.inr hphase)
    rw [if_neg hholder, if_pos hclaim] at hrun
    refine ⟨_, completes_publishing rfl rfl hs hrun (removeClaim_board t c s.told) (removeClaim_unchangedBut t c s.told)
      (by decide) (by decide) (by decide) fun u hu => ⟨?_, fun head rest hqueue hkeeps => ?_,
        fun head rest next more hqueue hsettling hhead hnext => ⟨fun hsettled => ?_, fun hsettled => ?_⟩,
        fun hsettling hnone => ?_⟩⟩
    · rw [hu.engine]
      rfl
    · refine removeClaim_keeps_taken (fun head' rest' hqueue' hsettling => ?_) hu
      obtain ⟨rfl, rfl⟩ := List.cons.inj (hqueue'.symm.trans hqueue)
      exact hkeeps.resolve_left (by simp [hsettling])
    · exact removeClaim_next_granted hsettling hqueue hhead hnext hheld hsettled hu
    · exact removeClaim_next_waits hsettling hqueue hhead hnext hsettled hu
    · obtain ⟨head, rest, hqueue⟩ : ∃ head rest, c.queue = head :: rest := by
        cases hq : c.queue with
        | nil => simp [Context.hasClaim, hq] at hclaim
        | cons head rest => exact ⟨head, rest, rfl⟩
      have hhead : head.team = t := by
        refine Classical.byContradiction fun hne => ?_
        have hmem : head ∈ withoutTeam t c.queue := by simp [withoutTeam, hqueue, hne]
        rw [show withoutTeam t c.queue = [] from hnone] at hmem
        exact absurd hmem List.not_mem_nil
      exact removeClaim_last_taken hsettling hqueue hhead hnone hu
  · refine completes_left rfl rfl hs ((claimDrop_inQueue (s := s.told) ht hc hkind (.inr (.inr hphase))).trans ?_)
    exact if_pos hholder
  · refine completes_left rfl rfl hs ((claimDrop_inQueue (s := s.told) ht hc hkind hphase).trans ?_)
    rw [if_neg hholder, if_neg (by simp [hclaim])]

/-- Settles O40: CLAIM_DROP takes a waiting team's claim out of the queue, or is refused. -/
theorem claimDropRemovesTheClaim : Obligations.ClaimDropRemovesTheClaim := by
  refine ⟨claimDrop_acts, fun s b hs => ⟨fun h => ?_, fun t ht h => ?_⟩⟩
  · exact completes_left rfl rfl hs (claimDrop_badValue h s.told)
  · exact completes_left rfl rfl hs (claimDrop_wrongState ht (s := s.told) h)

/-! ### The link does not reach the publish -/

theorem visitPanels_withLink (image : List (List Cell)) (ps : List PanelId) (results : List PanelResult) (s : State)
    (l : LinkPort) : visitPanels image ps results { s with link := l }
      = { visitPanels image ps results s with link := l } := by
  induction ps generalizing results with
  | nil =>
    simp only [visitPanels, completeOperation]
    split <;> rfl
  | cons p rest ih =>
    have hpanel : ({ s with link := l } : State).panel p = s.panel p := rfl
    simp only [visitPanels, hpanel, ih]
    split
    · rfl
    · split <;> rfl

theorem startPublish_withLink (s : State) (l : LinkPort) :
    startPublish { s with link := l } = { startPublish s with link := l } :=
  visitPanels_withLink _ _ _ { s with board := { s.board with again := false } } l

theorem takeRequest_withLink (s : State) (l : LinkPort) :
    takeRequest { s with link := l } = { takeRequest s with link := l } := by
  by_cases hrequest : s.board.request = true
  · cases hoperation : s.board.operation with
    | idle =>
      simp only [takeRequest, hrequest, if_true, hoperation]
      exact startPublish_withLink { s with board := { s.board with operation := .idle, request := false } } l
    | _ => simp only [takeRequest, hrequest, if_true, hoperation]
  · simp only [takeRequest, hrequest, Bool.false_eq_true, if_false]

/-! ### TEAM_SET -/

theorem changeTeam_stays {t : TeamId} {state : Option TeamState} {tag : Option (Option (List Glyph))} {s : State}
    (h : s.teamPresent t = true → leavesPlay state = true → ∀ c, s.engine.active = some c → c.hasClaim t = false) :
    changeTeam t state tag s = s.setTeam t ((s.team t).withStateTag state tag) := by
  simp only [changeTeam]
  split
  next hleaves =>
    obtain ⟨hpresent, hleaves⟩ := Bool.and_eq_true_iff.mp hleaves
    unfold dropBenchedClaim
    split
    next => rfl
    next c hc => rw [if_neg (by simp [h hpresent hleaves c hc])]
  next => rfl

theorem changeTeam_drops {t : TeamId} {state : Option TeamState} {tag : Option (Option (List Glyph))} {s : State}
    {c : Context} (hpresent : s.teamPresent t = true) (hleaves : leavesPlay state = true)
    (hc : s.engine.active = some c) (hclaim : c.hasClaim t = true) : changeTeam t state tag s
      = removeClaim t c (s.setTeam t ((s.team t).withStateTag state tag)) := by
  have hactive : (s.setTeam t ((s.team t).withStateTag state tag)).engine.active = some c := hc
  simp only [changeTeam, hpresent, hleaves, Bool.and_self, if_true, dropBenchedClaim, hactive, hclaim]

theorem teamSet_changes {args : TeamSetArgs} {t : TeamId} {state : Option TeamState}
    {tag : Option (Option (List Glyph))} {s u : State} (ht : teamOf args.team = some t)
    (hstate : newStateOf args.state = some state) (htag : newTagOf args.tag = some tag)
    (hfree : ¬(leavesPlay state = true ∧ s.holder = some t)) (hu : changeTeam t state tag s = u)
    (hteam : u.team t = (s.team t).withStateTag state tag) : teamSet args s
      = (u, ok (.name (state.getD (s.team t).state).code :: optItems glyphsItems (tag.getD (s.team t).tag))) := by
  simp only [teamSet, ht, hstate, htag, if_neg hfree, hu, hteam]
  rfl

theorem teamSet_floorHeld {args : TeamSetArgs} {t : TeamId} {state : Option TeamState}
    {tag : Option (Option (List Glyph))} {s : State} (ht : teamOf args.team = some t)
    (hstate : newStateOf args.state = some state) (htag : newTagOf args.tag = some tag)
    (hholds : leavesPlay state = true ∧ s.holder = some t) : teamSet args s = (s, refuse .floorHeld) := by
  simp only [teamSet, ht, hstate, htag, if_pos hholds]

theorem teamSet_badValue {args : TeamSetArgs} {s : State}
    (h : teamOf args.team = none ∨ newStateOf args.state = none ∨ newTagOf args.tag = none) :
    teamSet args s = (s, refuse .badValue) := by
  unfold teamSet
  split
  next ht hstate htag => simp [ht, hstate, htag] at h
  next => rfl

/-- The team's record as TEAM_SET writes it, and the others kept. -/
theorem teamWritten {s u : State} {t : TeamId} {r : TeamRecord}
    (h : u.roster = { s.roster with teams := put s.roster.teams t r }) : u.team t = r ∧ ∀ n, n ≠ t → u.team n = s.team n := by
  have hteam : ∀ n, u.team n = if t = n then r else s.team n := fun n => by
    rw [State.team, h]
    exact team_setTeam s t n r
  exact ⟨by rw [hteam, if_pos rfl], fun n hn => by rw [hteam, if_neg hn.symm]⟩

theorem roster_of_unchanged {u t : State} (h : unchangedBut [.link] u t) : t.roster = u.roster := by
  have hteams : t.roster.teams = u.roster.teams := h .teams (by decide)
  have hpads : t.roster.pads = u.roster.pads := h .pads (by decide)
  have hlayout : t.roster.layout = u.roster.layout := h .layout (by decide)
  cases ht : t.roster
  cases hu : u.roster
  simp_all

theorem setTeam_unchangedBut (s : State) (t : TeamId) (r : TeamRecord) : unchangedBut [.teams] s (s.setTeam t r) := by
  intro b hb
  cases b with
  | teams => exact absurd (.head _) hb
  | _ => rfl

theorem teamSet_writesStateAndTag : teamSetWritesStateAndTag := by
  intro s args hs
  obtain ⟨-, -, -, -, hquiet⟩ := id hs
  refine ⟨fun t state tag ht hstate htag hfree hclaim => ?_, fun t state tag ht hstate htag hleaves hholds => ?_,
    fun h => completes_left rfl rfl hs (teamSet_badValue h)⟩
  · have hrun := teamSet_changes (s := s.told) ht hstate htag hfree (changeTeam_stays (s := s.told) hclaim)
      (by rw [team_setTeam, if_pos rfl])
    exact completes_writes rfl rfl hs hrun (setTeam_unchangedBut s.told t _) (by decide) (by decide) hquiet
      fun u hu => teamWritten (s := s) (roster_of_unchanged hu)
  · exact completes_left rfl rfl hs (teamSet_floorHeld (s := s.told) ht hstate htag ⟨hleaves, hholds⟩)

/-! ### Benching a team that waits in the queue -/

theorem hasClaim_withoutTeam (t : TeamId) (l : List Claim) : (withoutTeam t l).any (fun q => q.team == t) = false := by
  simp [withoutTeam]

/-- After its removal the team has no claim in the active context, whatever the removal led to. -/
theorem removeClaim_noClaim {t : TeamId} {c d : Context} {s : State}
    (hd : (removeClaim t c s).engine.active = some d) : d.hasClaim t = false := by
  have hleft : ∀ e : Context, e.queue = withoutTeam t c.queue → e.hasClaim t = false := fun e he => by
    rw [Context.hasClaim, he]
    exact hasClaim_withoutTeam t c.queue
  have hchanged : ∀ e, (signalQueueChange (s.setActive (some { c with queue := withoutTeam t c.queue }))).engine.active
      = some e → e.queue = withoutTeam t c.queue := fun e he => by
    rw [active_removed] at he
    exact (Option.some.inj he) ▸ rfl
  simp only [removeClaim] at hd
  split at hd
  next head rest hphase hqueue =>
    split at hd
    next =>
      split at hd
      next hnil =>
        simp only [reopenEmptied] at hd
        split at hd
        · simp only [closeRound, signalRoundChange_eq, State.setActive, Option.some.injEq] at hd
          exact hleft d (by rw [← hd]; simp)
        · simp only [signalRoundChange_eq, State.setActive, Option.some.injEq] at hd
          exact hleft d (by rw [← hd])
      next next more hnext =>
        unfold settleTest at hd
        split at hd
        next => exact hleft d (hchanged d hd)
        next e he =>
          split at hd
          next first others _ hfirst =>
            split at hd
            next =>
              simp only [grantFloor, signalRoundChange_eq, setPending, Option.some.injEq] at hd
              have hqueue' : first :: others = withoutTeam t c.queue := hfirst.symm.trans (hchanged e he)
              have hno := hasClaim_withoutTeam t c.queue
              rw [← hqueue'] at hno
              rw [← hd]
              simpa [Context.hasClaim] using hno
            next => exact hleft d (hchanged d hd)
          next => exact hleft d (hchanged d hd)
    next => exact hleft d (hchanged d hd)
  next => exact hleft d (hchanged d hd)

theorem benching_dropsTheClaim : benchingDropsTheClaim := by
  intro s args t state tag c hs ht hstate htag hpresent hleaves hc hclaim hholder hkind hphase
  let r := (s.team t).withStateTag state tag
  let w := removeClaim t c (s.told.setTeam t r)
  have hfree : ¬(leavesPlay state = true ∧ s.told.holder = some t) := fun ⟨_, hholds⟩ =>
    hholder (by simpa [State.holder, hc] using hholds)
  have hwritten : w.team t = r ∧ ∀ n, n ≠ t → w.team n = s.team n := teamWritten (by simp [w]; rfl)
  have hchanges := changeTeam_drops (state := state) (tag := tag) (s := s.told) hpresent hleaves hc hclaim
  have hset := teamSet_changes (s := s.told) ht hstate htag hfree hchanges hwritten.1
  have hdrop := claimDrop_inQueue (s := (s.setTeam t r).told) ht hc hkind (.inr hphase)
  rw [if_neg hholder, if_pos hclaim] at hdrop
  have hlink : ∀ e, takeRequest (enqueue e w) = { takeRequest w with link := (enqueue e w).link } := fun e =>
    takeRequest_withLink w _
  have hu := (exec_command (i := .teamSet (.fits args)) rfl s).trans (frameArrives_ready _ hs)
  have hv := (exec_command (i := .claimDrop (.fits args.team)) rfl (s.setTeam t r)).trans
    (frameArrives_ready _ (show (s.setTeam t r).ready from hs))
  rw [show (runCommand (.teamSet (.fits args)) s.told).1 = w from congrArg Prod.fst hset, hlink] at hu
  rw [show (runCommand (.claimDrop (.fits args.team)) (s.setTeam t r).told).1 = w from congrArg Prod.fst hdrop,
    hlink] at hv
  refine ⟨_, _, hu, hv, rfl, rfl, rfl, rfl, rfl, rfl, rfl, by simp [w, State.setTeam], by simp [w, State.setTeam],
    by simp [w, State.setTeam], ?_, fun d hd => ?_⟩
  · have hteam : (takeRequest w).team t = r := by
      rw [State.team, (takeRequest_frame w).2.1]
      exact hwritten.1
    have haway : r.state ≠ .present := by
      cases state with
      | none => simp [leavesPlay] at hleaves
      | some state => cases state <;> simp [leavesPlay, r, TeamRecord.withStateTag] at hleaves ⊢
    exact fun hpresent => haway ((congrArg TeamRecord.state hteam).symm.trans hpresent)
  · refine removeClaim_noClaim (s := s.told.setTeam t r) (c := c) ?_
    rw [← hd]
    simp [w]

theorem benching_removesAKeptClaim : benchingRemovesAKeptClaim := by
  intro s args t state tag c hs ht hstate htag hpresent hleaves hc hclaim hholder hsettling hfloor
  have hfree : ¬(leavesPlay state = true ∧ s.told.holder = some t) := fun ⟨_, hholds⟩ =>
    hholder (by simpa [State.holder, hc] using hholds)
  have hchanges := changeTeam_drops (state := state) (tag := tag) (s := s.told) hpresent hleaves hc hclaim
  rw [removeClaim_keeps fun _ _ _ h => absurd h hsettling] at hchanges
  have hrun := teamSet_changes (s := s.told) ht hstate htag hfree hchanges
    (teamWritten (s := s.told) (by simp [State.setActive]; rfl)).1
  refine completes_publishing rfl rfl hs hrun signalQueueChange_board (fun b hb => ?_) (by decide) (by decide)
    (by decide) fun u hu => ?_
  · cases b <;> simp [Block.same, State.setActive, State.setTeam] at hb ⊢
  · obtain ⟨hengine, -, hsignals⟩ := queueChanged_of_publishTaken hu rfl rfl rfl
    obtain ⟨hteam, hothers⟩ := teamWritten (s := s) (hu.roster.trans (by simp [State.setActive]; rfl))
    exact ⟨hteam, hothers, hengine, hsignals⟩

/-- Settles O26: TEAM_SET writes the state and the tag, and takes a benched team's claim out of the queue. -/
theorem teamSetActs : Obligations.TeamSetActs :=
  ⟨teamSet_writesStateAndTag, benching_dropsTheClaim, benching_removesAKeptClaim⟩

end Sys2Proof.Proofs

/-! PROOFS. The order of the claims and the rotation of the ties (R106, R107, O41), and the order of the fast answers
(R135, part of O42), which is the same. -/

namespace Sys2Proof.Proofs
open Sys2Proof Sys2Proof.Machine

theorem tiePlace_eq (pointer t : TeamId) : tiePlace pointer t = (t.val + 16 - pointer.val) % 16 := by
  rw [tiePlace, Fin.sub_def]
  have hp := pointer.isLt
  exact congrArg (· % 16) (by omega)

theorem goesBefore_iff {pointer t u : TeamId} {capture capture' : ClockValue} :
    goesBefore pointer t capture u capture' = true ↔ 0 < clockDiff capture capture' ∨ (capture = capture'
      ∧ (t.val + 16 - pointer.val) % 16 < (u.val + 16 - pointer.val) % 16) := by
  simp [goesBefore, earlier, tiePlace_eq]

theorem tiePointer_movesPastTheWinner : tiePointerMovesPastTheWinner := by
  intro pointer head second rest
  refine ⟨fun htie => ?_, fun hfirst => if_neg hfirst, rfl⟩
  rw [tiePointerAfter, if_pos htie, Fin.val_add]
  have hteam := head.team.isLt
  split <;> (simp only [Fin.val_one]; omega)

theorem insertClaim_scans (pointer : TeamId) (q : Claim) (queue : List Claim) :
    ∃ front back, queue = front ++ back ∧ insertClaim pointer q queue = front ++ q :: back
      ∧ (∀ m ∈ front, ¬q.precedes pointer m = true) ∧ ∀ m more, back = m :: more → q.precedes pointer m = true := by
  induction queue with
  | nil => exact ⟨[], [], rfl, rfl, nofun, nofun⟩
  | cons met rest ih =>
    by_cases h : q.precedes pointer met = true
    · refine ⟨[], met :: rest, rfl, if_pos h, nofun, fun m more hm => ?_⟩
      rwa [(List.cons.inj hm).1] at h
    · obtain ⟨front, back, hqueue, hinsert, hfront, hback⟩ := ih
      refine ⟨met :: front, back, by rw [hqueue]; rfl, ?_, ?_, hback⟩
      · rw [insertClaim, if_neg h, hinsert]
        rfl
      · exact List.forall_mem_cons.mpr ⟨h, hfront⟩

theorem claims_arePlacedByTheScan : claimsArePlacedByTheScan := by
  intro pointer q queue
  refine ⟨fun phase hphase => ?_, ?_, ?_⟩
  · cases phase with
    | floor => exact absurd rfl hphase
    | _ => rfl
  · rintro head rest rfl
    rfl
  · obtain ⟨front, back, hqueue, hinsert, hfront, hback⟩ := insertClaim_scans pointer q queue
    exact ⟨front, back, hqueue, hinsert, fun m hm => mt goesBefore_iff.mpr (hfront m hm),
      fun m more hm => goesBefore_iff.mp (hback m more hm)⟩

/-- Settles O41: a claim is placed by the scan, and the tie pointer moves past the winner of a tie. -/
theorem claimsAreOrderedAndTiesRotate : Obligations.ClaimsAreOrderedAndTiesRotate :=
  ⟨tiePointer_movesPastTheWinner, claims_arePlacedByTheScan⟩

/-! ### The order of the fast answers -/

/-- The place of an answer among answers that lie within half the clock's range after `first`: first by its instant,
then by its team's place from the tie pointer. -/
def speedKey (pointer : TeamId) (first : ClockValue) (x : SpeedEntry) : Nat :=
  (x.capture - first).toNat * 16 + tiePlace pointer x.team

theorem clockDiff_pos_iff {first a b : ClockValue} (ha : (a - first).toNat < 2 ^ 31) (hb : (b - first).toNat < 2 ^ 31) :
    0 < clockDiff a b ↔ (a - first).toNat < (b - first).toNat := by
  have hsub : b - a = (b - first) - (a - first) := by bv_omega
  rw [clockDiff, hsub]
  generalize b - first = y at *
  generalize a - first = x at *
  rw [BitVec.toInt_eq_toNat_cond, BitVec.toNat_sub]
  have hx := x.isLt
  have hy := y.isLt
  omega

theorem capture_eq_iff {first a b : ClockValue} : a = b ↔ (a - first).toNat = (b - first).toNat := by
  rw [BitVec.toNat_inj, BitVec.sub_left_inj]

theorem goesBefore_iff_speedKey {pointer : TeamId} {first : ClockValue} {x y : SpeedEntry}
    (hx : (x.capture - first).toNat < 2 ^ 31) (hy : (y.capture - first).toNat < 2 ^ 31) :
    goesBefore pointer x.team x.capture y.team y.capture = true
      ↔ speedKey pointer first x < speedKey pointer first y := by
  have hplace : ∀ t, tiePlace pointer t < 16 := fun t => (t - pointer).isLt
  have hxt := hplace x.team
  have hyt := hplace y.team
  rw [goesBefore, Bool.or_eq_true, Bool.and_eq_true, beq_iff_eq, decide_eq_true_iff, earlier, decide_eq_true_iff,
    clockDiff_pos_iff hx hy, capture_eq_iff (first := first), speedKey, speedKey]
  omega

theorem insertSpeed_perm (pointer : TeamId) (x : SpeedEntry) (l : List SpeedEntry) :
    (insertSpeed pointer x l).Perm (x :: l) := by
  induction l with
  | nil => exact .refl _
  | cons y ys ih =>
    rw [insertSpeed]
    split
    · exact .refl _
    · exact (ih.cons y).trans (.swap x y ys)

theorem speedOrder_perm (pointer : TeamId) (l : List SpeedEntry) : (speedOrder pointer l).Perm l := by
  have hfold : ∀ order : List SpeedEntry,
      (l.foldl (fun order x => insertSpeed pointer x order) order).Perm (order ++ l) := by
    induction l with
    | nil => exact fun order => by simp
    | cons x l ih =>
      intro order
      refine (ih _).trans (((insertSpeed_perm pointer x order).append_right l).trans ?_)
      exact List.perm_middle.symm
  exact hfold []

theorem insertSpeed_sorted {pointer : TeamId} {first : ClockValue} {x : SpeedEntry} {l : List SpeedEntry}
    (hx : (x.capture - first).toNat < 2 ^ 31) (hl : ∀ y ∈ l, (y.capture - first).toNat < 2 ^ 31)
    (h : l.Pairwise fun y z => speedKey pointer first y ≤ speedKey pointer first z) :
    (insertSpeed pointer x l).Pairwise fun y z => speedKey pointer first y ≤ speedKey pointer first z := by
  induction l with
  | nil => exact List.pairwise_singleton _ _
  | cons y ys ih =>
    obtain ⟨hy, hys⟩ := List.forall_mem_cons.mp hl
    obtain ⟨hfirst, hrest⟩ := List.pairwise_cons.mp h
    have hbefore := goesBefore_iff_speedKey (pointer := pointer) hx hy
    rw [insertSpeed]
    split
    next hgoes =>
      have hle := Nat.le_of_lt (hbefore.mp hgoes)
      exact List.pairwise_cons.mpr ⟨List.forall_mem_cons.mpr ⟨hle, fun z hz => Nat.le_trans hle (hfirst z hz)⟩, h⟩
    next hstays =>
      have hle := Nat.not_lt.mp (mt hbefore.mpr hstays)
      refine List.pairwise_cons.mpr ⟨fun z hz => ?_, ih hys hrest⟩
      rcases List.mem_cons.mp ((insertSpeed_perm pointer x ys).mem_iff.mp hz) with rfl | hz
      · exact hle
      · exact hfirst z hz

theorem speedOrder_sorted {pointer : TeamId} {first : ClockValue} {l : List SpeedEntry}
    (hl : ∀ y ∈ l, (y.capture - first).toNat < 2 ^ 31) :
    (speedOrder pointer l).Pairwise fun y z => speedKey pointer first y ≤ speedKey pointer first z := by
  have hfold : ∀ order : List SpeedEntry, (∀ y ∈ order, (y.capture - first).toNat < 2 ^ 31) →
      order.Pairwise (fun y z => speedKey pointer first y ≤ speedKey pointer first z) →
      (l.foldl (fun order x => insertSpeed pointer x order) order).Pairwise
        fun y z => speedKey pointer first y ≤ speedKey pointer first z := by
    induction l with
    | nil => exact fun order _ h => h
    | cons x l ih =>
      intro order horder h
      obtain ⟨hx, hl⟩ := List.forall_mem_cons.mp hl
      refine ih hl _ (fun y hy => ?_) (insertSpeed_sorted hx horder h)
      rcases List.mem_cons.mp ((insertSpeed_perm pointer x order).mem_iff.mp hy) with rfl | hy
      · exact hx
      · exact horder y hy
  exact hfold [] nofun .nil

end Sys2Proof.Proofs

/-! PROOFS. REVEAL: the tallies, the awards to the choices and to the fast right answers, and the revealed context
(R131 to R136, O42). -/

namespace Sys2Proof.Proofs
open Sys2Proof Sys2Proof.Machine

/-! ### Tallies -/

theorem optionsUpTo_get (n : Nat) (o : Letter) :
    (optionsUpTo n)[o.code]? = if o.code < n then some o else none := by
  rw [optionsUpTo, List.getElem?_take]
  cases o <;> rfl

theorem tallies_countTheChoices : talliesCountTheChoices := by
  intro options entries
  refine ⟨fun o => ?_, ?_⟩
  · rw [tallyOf, List.getElem?_map, optionsUpTo_get]
    split <;> rfl
  · refine congrArg List.length (List.filter_congr fun e _ => ?_)
    cases e.vote <;> rfl

/-! ### The fast right answers -/

/-- Whether the entry names a right answer that counts. -/
def countsAsRight (right : Letter) (e : BallotEntry) : Bool :=
  !e.skipped && decide (e.vote.map Vote.choice = some right)

/-- The entry's instant in the order of the fast answers. -/
def speedEntryOf (e : BallotEntry) : SpeedEntry :=
  { team := e.team, capture := (e.vote.map Vote.capture).getD 0#32 }

theorem correctEntry_eq (right : Letter) (e : BallotEntry) :
    correctEntry right e = if countsAsRight right e = true then some (speedEntryOf e) else none := by
  cases hs : e.skipped <;> cases hv : e.vote <;> simp [correctEntry, countsAsRight, speedEntryOf, hs, hv]

theorem filterMap_correctEntry (right : Letter) (entries : List BallotEntry) :
    entries.filterMap (correctEntry right) = (entries.filter (countsAsRight right)).map speedEntryOf := by
  induction entries with
  | nil => rfl
  | cons e es ih =>
    rw [List.filterMap_cons, List.filter_cons, correctEntry_eq, ih]
    split <;> simp_all

theorem exists_perm_of_perm_map {α β : Type} {f : α → β} {l : List α} {m : List β} (h : m.Perm (l.map f)) :
    ∃ k : List α, k.Perm l ∧ m = k.map f := by
  generalize hn : l.map f = n at h
  induction h generalizing l with
  | nil => exact ⟨[], by rw [List.map_eq_nil_iff.mp hn], rfl⟩
  | cons x _ ih =>
    obtain ⟨a, l', rfl, rfl, hl'⟩ := List.map_eq_cons_iff.mp hn
    obtain ⟨k, hk, rfl⟩ := ih hl'
    exact ⟨a :: k, hk.cons a, rfl⟩
  | swap x y ys =>
    obtain ⟨a, l', rfl, rfl, hl'⟩ := List.map_eq_cons_iff.mp hn
    obtain ⟨b, l'', rfl, rfl, rfl⟩ := List.map_eq_cons_iff.mp hl'
    exact ⟨b :: a :: l'', .swap a b l'', rfl⟩
  | trans _ _ ih ih' =>
    obtain ⟨k', hk', rfl⟩ := ih' hn
    obtain ⟨k, hk, rfl⟩ := ih rfl
    exact ⟨k, hk.trans hk', rfl⟩

theorem fasterThan_iff {pointer : TeamId} {right : Letter} {x y : BallotEntry} (hx : countsAsRight right x = true)
    (hy : countsAsRight right y = true) : fasterThan pointer x y ↔ goesBefore pointer (speedEntryOf x).team
      (speedEntryOf x).capture (speedEntryOf y).team (speedEntryOf y).capture = true := by
  have hvoted : ∀ e, countsAsRight right e = true → ∃ v, e.vote = some v := fun e he => by
    cases hv : e.vote with
    | none => simp [countsAsRight, hv] at he
    | some v => exact ⟨v, rfl⟩
  obtain ⟨v, hv⟩ := hvoted x hx
  obtain ⟨w, hw⟩ := hvoted y hy
  simp [fasterThan, speedEntryOf, hv, hw, goesBefore_iff]

theorem speedPlaces_followTheTimes : speedPlacesFollowTheTimes := by
  intro pointer o places entries first hnear
  have hright := filterMap_correctEntry o entries
  obtain ⟨order, hperm, hmap⟩ := exists_perm_of_perm_map (speedOrder_perm pointer
    ((entries.filter (countsAsRight o)).map speedEntryOf))
  have hcounts : ∀ e ∈ order, e ∈ entries ∧ countsAsRight o e = true := fun e he =>
    List.mem_filter.mp (hperm.mem_iff.mp he)
  have hwindow : ∀ e ∈ entries, countsAsRight o e = true → ((speedEntryOf e).capture - first).toNat < 2 ^ 31 := by
    intro e he hcount
    cases hv : e.vote with
    | none => simp [countsAsRight, hv] at hcount
    | some v => simpa [speedEntryOf, hv] using hnear e he v hv
  have hsorted : (order.map speedEntryOf).Pairwise fun y z => speedKey pointer first y ≤ speedKey pointer first z := by
    rw [← hmap]
    refine speedOrder_sorted fun y hy => ?_
    obtain ⟨e, he, rfl⟩ := List.mem_map.mp hy
    obtain ⟨hmem, hcount⟩ := List.mem_filter.mp he
    exact hwindow e hmem hcount
  refine ⟨order, hperm, ?_, ?_⟩
  · refine (List.pairwise_map.mp hsorted).imp_of_mem fun {x y} hx hy hle hfaster => ?_
    obtain ⟨hxm, hxc⟩ := hcounts x hx
    obtain ⟨hym, hyc⟩ := hcounts y hy
    have hgoes := (fasterThan_iff hyc hxc).mp hfaster
    exact absurd ((goesBefore_iff_speedKey (hwindow y hym hyc) (hwindow x hxm hxc)).mp hgoes) (Nat.not_lt.mpr hle)
  · rw [speedPlaces, hright, hmap, List.map_map, ← List.map_take]
    rfl

/-! ### The awards of a reveal -/

theorem revealAward_eq_some_iff {c : Context} {right : Letter} {e : BallotEntry} {x : Award} :
    revealAward c right e = some x ↔ e.skipped = false ∧ ∃ v, e.vote = some v
      ∧ x = { team := e.team, points := if v.choice = right then c.cue.correctPoints else c.cue.wrongPoints,
              cause := if v.choice = right then .revealRight else .revealWrong,
              question := some c.cue.question, bonus := none } := by
  cases hs : e.skipped with
  | true => simp [revealAward, hs]
  | false =>
    cases hv : e.vote with
    | none => simp [revealAward, hs, hv]
    | some v => by_cases h : v.choice = right <;> simp [revealAward, hs, hv, h, @eq_comm Award]

theorem revealAwards_teams (s : State) (c : Context) (right : Letter) (l : List BallotEntry) :
    ((l.map (markSkipped s)).filterMap (revealAward c right)).map Award.team
      = (l.filter fun e => s.teamPresent e.team && e.vote.isSome).map BallotEntry.team := by
  induction l with
  | nil => rfl
  | cons e es ih =>
    rw [List.map_cons, List.filterMap_cons, List.filter_cons]
    cases hp : s.teamPresent e.team with
    | false =>
      have hnone : revealAward c right (markSkipped s e) = none := by simp [revealAward, markSkipped, hp]
      rw [hnone, Bool.false_and, if_neg Bool.false_ne_true]
      exact ih
    | true =>
      cases hv : e.vote with
      | none =>
        have hnone : revealAward c right (markSkipped s e) = none := by simp [revealAward, markSkipped, hv]
        rw [hnone, Option.isSome_none, Bool.and_false, if_neg Bool.false_ne_true]
        exact ih
      | some v =>
        have hsome := revealAward_eq_some_iff (c := c) (right := right) (e := markSkipped s e).mpr
          ⟨by simp [markSkipped, hp], v, hv, rfl⟩
        rw [hsome, Option.isSome_some, Bool.and_true, if_pos rfl, List.map_cons, List.map_cons, ih]
        rfl

theorem mem_speedPlaces {pointer : TeamId} {right : Letter} {places : Nat} {entries : List BallotEntry} {t : TeamId}
    (h : t ∈ speedPlaces pointer right places entries) :
    ∃ e ∈ entries, countsAsRight right e = true ∧ e.team = t := by
  obtain ⟨x, hx, rfl⟩ := List.mem_map.mp (List.mem_of_mem_take h)
  rw [filterMap_correctEntry] at hx
  obtain ⟨e, he, rfl⟩ := List.mem_map.mp ((speedOrder_perm _ _).mem_iff.mp hx)
  obtain ⟨hmem, hcount⟩ := List.mem_filter.mp he
  exact ⟨e, hmem, hcount, rfl⟩

theorem revealAwards_followTheChoices : revealAwardsFollowTheChoices := by
  intro s c f b o
  refine ⟨_, _, rfl, revealAwards_teams s c o b.entries, fun x hx => ?_, ?_, fun x hx => ?_⟩
  · obtain ⟨m, hm, hx⟩ := List.mem_filterMap.mp hx
    obtain ⟨e, he, rfl⟩ := List.mem_map.mp hm
    obtain ⟨-, v, hv, rfl⟩ := revealAward_eq_some_iff.mp hx
    exact ⟨rfl, rfl, e, he, v, rfl, hv, fun h => ⟨if_pos h, if_pos h⟩, fun h => ⟨if_neg h, if_neg h⟩⟩
  · rw [List.map_map]
    exact List.map_id _
  · obtain ⟨t, ht, rfl⟩ := List.mem_map.mp hx
    obtain ⟨m, hm, hcount, rfl⟩ := mem_speedPlaces ht
    obtain ⟨e, he, rfl⟩ := List.mem_map.mp hm
    refine ⟨rfl, rfl, rfl, e, he, rfl, ?_⟩
    cases hv : e.vote <;> simp_all [countsAsRight, markSkipped]

/-! ### REVEAL -/

theorem reveal_badOption {x : Byte} (h : letterOf x = none) (s : State) :
    reveal (some x) s = (s, refuse .badValue) := by
  simp only [reveal, revealOption, h, Option.map_none]

theorem revealOption_isSome {option : Option Byte} (h : ∀ x, option = some x → letterOf x ≠ none) :
    ∃ given, revealOption option = some given := by
  cases option with
  | none => exact ⟨none, rfl⟩
  | some x =>
    obtain ⟨o, ho⟩ := Option.ne_none_iff_exists'.mp (h x rfl)
    exact ⟨some o, by rw [revealOption, ho]; rfl⟩

theorem reveal_wrongState {option : Option Byte} {s : State} (h : ∀ x, option = some x → letterOf x ≠ none)
    (hno : ∀ c e, s.engine.active = some c → c.isPoll = true → c.ending = some e →
      c.phase ≠ .closed ∨ e.outcome ≠ .timeUp) : reveal option s = (s, refuse .wrongState) := by
  obtain ⟨given, hgiven⟩ := revealOption_isSome h
  unfold reveal
  rw [hgiven]
  cases hc : s.engine.active with
  | none => rfl
  | some c =>
    dsimp only
    split
    next f b e hf hb he =>
      have hkind : c.isPoll = true := by
        refine Classical.byContradiction fun hk => ?_
        have hnone := (pollFields_eq_none_iff c).mpr (Bool.eq_false_iff.mpr hk)
        rw [hnone] at hf
        exact nomatch hf
      have hnot : ¬(c.phase = .closed ∧ e.outcome = .timeUp) := fun ⟨hp, ho⟩ =>
        (hno c e hc hkind he).elim (absurd hp) (absurd ho)
      rw [if_neg hnot]
    next => rfl

theorem reveal_closed {option : Option Byte} {given : Option Letter} {s : State} {c : Context} {f : PollFields}
    {b : Ballot} {e : Ending} (hgiven : revealOption option = some given) (hc : s.engine.active = some c)
    (hf : c.pollFields = some f) (hb : c.ballot = some b) (he : c.ending = some e) (hphase : c.phase = .closed)
    (houtcome : e.outcome = .timeUp) : reveal option s = revealWith given e c f b s := by
  simp only [reveal, hgiven, hc, hf, hb, he, hphase, houtcome, and_self, if_true]

theorem SameBehindLink.handOverAll {s v : State} (h : SameBehindLink s v) (l : List Award) :
    SameBehindLink (Machine.handOverAll l s) (Machine.handOverAll l v) := by
  obtain ⟨k, m, rfl⟩ := h
  exact ⟨k, m, handOverAll_told l s k m⟩

theorem SameRound.handOverAll {s v : State} (h : SameRound s v) (l : List Award) :
    SameRound s (Machine.handOverAll l v) := by
  induction l generalizing v with
  | nil => exact h
  | cons a l ih => exact ih (h.handOver a)

theorem acceptReveal_board (right : Letter) (given : Bool) (e : Ending) (c : Context) (f : PollFields) (b : Ballot)
    (s : State) : (acceptReveal right given e c f b s).1.board = s.board.triggered :=
  signalRoundChange_triggered (handOverAll_board _ s)

theorem acceptReveal_unchangedBut (right : Letter) (given : Bool) (e : Ending) (c : Context) (f : PollFields)
    (b : Ballot) (s : State) : unchangedBut [.teams, .scores, .board, .notices, .desk, .engine] s
      (acceptReveal right given e c f b s).1 := by
  intro k hk
  cases k <;> simp [Block.same, acceptReveal, State.setActive] at hk ⊢

theorem reveal_awardsTheBallot : revealAwardsTheBallot := by
  intro s option c f b e hs hc hf hb he hphase houtcome
  refine ⟨fun o h => ?_, fun h => ?_⟩
  · have hrun : reveal option s.told = acceptReveal o option.isSome e c f b s.told := by
      rcases h with ⟨x, rfl, hx, hlow⟩ | ⟨rfl, hright⟩
      · rw [reveal_closed (s := s.told) (by rw [revealOption, hx]; rfl) hc hf hb he hphase houtcome]
        exact if_neg (Nat.not_le.mpr hlow)
      · rw [reveal_closed (s := s.told) rfl hc hf hb he hphase houtcome]
        simp only [revealWith, hright]
        rfl
    refine ⟨_, completes_publishing rfl rfl hs hrun (acceptReveal_board o option.isSome e c f b s.told)
      (acceptReveal_unchangedBut o option.isSome e c f b s.told)
      (by decide) (by decide) (by decide) fun t ht => ⟨rfl, ?_⟩⟩
    have hround := (SameRound.told s).handOverAll (revealAwards s c f b o)
    obtain ⟨k, m, htold⟩ := (SameBehindLink.told s).handOverAll (revealAwards s c f b o)
    have hroster : (acceptReveal o option.isSome e c f b s.told).1.roster
        = (handOverAll (revealAwards s c f b o) s.told).roster := by
      simp [acceptReveal, State.setActive]; rfl
    have hscores : (acceptReveal o option.isSome e c f b s.told).1.scores
        = (handOverAll (revealAwards s c f b o) s.told).scores := by
      simp [acceptReveal, State.setActive]; rfl
    obtain ⟨hengine, hdesk, hends⟩ := activeRound_of_publishTaken (ks := []) ht hround
      (show _ = (handOverAll (revealAwards s c f b o) s).notices.withPending [] by
        rw [withPending_nil]
        exact (congrArg State.notices htold).trans rfl)
    exact ⟨ht.roster.trans (hroster.trans ((congrArg State.roster htold).trans rfl)),
      ht.scores.trans (hscores.trans ((congrArg State.scores htold).trans rfl)), ⟨_, rfl, hengine, hdesk⟩, hends⟩
  · refine completes_left rfl rfl hs (show reveal option s.told = _ from ?_)
    rcases h with ⟨x, o, rfl, hx, hhigh⟩ | ⟨rfl, hnone⟩
    · rw [reveal_closed (s := s.told) (by rw [revealOption, hx]; rfl) hc hf hb he hphase houtcome]
      exact if_pos hhigh
    · rw [reveal_closed (s := s.told) rfl hc hf hb he hphase houtcome]
      simp only [revealWith, hnone]

/-- Settles O42: REVEAL gives the awards of the choices and of the fast right answers, or is refused. -/
theorem revealAwardsTheVotes : Obligations.RevealAwardsTheVotes := by
  refine ⟨reveal_awardsTheBallot, revealAwards_followTheChoices, speedPlaces_followTheTimes, tallies_countTheChoices,
    fun s hs => ⟨fun x hx => ?_, fun option h hno => ?_⟩⟩
  · exact completes_left rfl rfl hs (reveal_badOption hx s.told)
  · exact completes_left rfl rfl hs (reveal_wrongState (s := s.told) h hno)

end Sys2Proof.Proofs

/-! PROOFS. Awards and the award lock: what an award writes (R141 to R143, O44), SCORE_ADJUST (O45), SCORE_LOCK (O46), and
the ends of the lock (O47). -/

namespace Sys2Proof.Proofs
open Sys2Proof Sys2Proof.Machine

/-! ### The changed set -/

theorem mem_joinScoreChanged_other {t : TeamId} {saturated : Bool} {m : ScoreMark} (hm : m.team ≠ t)
    (l : List ScoreMark) : m ∈ joinScoreChanged t saturated l ↔ m ∈ l := by
  have hnew : ∀ b, m ≠ { team := t, saturated := b } := fun b h => hm (by rw [h])
  induction l with
  | nil => simp [joinScoreChanged, hnew]
  | cons x xs ih =>
    rw [joinScoreChanged]
    split
    · simp [hnew]
    · split
      next heq =>
        have hx : m ≠ x := fun h => hm (by rw [h, heq])
        simp [hnew, hx]
      next => simp [ih]

theorem exists_mem_joinScoreChanged (t : TeamId) (saturated : Bool) (l : List ScoreMark) :
    ∃ m ∈ joinScoreChanged t saturated l, m.team = t := by
  induction l with
  | nil => exact ⟨_, List.mem_singleton_self _, rfl⟩
  | cons x xs ih =>
    rw [joinScoreChanged]
    split
    · exact ⟨_, List.mem_cons_self, rfl⟩
    · split
      · exact ⟨_, List.mem_cons_self, rfl⟩
      · obtain ⟨m, hm, ht⟩ := ih
        exact ⟨m, List.mem_cons_of_mem _ hm, ht⟩

theorem saturated_joinScoreChanged {t : TeamId} {saturated : Bool} {l : List ScoreMark}
    (h : (l.map ScoreMark.team).Pairwise (· < ·)) : ∀ m ∈ joinScoreChanged t saturated l, m.team = t →
      (m.saturated = true ↔ saturated = true ∨ ∃ m₀ ∈ l, m₀.team = t ∧ m₀.saturated = true) := by
  induction l with
  | nil => simp [joinScoreChanged]
  | cons x xs ih =>
    obtain ⟨hx, hxs⟩ := List.pairwise_cons.mp h
    have hafter : ∀ y ∈ xs, x.team < y.team := fun y hy => hx _ (List.mem_map_of_mem hy)
    rw [joinScoreChanged]
    split
    next hlt =>
      have hnone : ¬∃ m₀ ∈ x :: xs, m₀.team = t ∧ m₀.saturated = true := by
        rintro ⟨m₀, hm₀, hteam, -⟩
        rcases List.mem_cons.mp hm₀ with rfl | hm₀
        · exact absurd hteam (Ne.symm (Fin.ne_of_lt hlt))
        · exact absurd hteam (Ne.symm (Fin.ne_of_lt (Fin.lt_trans hlt (hafter m₀ hm₀))))
      intro m hm hteam
      rcases List.mem_cons.mp hm with rfl | hm
      · simp only [hnone, or_false]
      · rcases List.mem_cons.mp hm with rfl | hm
        · exact absurd hteam (Ne.symm (Fin.ne_of_lt hlt))
        · exact absurd hteam (Ne.symm (Fin.ne_of_lt (Fin.lt_trans hlt (hafter m hm))))
    next hnlt =>
      split
      next heq =>
        intro m hm hteam
        have hrest : ∀ y ∈ xs, y.team ≠ t := fun y hy => Ne.symm (Fin.ne_of_lt (heq ▸ hafter y hy))
        rcases List.mem_cons.mp hm with rfl | hm
        · have honly : (∃ m₀ ∈ x :: xs, m₀.team = t ∧ m₀.saturated = true) ↔ x.saturated = true := by
            refine ⟨?_, fun hs => ⟨x, List.mem_cons_self, heq.symm, hs⟩⟩
            rintro ⟨m₀, hm₀, hteam, hs⟩
            rcases List.mem_cons.mp hm₀ with rfl | hm₀
            · exact hs
            · exact absurd hteam (hrest m₀ hm₀)
          rw [honly, Bool.or_eq_true, or_comm]
        · exact absurd hteam (hrest m hm)
      next hne =>
        intro m hm hteam
        rcases List.mem_cons.mp hm with rfl | hm
        · exact absurd hteam.symm hne
        · simp only [ih hxs m hm hteam, List.mem_cons, exists_eq_or_imp]
          have hx' : ¬(x.team = t ∧ x.saturated = true) := fun ⟨h, _⟩ => hne h.symm
          simp only [hx', false_or]

/-! ### One award -/

theorem clampScore_eq (z : Int) : clampScore z = max (-9999) (min 9999 z) := by
  unfold clampScore Config.maxScore
  grind

theorem saturates_iff (z : Int) : saturates z = true ↔ z < -9999 ∨ 9999 < z := decide_eq_true_iff

theorem team_applyOne (a : Award) (s : State) (n : TeamId) :
    (applyOne a s).team n = if a.team = n then (s.team a.team).afterAward a else s.team n := by
  rw [applyOne_eq]
  exact look_put _ _ _ _

theorem award_changesItsTeam : awardChangesItsTeam := by
  intro s a t sum
  have hteam : t.team a.team = (s.team a.team).afterAward a := applyOne_team_same a s
  have hscore : (t.team a.team).score = clampScore sum := by rw [hteam]; rfl
  have hchanged : t.scores.changed = joinScoreChanged a.team (saturates sum) s.scores.changed := by
    simp only [t, applyOne_eq]
    rfl
  rw [hscore, hchanged]
  refine ⟨⟨fun h => ?_, fun h => ?_, fun h => ?_⟩, by rw [hteam]; rfl, by rw [hteam]; rfl, by rw [hteam]; rfl,
    fun n hn => by rw [team_applyOne, if_neg hn.symm], fun m hm => mem_joinScoreChanged_other hm _,
    exists_mem_joinScoreChanged _ _ _, fun hasc m hm hmt => ?_, ?_, ?_, ?_, ?_⟩
  · rw [clampScore_eq]
    omega
  · rw [clampScore_eq]
    omega
  · rw [clampScore_eq]
    omega
  · rw [saturated_joinScoreChanged hasc m hm hmt, saturates_iff, or_assoc]
  all_goals simp only [t, applyOne_eq]
  rfl

/-! ### Handing an award over -/

theorem streakAward_earned {r : TeamRecord} {a : Award} {n : Nat} (hcause : a.cause = .correct)
    (hbonus : a.bonus = some n) (hroom : r.streak < 255) (hthird : (r.streak + 1) % 3 = 0) (hn : 0 < n) :
    streakAward r a
      = some { team := a.team, points := n, cause := .streak, question := a.question, bonus := none } := by
  simp only [streakAward, hcause, hbonus]
  exact if_pos ⟨hroom, hthird, hn⟩

theorem streakAward_none {r : TeamRecord} {a : Award} (h : a.cause ≠ .correct ∨ a.bonus = none ∨ a.bonus = some 0
    ∨ 255 ≤ r.streak ∨ (r.streak + 1) % 3 ≠ 0) : streakAward r a = none := by
  unfold streakAward
  split
  next n hcause hbonus =>
    refine if_neg fun ⟨hroom, hthird, hn⟩ => ?_
    rcases h with h | h | h | h | h
    · exact h hcause
    · simp [hbonus] at h
    · rw [hbonus, Option.some.injEq] at h
      omega
    · exact absurd hroom (Nat.not_lt.mpr h)
    · exact h hthird
  next => rfl

theorem handOver_free {a : Award} {s : State} (h : s.scores.lock = .free) : handOver a s = applyAward a s := by
  simp only [handOver, h]

theorem handOver_listed {a : Award} {s : State} {time : ClockValue} {snapshot : Vector Int 16}
    (h : s.scores.lock = .held time snapshot) (hroom : s.scores.pendingAwards.length < 16) :
    handOver a s = listAward a s := by
  simp only [handOver, h]
  exact if_pos hroom

theorem handOver_full {a : Award} {s : State} {time : ClockValue} {snapshot : Vector Int 16}
    (h : s.scores.lock = .held time snapshot) (hfull : 16 ≤ s.scores.pendingAwards.length) :
    handOver a s = applyAward a (noteLockEnd .full (endLock s)) := by
  simp only [handOver, h]
  exact if_neg (Nat.not_lt.mpr hfull)

theorem endLock_held {s : State} {time : ClockValue} {snapshot : Vector Int 16} (h : s.scores.lock = .held time snapshot) :
    endLock s = autoRequest (freeLock (applyAwards s.scores.pendingAwards s)) := by
  have hheld : s.lockHeld = true := by simp only [State.lockHeld, h]
  rw [endLock, if_pos hheld, releaseLock, if_pos hheld]

theorem applyAwards_append (l : List Award) (a : Award) (s : State) :
    applyAwards (l ++ [a]) s = applyAward a (applyAwards l s) := by
  induction l generalizing s with
  | nil => rfl
  | cons b l ih => exact ih _

theorem applyOne_roster_congr (a : Award) {s t : State} (h : s.roster = t.roster) :
    (applyOne a s).roster = (applyOne a t).roster := by
  rw [applyOne_eq, applyOne_eq]
  simp only [State.team, h]

theorem applyAward_roster_congr (a : Award) {s t : State} (h : s.roster = t.roster) :
    (applyAward a s).roster = (applyAward a t).roster := by
  have hone := applyOne_roster_congr a h
  have hstreak : streakAward (s.team a.team) a = streakAward (t.team a.team) a := by simp only [State.team, h]
  unfold applyAward
  rw [hstreak]
  split
  · exact hone
  · exact applyOne_roster_congr _ hone

theorem applyOne_lock (a : Award) (s : State) : (applyOne a s).scores.lock = s.scores.lock
    ∧ (applyOne a s).scores.pendingAwards = s.scores.pendingAwards
    ∧ (applyOne a s).scores.lastEnd = s.scores.lastEnd := by
  rw [applyOne_eq]
  exact ⟨rfl, rfl, rfl⟩

theorem applyAward_lock (a : Award) (s : State) : (applyAward a s).scores.lock = s.scores.lock
    ∧ (applyAward a s).scores.pendingAwards = s.scores.pendingAwards
    ∧ (applyAward a s).scores.lastEnd = s.scores.lastEnd := by
  unfold applyAward
  split
  · exact applyOne_lock a s
  next b _ =>
    obtain ⟨hlock, hpending, hend⟩ := applyOne_lock a s
    obtain ⟨hlock', hpending', hend'⟩ := applyOne_lock b (applyOne a s)
    exact ⟨hlock'.trans hlock, hpending'.trans hpending, hend'.trans hend⟩

theorem awards_areHandedOverByTheLock : awardsAreHandedOverByTheLock := by
  intro s a
  refine ⟨fun hfree => ⟨fun n hcause hbonus hroom hthird hn => ?_, fun h => ?_⟩, fun time snapshot hheld hroom => ?_,
    fun time snapshot hheld hfull => ?_⟩
  · rw [handOver_free hfree, applyAward, streakAward_earned hcause hbonus hroom hthird hn]
  · rw [handOver_free hfree, applyAward, streakAward_none h]
  · exact handOver_listed hheld hroom
  · rw [handOver_full hheld hfull, endLock_held hheld]
    obtain ⟨hlock, hpending, hend⟩ := applyAward_lock a
      (noteLockEnd .full (autoRequest (freeLock (applyAwards s.scores.pendingAwards s))))
    obtain ⟨hnotices, -⟩ := applyAward_signals a
      (noteLockEnd .full (autoRequest (freeLock (applyAwards s.scores.pendingAwards s))))
    refine ⟨?_, hlock.trans ?_, hpending.trans ?_, hend.trans rfl, ?_, ?_⟩
    · rw [applyAwards_append]
      exact applyAward_roster_congr a (by simp [noteLockEnd, freeLock, setPending])
    · simp [noteLockEnd, freeLock, setPending]
    · simp [noteLockEnd, freeLock, setPending]
    · rw [hnotices, withPending_get, noteLockEnd, setPending_eq, withPending_get]
      rfl
    · rw [hnotices, withPending_get]
      rfl

/-- Settles O44: an award changes its team within the bounds, and is applied, listed or applied after the lock. -/
theorem awardsReachTheirTeams : Obligations.AwardsReachTheirTeams :=
  ⟨award_changesItsTeam, awards_areHandedOverByTheLock⟩

end Sys2Proof.Proofs

/-! PROOFS. SCORE_ADJUST (R144, O45), SCORE_LOCK (R151, O46), SCORE_UNLOCK and the lapse (R152, R155, O47). -/

namespace Sys2Proof.Proofs
open Sys2Proof Sys2Proof.Machine

/-! ### SCORE_ADJUST -/

theorem adjustmentPoints_of {score points : Int} {change : Adjustment}
    (h : (∃ v : Half, change = .delta v ∧ -9999 ≤ v.toInt ∧ v.toInt ≤ 9999 ∧ points = v.toInt)
      ∨ ∃ v : Half, change = .set v ∧ -9999 ≤ v.toInt ∧ v.toInt ≤ 9999 ∧ points = v.toInt - score) :
    adjustmentPoints score change = some points := by
  rcases h with ⟨v, rfl, hlow, hhigh, rfl⟩ | ⟨v, rfl, hlow, hhigh, rfl⟩
  · exact signedWithin_eq_some_iff.mpr ⟨rfl, hlow, hhigh⟩
  · exact Option.map_eq_some_iff.mpr ⟨_, signedWithin_eq_some_iff.mpr ⟨rfl, hlow, hhigh⟩, rfl⟩

theorem signedWithin_eq_none {low high : Int} {v : Half} (h : v.toInt < low ∨ high < v.toInt) :
    signedWithin low high v = none := by
  rw [Option.eq_none_iff_forall_ne_some]
  intro z hz
  obtain ⟨rfl, hlow, hhigh⟩ := signedWithin_eq_some_iff.mp hz
  omega

theorem adjustmentPoints_none {score : Int} {change : Adjustment} {v : Half}
    (hchange : change = .delta v ∨ change = .set v) (h : v.toInt < -9999 ∨ 9999 < v.toInt) :
    adjustmentPoints score change = none := by
  have hnone : signedWithin (-Config.maxScore) Config.maxScore v = none := signedWithin_eq_none h
  rcases hchange with rfl | rfl
  · exact hnone
  · rw [adjustmentPoints, hnone]
    rfl

theorem scoreAdjust_applies {args : ScoreAdjustArgs} {t : TeamId} {points : Int} {s : State}
    (ht : teamOf args.team = some t) (hpoints : adjustmentPoints (s.team t).score args.change = some points) :
    scoreAdjust args s = (applyOne (manualAward t points) s,
      ok [.i16 (s.team t).score, .i16 points, .i16 ((applyOne (manualAward t points) s).team t).score,
        .flag (saturates ((s.team t).score + points))]) := by
  simp only [scoreAdjust, ht, State.liveScore, hpoints]
  rfl

theorem scoreAdjust_badValue {args : ScoreAdjustArgs} {s : State} (h : teamOf args.team = none
    ∨ ∃ v : Half, (args.change = .delta v ∨ args.change = .set v) ∧ (v.toInt < -9999 ∨ 9999 < v.toInt)) :
    scoreAdjust args s = (s, refuse .badValue) := by
  cases ht : teamOf args.team with
  | none => simp only [scoreAdjust, ht]
  | some t =>
    obtain ⟨v, hchange, hv⟩ := h.resolve_left (by simp [ht])
    simp only [scoreAdjust, ht, adjustmentPoints_none hchange hv]

theorem applyOne_unchangedBut (a : Award) (s : State) :
    unchangedBut [.teams, .scores, .board, .notices] s (applyOne a s) := by
  intro b hb
  rw [applyOne_eq]
  cases b <;> simp [Block.same] at hb ⊢

theorem afterAward_manual (r : TeamRecord) (t : TeamId) (points : Int) : r.afterAward (manualAward t points)
    = { r with
        score := max (-9999) (min 9999 (r.score + points))
        last := some { points := points, cause := .manual } } := by
  rw [TeamRecord.afterAward, clampScore_eq]
  rfl

/-- Settles O45: SCORE_ADJUST applies a manual award, or is refused. -/
theorem scoreAdjustAppliesAManualAward : Obligations.ScoreAdjustAppliesAManualAward := by
  intro s args hs
  refine ⟨fun t points ht h => ?_, fun h => completes_left rfl rfl hs (scoreAdjust_badValue h)⟩
  have hrun := scoreAdjust_applies (s := s.told) ht (adjustmentPoints_of h)
  have hboard : (applyOne (manualAward t points) s.told).board = s.board.triggered := by
    rw [applyOne_eq]
    rfl
  refine ⟨_, completes_publishing rfl rfl hs hrun hboard (applyOne_unchangedBut _ s.told) (by decide) (by decide)
    (by decide) fun u hu => ?_⟩
  have hteam : ∀ n, u.team n = (applyOne (manualAward t points) s.told).team n := fun n => by
    rw [State.team, State.team, hu.roster]
  obtain ⟨hlock, hpending, hend⟩ := applyOne_lock (manualAward t points) s.told
  obtain ⟨-, -, -, -, -, -, hchanged, -⟩ := award_changesItsTeam s.told (manualAward t points)
  refine ⟨by rw [hteam], ?_, fun n hn => ?_, by rw [hu.scores, hlock]; rfl, by rw [hu.scores, hpending]; rfl,
    by rw [hu.scores, hend]; rfl, ?_, hu.signals ?_⟩
  · rw [hteam, show (applyOne (manualAward t points) s.told).team t = _ from applyOne_team_same _ _,
      afterAward_manual]
    rfl
  · have hother : (manualAward t points).team ≠ n := Ne.symm hn
    rw [hteam, team_applyOne, if_neg hother]
    rfl
  · rw [hu.scores]
    exact hchanged
  · rw [applyOne_eq]
    rfl

/-! ### SCORE_LOCK -/

theorem lockHeld_iff (s : State) : s.lockHeld = true ↔ s.scores.lock ≠ .free := by
  unfold State.lockHeld
  split
  next h => simp [h]
  next h => simp [h]

theorem scoreLock_takes {b : Byte} {s : State} (hlow : 1 ≤ b.toNat) (hhigh : b.toNat ≤ 60)
    (hfree : s.scores.lock = .free) : scoreLock b s
      = (autoRequest { s with scores := { s.scores with
          lock := .held (s.clock + BitVec.ofNat 32 (b.toNat * 4000)) s.snapshot } },
        ok [.clock (s.clock + BitVec.ofNat 32 (b.toNat * 4000))]) := by
  have hnot : ¬s.lockHeld = true := by rw [lockHeld_iff]; exact fun h => h hfree
  simp only [scoreLock, within_eq_some_iff.mpr ⟨rfl, hlow, hhigh⟩, if_neg hnot]
  rfl

theorem scoreLock_held {b : Byte} {s : State} (hlow : 1 ≤ b.toNat) (hhigh : b.toNat ≤ 60)
    (hheld : s.scores.lock ≠ .free) : scoreLock b s = (s, refuse .lockHeld) := by
  simp only [scoreLock, within_eq_some_iff.mpr ⟨rfl, hlow, hhigh⟩, if_pos ((lockHeld_iff s).mpr hheld)]

theorem within_eq_none {low high : Nat} {b : Byte} (h : b.toNat < low ∨ high < b.toNat) : within low high b = none := by
  rw [Option.eq_none_iff_forall_ne_some]
  intro n hn
  obtain ⟨rfl, hlow, hhigh⟩ := within_eq_some_iff.mp hn
  omega

theorem scoreLock_badValue {b : Byte} (h : b.toNat = 0 ∨ 60 < b.toNat) (s : State) :
    scoreLock b s = (s, refuse .badValue) := by
  have hnone : within 1 60 b = none := within_eq_none (h.imp_left fun h => by omega)
  simp only [scoreLock, hnone]

/-- Settles O46: SCORE_LOCK takes the snapshot of the scores for its time, or is refused. -/
theorem scoreLockTakesTheSnapshot : Obligations.ScoreLockTakesTheSnapshot := by
  intro s b hs
  refine ⟨fun hlow hhigh hfree => ⟨_, rfl, ?_⟩, fun hlow hhigh hheld => ?_, fun h => ?_⟩
  · refine completes_publishing rfl rfl hs (scoreLock_takes (s := s.told) hlow hhigh hfree)
      (by rw [autoRequest_eq]; rfl) (fun k hk => ?_) (by decide) (by decide) (by decide)
      fun t ht => ⟨⟨s.snapshot, ?_, fun n => look_tabulate _ n⟩, ht.signals ?_⟩
    · rw [autoRequest_eq]
      cases k <;> simp [Block.same] at hk ⊢
    · rw [ht.scores, autoRequest_eq]
      rfl
    · rw [autoRequest_eq, withPending_nil]
      rfl
  · exact completes_left rfl rfl hs (scoreLock_held (s := s.told) hlow hhigh hheld)
  · exact completes_left rfl rfl hs (scoreLock_badValue h s.told)

/-! ### The ends of the lock -/

theorem endLock_triggered {s v : State} {time : ClockValue} {snapshot : Vector Int 16} (hv : SameBehindLink s v)
    (h : s.scores.lock = .held time snapshot) : (endLock v).board = s.board.triggered := by
  obtain ⟨l, m, rfl⟩ := hv
  rw [endLock_held (s := { s with link := l, silence := m }) h, autoRequest_eq]
  have hboard := (applyAwards_signals s.scores.pendingAwards { s with link := l, silence := m }).2
  simp only [freeLock, hboard]
  split <;> simp

theorem endLock_unchangedBut (s : State) :
    unchangedBut [.teams, .scores, .board, .notices] s (endLock s) := by
  intro b hb
  cases b <;> simp [Block.same] at hb ⊢

theorem noteLockEnd_unchangedBut (e : LockEnd) (s : State) :
    unchangedBut [.teams, .scores, .board, .notices] s (noteLockEnd e (endLock s)) := by
  intro b hb
  cases b <;> simp [Block.same] at hb ⊢

/-- What the end of the lock leaves: the waiting awards applied in their order, and the lock free (R152). -/
theorem endLock_applies {s : State} {time : ClockValue} {snapshot : Vector Int 16}
    (h : s.scores.lock = .held time snapshot) :
    (endLock s).roster = (applyAwards s.scores.pendingAwards s).roster
      ∧ (endLock s).scores = { (applyAwards s.scores.pendingAwards s).scores with lock := .free, pendingAwards := [] }
      ∧ (endLock s).notices = (applyAwards s.scores.pendingAwards s).notices := by
  rw [endLock_held h, autoRequest_eq]
  exact ⟨rfl, rfl, rfl⟩

theorem scoreUnlock_held {s : State} {time : ClockValue} {snapshot : Vector Int 16}
    (h : s.scores.lock = .held time snapshot) (a : NoArgs) : scoreUnlock a s
      = (endLock s, ok (.u8 s.scores.pendingAwards.length :: marksItems (endLock s).scores.changed)) := by
  rw [scoreUnlock, if_pos ((lockHeld_iff s).mpr (by simp [h]))]

theorem scoreUnlock_free {s : State} (h : s.scores.lock = .free) (a : NoArgs) :
    scoreUnlock a s = (s, refuse .notHeld) := by
  rw [scoreUnlock, if_neg (by rw [lockHeld_iff]; exact fun hne => hne h)]

theorem scoreUnlock_completes {s : State} {time : ClockValue} {snapshot : Vector Int 16} (hs : s.ready)
    (h : s.scores.lock = .held time snapshot) :
    ∃ a, completes (.scoreUnlock (.fits .none)) s 0x1D#8 a [.teams, .scores, .board, .notices] fun t =>
      a = ok (.u8 s.scores.pendingAwards.length :: marksItems t.scores.changed)
        ∧ t.roster = (applyAwards s.scores.pendingAwards s).roster
        ∧ t.scores = { (applyAwards s.scores.pendingAwards s).scores with lock := .free, pendingAwards := [] }
        ∧ endsWith (applyAwards s.scores.pendingAwards s).notices s t := by
  refine ⟨_, completes_publishing rfl rfl hs (scoreUnlock_held (s := s.told) h .none) (endLock_triggered (.told s) h)
    (endLock_unchangedBut s.told) (by decide) (by decide) (by decide) fun t ht => ?_⟩
  obtain ⟨hroster, hscores, hnotices⟩ := endLock_applies h
  have htold : endLock s.told = { endLock s with link := s.told.link, silence := s.told.silence } :=
    endLock_told s s.told.link s.told.silence
  have hends := ht.ends
  refine ⟨by rw [ht.scores]; rfl, ?_, ?_, ?_⟩
  · rw [ht.roster, htold]
    exact hroster
  · rw [ht.scores, htold]
    exact hscores
  · rw [htold] at hends
    exact hnotices ▸ hends

theorem lapse_happens {s : State} {time : ClockValue} {snapshot : Vector Int 16} (hquiet : s.noRequest)
    (h : s.scores.lock = .held time snapshot) (hover : clockDiff s.clock time ≤ 0) :
    happens .lapse s [.teams, .scores, .board, .notices] fun t =>
      t.roster = (applyAwards s.scores.pendingAwards s).roster
        ∧ t.scores = { (applyAwards s.scores.pendingAwards s).scores with
            lock := .free, pendingAwards := [], lastEnd := some .lapsed }
        ∧ endsWith ((applyAwards s.scores.pendingAwards s).notices.withPending [.lock]) s t := by
  have hlapses : lapse s = noteLockEnd .lapsed (endLock s) := by
    simp only [lapse, h, (reached_iff _ _).mpr hover, if_true]
  obtain ⟨hroster, hscores, hnotices⟩ := endLock_applies h
  refine happens_publishing (u := noteLockEnd .lapsed (endLock s)) hlapses hquiet ?_ (noteLockEnd_unchangedBut .lapsed s)
    (by decide) fun t ht => ⟨?_, ?_, ?_⟩
  · rw [noteLockEnd, setPending_eq]
    exact endLock_triggered (.refl s) h
  · rw [ht.roster, noteLockEnd, setPending_eq]
    exact hroster
  · rw [ht.scores, noteLockEnd, setPending_eq]
    simp only [hscores]
  · have hends := ht.ends
    rw [noteLockEnd, setPending_eq] at hends
    exact hnotices ▸ hends

theorem lapse_early {s : State} {time : ClockValue} {snapshot : Vector Int 16} (hquiet : s.noRequest)
    (h : s.scores.lock = .free ∨ (s.scores.lock = .held time snapshot ∧ 0 < clockDiff s.clock time)) :
    exec .lapse s = .next s := by
  have hstays : lapse s = s := by
    rcases h with h | ⟨h, hleft⟩
    · simp only [lapse, h]
    · have hnot : ¬reached s.clock time = true := by
        rw [reached_iff]
        exact Int.not_le.mpr hleft
      simp only [lapse, h, if_neg hnot]
  exact exec_quiet hstays hquiet

/-- Settles O47: SCORE_UNLOCK and the lapse end the lock with the waiting awards applied. -/
theorem unlockAndLapseEndTheLock : Obligations.UnlockAndLapseEndTheLock := fun s _ _ =>
  ⟨fun hs h => scoreUnlock_completes hs h,
    fun hs h => completes_left rfl rfl hs (scoreUnlock_free (s := s.told) h .none),
    fun hquiet h hover => lapse_happens hquiet h hover, fun hquiet h => lapse_early hquiet h⟩

end Sys2Proof.Proofs

/-! PROOFS. ROUND_SUSPEND pushes the context and ROUND_RESUME brings it back (R62 to R65, O48). -/

namespace Sys2Proof.Proofs
open Sys2Proof Sys2Proof.Machine

/-! ### ROUND_SUSPEND -/

theorem pausedAt_eq (now : ClockValue) (c : Context) : c.pauseWindow now = pausedAt now c := pauseWindow_eq now c

theorem roundSuspend_pushes {s : State} {c : Context} (hc : s.engine.active = some c)
    (hphase : c.phase = .armed ∨ c.phase = .opened) (hroom : s.stack.length < 2) (a : NoArgs) : roundSuspend a s
      = (signalRoundChange ((pushContext .suspend c s).setActive none),
        ok ([.slot c.source, .name c.phase.code] ++ optItems ticksItem (pausedAt s.clock c).roundRemaining
          ++ [.u8 (s.stack.length + 1)])) := by
  have hfree : ¬Config.maxSuspended ≤ s.stack.length := Nat.not_le.mpr hroom
  have hlength : (signalRoundChange ((pushContext .suspend c s).setActive none)).stack.length = s.stack.length + 1 := by
    simp [pushContext, State.setActive]
  rcases hphase with h | h <;>
    simp only [roundSuspend, hc, h, if_neg hfree, suspendContext, pausedAt_eq, hlength]

theorem roundSuspend_full {s : State} {c : Context} (hc : s.engine.active = some c)
    (hphase : c.phase = .armed ∨ c.phase = .opened) (hfull : 2 ≤ s.stack.length) (a : NoArgs) :
    roundSuspend a s = (s, refuse .stackFull) := by
  have hmax : Config.maxSuspended ≤ s.stack.length := hfull
  rcases hphase with h | h <;> simp only [roundSuspend, hc, h, if_pos hmax]

theorem roundSuspend_floor {s : State} {c : Context} (hc : s.engine.active = some c) (hphase : c.phase = .floor)
    (a : NoArgs) : roundSuspend a s = (s, refuse .floorHeld) := by
  simp only [roundSuspend, hc, hphase]

theorem roundSuspend_refused {s : State}
    (h : ∀ c, s.engine.active = some c → c.phase ≠ .armed ∧ c.phase ≠ .opened ∧ c.phase ≠ .floor) (a : NoArgs) :
    roundSuspend a s = (s, refuse .wrongState) := by
  unfold roundSuspend
  split
  next => rfl
  next c hc =>
    obtain ⟨harmed, hopened, hfloor⟩ := h c hc
    split
    next hphase => exact absurd hphase hfloor
    next hphase => exact absurd hphase harmed
    next hphase => exact absurd hphase hopened
    all_goals rfl

/-! ### ROUND_RESUME -/

theorem resumed_eq (now : ClockValue) (speed : LineSpeed) {c : Context} (hheld : c.held = false) :
    c.resumed now speed = backFromStack now speed c := by
  unfold Context.resumed
  rw [opened_eq now hheld]
  cases hphase : c.phase <;> cases speed <;> simp [backFromStack, hphase]

theorem backFromStack_keeps (now : ClockValue) (speed : LineSpeed) (c : Context) :
    (backFromStack now speed c).source = c.source ∧ (backFromStack now speed c).cue = c.cue
      ∧ (backFromStack now speed c).roundRemaining = c.roundRemaining := by
  unfold backFromStack
  split <;> exact ⟨rfl, rfl, rfl⟩

theorem roundResume_pops {s : State} {x : SavedContext} {rest : List SavedContext} (hrest : s.atRest = true)
    (hstack : s.stack = x :: rest) (hheld : x.context.held = false) (a : NoArgs) : roundResume a s
      = (signalRoundChange ({ s with stack := rest }.setActive (some (backFromStack s.clock s.desk.speed x.context))),
        ok ([.slot x.context.source, .i16 x.context.cue.question,
            .name (backFromStack s.clock s.desk.speed x.context).phase.code]
          ++ optItems ticksItem x.context.roundRemaining ++ [.u8 rest.length])) := by
  obtain ⟨hsource, hcue, hremaining⟩ := backFromStack_keeps s.clock s.desk.speed x.context
  simp only [roundResume, hrest, if_true, hstack, resumeContext, resumed_eq _ _ hheld, hsource, hcue, hremaining]

theorem roundResume_empty {s : State} (hrest : s.atRest = true) (hstack : s.stack = []) (a : NoArgs) :
    roundResume a s = (s, refuse .stackEmpty) := by
  simp only [roundResume, hrest, if_true, hstack]

theorem roundResume_wrongState {s : State} (hrest : s.atRest = false) (a : NoArgs) :
    roundResume a s = (s, refuse .wrongState) := by
  simp only [roundResume, hrest, Bool.false_eq_true, if_false]

/-! ### The stack and the active context written together -/

theorem stackedRound_unchangedBut (s : State) (stack : List SavedContext) (active : Option Context) :
    unchangedBut [.board, .notices, .desk, .engine, .stack] s
      (signalRoundChange ({ s with stack := stack }.setActive active)) := by
  intro b hb
  cases b <;> simp [Block.same] at hb ⊢

theorem completes_stackedRound {i : Instr} {c : Command} {kind : Byte} {s : State} {a : Answer}
    {stack : List SavedContext} {active : Option Context} (hi : i.frameCommand = some c) (hk : c.code = kind)
    (hs : s.ready)
    (hrun : runCommand c s.told = (signalRoundChange ({ s.told with stack := stack }.setActive active), a)) :
    completes i s kind a [.board, .notices, .desk, .engine, .stack] fun t =>
      t.stack = stack ∧ roundChangesTo active [] s t ∧ t.engine.tiePointer = s.engine.tiePointer := by
  refine completes_publishing hi hk hs hrun signalRoundChange_board (stackedRound_unchangedBut s.told stack active)
    (by decide) (by decide) (by decide) fun t ht => ⟨ht.stack.trans (by rw [signalRoundChange_eq]; rfl),
      roundChangesTo_of_publishTaken ht rfl rfl rfl, ?_⟩
  rw [ht.engine, signalRoundChange_eq]
  rfl

/-- Settles O48: ROUND_SUSPEND pushes the active context paused, and ROUND_RESUME brings the top back. -/
theorem suspendPushesAndResumePops : Obligations.SuspendPushesAndResumePops := by
  intro s hs
  refine ⟨fun c hc hphase hroom => ?_, fun c hc hphase hfull => ?_, fun c hc hphase => ?_, fun h => ?_,
    fun x rest hrest hstack hheld _ => ?_, fun hrest hstack => ?_, fun hrest => ?_⟩
  · have hrun := roundSuspend_pushes (s := s.told) hc hphase hroom .none
    rw [pushContext, pausedAt_eq] at hrun
    exact completes_stackedRound rfl rfl hs hrun
  · exact completes_left rfl rfl hs (roundSuspend_full (s := s.told) hc hphase hfull .none)
  · exact completes_left rfl rfl hs (roundSuspend_floor (s := s.told) hc hphase .none)
  · exact completes_left rfl rfl hs (roundSuspend_refused (s := s.told) h .none)
  · exact completes_stackedRound rfl rfl hs (roundResume_pops (s := s.told) hrest hstack hheld .none)
  · exact completes_left rfl rfl hs (roundResume_empty (s := s.told) hrest hstack .none)
  · exact completes_left rfl rfl hs (roundResume_wrongState (s := s.told) hrest .none)

end Sys2Proof.Proofs

/-! PROOFS. SILENCE_ARM and the silence deadline, which begins a hold (R157, R158, O49), and the frame that ends it
(R160, O50). -/

namespace Sys2Proof.Proofs
open Sys2Proof Sys2Proof.Machine

/-! ### SILENCE_ARM -/

theorem silenceArm_disarmed {b : Byte} {s : State} (hlow : 2 ≤ b.toNat) (hhigh : b.toNat ≤ 60)
    (h : s.silence = .disarmed) :
    silenceArm b s = ({ s with silence := watchFrom s.clock b.toNat }, ok [.u8 b.toNat]) := by
  simp only [silenceArm, within_eq_some_iff.mpr ⟨rfl, hlow, hhigh⟩, h]

theorem silenceArm_armed {b : Byte} {s : State} (hlow : 2 ≤ b.toNat) (hhigh : b.toNat ≤ 60)
    (h : s.silence ≠ .disarmed) : silenceArm b s = (s, refuse .alreadyArmed) := by
  cases hsilence : s.silence with
  | disarmed => exact absurd hsilence h
  | _ => simp only [silenceArm, within_eq_some_iff.mpr ⟨rfl, hlow, hhigh⟩, hsilence]

theorem silenceArm_badValue {b : Byte} (h : b.toNat < 2 ∨ 60 < b.toNat) (s : State) :
    silenceArm b s = (s, refuse .badValue) := by
  simp only [silenceArm, within_eq_none h]

theorem silenceArm_arms {b : Byte} {s : State} (hs : s.ready) (hlow : 2 ≤ b.toNat) (hhigh : b.toNat ≤ 60)
    (h : s.silence = .disarmed) : ∃ t, exec (.silenceArm (.fits b)) s = .next t
      ∧ t.link = s.link.joined (.reply { kind := 0x21#8, answer := ok [.u8 b.toNat] })
      ∧ t.silence = .watching b.toNat s.clock (s.clock + BitVec.ofNat 32 (b.toNat * 4000))
      ∧ unchangedBut [.link, .silence] s t := by
  obtain ⟨-, -, -, -, hquiet⟩ := id hs
  have hdisarmed : s.told.silence = .disarmed := by simp [State.told, h, SilenceMonitor.heard]
  have hrun : runCommand (.silenceArm (.fits b)) s.told = _ := silenceArm_disarmed hlow hhigh hdisarmed
  have hstep := (exec_command (i := .silenceArm (.fits b)) rfl s).trans (frameArrives_ready _ hs)
  rw [hrun, takeRequest_quiet (show (enqueue _ { s.told with silence := _ }).board.request = false from hquiet)] at hstep
  refine ⟨_, hstep, enqueue_link _ _ _ rfl, rfl, fun k hk => ?_⟩
  cases k with
  | link => exact absurd (by simp) hk
  | silence => exact absurd (by simp) hk
  | _ => rfl

/-! ### The deadline -/

theorem hold_eq (now : ClockValue) : Context.hold now = heldFrom now := by
  funext c
  unfold Context.hold
  rw [pausedAt_eq]
  rfl

theorem silenceReached_holds {s : State} {period : Nat} {last deadline : ClockValue}
    (h : s.silence = .watching period last deadline) (hover : clockDiff s.clock deadline ≤ 0) :
    silenceReached s = { s with
      silence := .holding period last
      engine := { s.engine with active := s.engine.active.map (heldFrom s.clock) }
      notices := s.notices.withPending [.hold]
      board := s.board.triggered } := by
  simp only [silenceReached, h, (reached_iff _ _).mpr hover, if_true]
  rw [autoRequest_eq, setPending_eq, holdActive, hold_eq]
  rfl

theorem silenceReached_early {s : State} (h : ∀ period last deadline, s.silence = .watching period last deadline →
    0 < clockDiff s.clock deadline) : silenceReached s = s := by
  unfold silenceReached
  split
  next period last deadline hw =>
    have hnot : ¬reached s.clock deadline = true := by
      rw [reached_iff]
      exact Int.not_le.mpr (h period last deadline hw)
    rw [if_neg hnot]
  next => rfl
  next => rfl

theorem silenceDeadline_happens {s : State} {period : Nat} {last deadline : ClockValue} (hquiet : s.noRequest)
    (h : s.silence = .watching period last deadline) (hover : clockDiff s.clock deadline ≤ 0) :
    happens .silenceDeadline s [.silence, .board, .notices, .engine] fun t =>
      t.silence = .holding period last ∧ Machine.signals [.hold] s t
        ∧ t.engine = { s.engine with active := s.engine.active.map (heldFrom s.clock) } := by
  refine happens_publishing (show effectOf .silenceDeadline s = _ from silenceReached_holds h hover) hquiet rfl
    (fun k hk => ?_) (by decide) fun t ht => ⟨ht.silence, ht.signals rfl, ht.engine⟩
  cases k <;> simp [Block.same] at hk ⊢

/-- Settles O49: SILENCE_ARM starts the watch, and its deadline begins a hold. -/
theorem silenceIsArmedAndBeginsAHold : Obligations.SilenceIsArmedAndBeginsAHold := by
  intro s
  refine ⟨fun b hs hlow hhigh h => silenceArm_arms hs hlow hhigh h, fun b hs hlow hhigh h => ?_, fun b hs h => ?_,
    fun period last deadline hquiet h hover => silenceDeadline_happens hquiet h hover, fun hquiet h => ?_⟩
  · have harmed : s.told.silence ≠ .disarmed := by
      cases hsilence : s.silence <;> simp_all [State.told, SilenceMonitor.heard, watchFrom]
    exact completes_left rfl rfl hs (silenceArm_armed hlow hhigh harmed)
  · exact completes_left rfl rfl hs (silenceArm_badValue h s.told)
  · exact exec_quiet (i := .silenceDeadline) (silenceReached_early h) hquiet

/-! ### The frame that ends a hold -/

theorem unhold_eq (now : ClockValue) (c : Context) : c.unhold now = unheldAs now c := by
  obtain ⟨⟩ := c
  unfold Context.unhold unheldAs
  dsimp only
  split
  next => rw [startWindow_eq]; rfl
  next => rw [startWindow_eq]; rfl
  next =>
    unfold Context.resumeAnswer
    dsimp only
    split <;> rfl
  all_goals rfl

theorem settleTest_hunt (s : State) : settleTest (hunt s) = hunt (settleTest s) := by
  cases hc : s.engine.active with
  | none => simp only [settleTest, hunt, hc]
  | some c =>
    by_cases hgrants : ∃ head rest, c.phase = .settling ∧ c.queue = head :: rest ∧ (s.settled head && !c.held) = true
    · obtain ⟨head, rest, hphase, hqueue, hready⟩ := hgrants
      obtain ⟨hsettled, hheld⟩ := Bool.and_eq_true_iff.mp hready
      have hfree : c.held = false := by simpa using hheld
      rw [settleTest_grants hc hphase hqueue hfree hsettled,
        settleTest_grants (s := hunt s) hc hphase hqueue hfree hsettled, signalRoundChange_eq, signalRoundChange_eq]
      rfl
    · have hstays : ∀ t : State, t.engine.active = some c → (∀ q, t.settled q = s.settled q) → settleTest t = t := by
        intro t ht hsame
        simp only [settleTest, ht]
        split
        next head rest hphase hqueue =>
          rw [hsame, if_neg fun hready => hgrants ⟨head, rest, hphase, hqueue, hready⟩]
        next => rfl
      rw [hstays s hc fun _ => rfl, hstays (hunt s) hc fun _ => rfl]

theorem unholdActive_hunt (s : State) : unholdActive (hunt s) = hunt (unholdActive s) := by
  cases hc : s.engine.active with
  | none => simp only [unholdActive, hunt, hc]
  | some c =>
    by_cases hheld : c.held = true
    · simp only [unholdActive, hc, hheld, if_true, show (hunt s).engine.active = some c from hc]
      exact settleTest_hunt (s.setActive (some (c.unhold s.clock)))
    · simp only [unholdActive, hc, if_neg hheld, show (hunt s).engine.active = some c from hc]

theorem endHold_hunt (period : Nat) (s : State) : endHold period (hunt s) = hunt (endHold period s) := by
  simp only [endHold, setPending_eq, autoRequest_eq]
  rw [show ({ hunt s with silence := watchFrom (hunt s).clock period } : State)
    = hunt { s with silence := watchFrom s.clock period } from rfl, unholdActive_hunt]
  rfl

theorem validFrame_watched {s : State} {period : Nat} (h : s.silence = watchFrom s.clock period) :
    validFrame s = s := by
  obtain ⟨⟩ := s
  simp_all [validFrame, watchFrom]

/-- A frame that ends a hold acts as it does on the state that the end of the hold leaves. -/
theorem exec_of_endHold {i : Instr} {c : Command} {s : State} {period : Nat} {last : ClockValue}
    (hi : i.frameCommand = some c) (h : s.silence = .holding period last) (hrestart : s.link.restarting = false)
    (hheld : s.link.held = none) (hroom : s.link.queue.length < 4) : exec i s = exec i (endHold period s) := by
  have hlink : (endHold period s).link = s.link := by simp
  have hwatch : (endHold period s).silence = watchFrom s.clock period := by simp [endHold]
  have hclock : (endHold period s).clock = s.clock := by simp
  have hfirst : validFrame (hunt s) = hunt (endHold period s) := by
    rw [← endHold_hunt]
    simp only [validFrame, hunt, h]
  have hsecond : validFrame (hunt (endHold period s)) = hunt (endHold period s) :=
    validFrame_watched (period := period) (hwatch.trans (by rw [show (hunt (endHold period s)).clock = s.clock from hclock]))
  rw [exec_command hi, exec_command hi, frameArrives, frameArrives, frameCompletes, frameCompletes,
    itemArrives_room _ (s := hunt s) hrestart hheld hroom,
    itemArrives_room _ (s := hunt (endHold period s)) (by simpa [hunt, hlink] using hrestart)
      (by simpa [hunt, hlink] using hheld) (by simpa [hunt, hlink] using hroom)]
  simp only [takeItem, executeFrame, executeCommand, hfirst, hsecond]

theorem unholdActive_board (s : State) : (unholdActive s).board = s.board ∨ (unholdActive s).board = s.board.triggered := by
  unfold unholdActive
  split
  next c hc =>
    split
    · unfold settleTest
      split
      next => exact .inl rfl
      next =>
        split
        next =>
          split
          next => exact .inr (signalRoundChange_triggered (.inl rfl))
          next => exact .inl rfl
        next => exact .inl rfl
    · exact .inl rfl
  next => exact .inl rfl

theorem endHold_board (period : Nat) (s : State) : (endHold period s).board = s.board.triggered := by
  rw [endHold, autoRequest_eq, setPending_eq]
  rcases unholdActive_board { s with silence := watchFrom s.clock period } with h | h <;> simp [h]

theorem endHold_eq {period : Nat} {s u : State} (h : unholdActive { s with silence := watchFrom s.clock period } = u) :
    (endHold period s).engine = u.engine ∧ (endHold period s).desk = u.desk
      ∧ (endHold period s).notices = u.notices.withPending [.hold] := by
  rw [endHold, h, autoRequest_eq, setPending_eq]
  exact ⟨rfl, rfl, rfl⟩

theorem unheldAs_keeps (now : ClockValue) (c : Context) : (unheldAs now c).phase = c.phase
    ∧ (unheldAs now c).queue = c.queue ∧ (unheldAs now c).held = false := by
  unfold unheldAs
  split
  next h => exact ⟨h.symm, rfl, rfl⟩
  next h => exact ⟨h.symm, rfl, rfl⟩
  next => split <;> exact ⟨rfl, rfl, rfl⟩
  all_goals exact ⟨rfl, rfl, rfl⟩

theorem unholdActive_held {s : State} {c : Context} (hc : s.engine.active = some c) (hheld : c.held = true) :
    unholdActive s = settleTest (s.setActive (some (unheldAs s.clock c))) := by
  simp only [unholdActive, hc, hheld, if_true, unhold_eq]

/-- The context goes on without the hold when no settled claim waits for the floor. -/
theorem unholdActive_waits {s : State} {c : Context} (hc : s.engine.active = some c) (hheld : c.held = true)
    (hwaits : c.phase = .settling → ∀ head rest, c.queue = head :: rest → ¬hasSettled s head) :
    unholdActive s = s.setActive (some (unheldAs s.clock c)) := by
  obtain ⟨hphase, hqueue, -⟩ := unheldAs_keeps s.clock c
  rw [unholdActive_held hc hheld]
  have hactive : (s.setActive (some (unheldAs s.clock c))).engine.active = some (unheldAs s.clock c) := rfl
  cases hp : c.phase with
  | settling =>
    cases hq : c.queue with
    | nil => simp only [settleTest, hactive, hphase, hp, hqueue, hq]
    | cons head rest =>
      have hnot : (s.setActive (some (unheldAs s.clock c))).settled head = false :=
        Bool.eq_false_iff.mpr fun h => hwaits hp head rest hq ((settled_iff ⟨rfl, rfl, rfl, rfl, fun _ => rfl⟩ head).mp h)
      exact settleTest_waits hactive (hphase.trans hp) (hqueue.trans hq) hnot
  | _ => simp only [settleTest, hactive, hphase, hp]

theorem unholdActive_grants {s : State} {c : Context} {head : Claim} {rest : List Claim}
    (hc : s.engine.active = some c) (hheld : c.held = true) (hp : c.phase = .settling)
    (hq : c.queue = head :: rest) (hsettled : hasSettled s head) : unholdActive s
      = signalRoundChange (grantFloor head rest (unheldAs s.clock c) (s.setActive (some (unheldAs s.clock c)))) := by
  obtain ⟨hphase, hqueue, hfree⟩ := unheldAs_keeps s.clock c
  rw [unholdActive_held hc hheld]
  exact settleTest_grants rfl (hphase.trans hp) (hqueue.trans hq) hfree
    ((settled_iff ⟨rfl, rfl, rfl, rfl, fun _ => rfl⟩ head).mpr hsettled)

/-- The head that has settled takes the floor as the hold ends. -/
theorem endHold_grants {s : State} {period : Nat} {d : Context} {head : Claim} {rest : List Claim}
    (hc : s.engine.active = some d) (hheld : d.held = true) (hphase : d.phase = .settling)
    (hqueue : d.queue = head :: rest) (hsettled : hasSettled s head) :
    (∃ e, grantedAs s.clock head rest (unheldAs s.clock d) e ∧ (endHold period s).engine.active = some e)
      ∧ (endHold period s).engine.tiePointer = tieAfterGrant s.engine.tiePointer head rest
      ∧ (endHold period s).desk = s.desk.judged true
      ∧ (endHold period s).notices = s.notices.withPending [.floor, .round, .hold] := by
  let watched : State := { s with silence := watchFrom s.clock period }
  let v := watched.setActive (some (unheldAs s.clock d))
  have hround : SameRound s v := ⟨rfl, rfl, rfl, rfl, fun _ => rfl⟩
  have hgrants : unholdActive watched = signalRoundChange (grantFloor head rest (unheldAs s.clock d) v) :=
    unholdActive_grants (s := watched) hc hheld hphase hqueue hsettled
  obtain ⟨hengine, hdesk, hnotices⟩ := endHold_eq hgrants
  rw [signalRoundChange_eq, grantFloor_eq hround] at hengine hdesk hnotices
  have hneed : needFor s.desk.setting (some (Context.granted s.clock head rest (unheldAs s.clock d))) = true := by
    simp [needFor, Phase.needsSprint]
  refine ⟨⟨_, grantedAs_granted s.clock head rest _, by rw [hengine]⟩, by rw [hengine], hdesk.trans ?_, hnotices.trans ?_⟩
  · exact congrArg s.desk.judged hneed
  · simp only [withPending_append]
    rfl

/-- Settles O50: a frame that arrives during a hold ends it first: the active context goes on, and a settled head
takes the floor. -/
theorem aFrameEndsTheHold : Obligations.AFrameEndsTheHold := by
  intro i c s period last hi h hrestart hlinkHeld hroom
  refine ⟨endHold period s, exec_of_endHold hi h hrestart hlinkHeld hroom, by simp [endHold]; rfl, endHold_board period s,
    by simp, by simp, by simp, by simp, by simp, by simp, by simp, by simp, by simp, by simp, fun hnone => ?_,
    fun d hc hheld hwaits => ?_, fun d head rest hc hheld hphase hqueue hsettled => ?_⟩
  · exact endHold_eq (u := { s with silence := watchFrom s.clock period }) (by simp only [unholdActive, hnone])
  · exact endHold_eq (unholdActive_waits (s := { s with silence := watchFrom s.clock period }) hc hheld hwaits)
  · exact endHold_grants hc hheld hphase hqueue hsettled

end Sys2Proof.Proofs

/-! PROOFS. The round deadline and the flash instant (R68, R114, O55). -/

namespace Sys2Proof.Proofs
open Sys2Proof Sys2Proof.Machine

theorem roundExpiry_reached {s : State} {c : Context} {d : ClockValue} (hc : s.engine.active = some c)
    (hd : c.roundDeadline = some d) (hover : clockDiff s.clock d ≤ 0) : roundExpiry s = expireRound d c s := by
  simp only [roundExpiry, hc, hd, (reached_iff _ _).mpr hover, if_true]

theorem roundExpiry_early {s : State} {c : Context} (hc : s.engine.active = some c)
    (h : ∀ d, c.roundDeadline = some d → 0 < clockDiff s.clock d) : roundExpiry s = s := by
  simp only [roundExpiry, hc]
  split
  next => rfl
  next d hd =>
    have hnot : ¬reached s.clock d = true := by
      rw [reached_iff]
      exact Int.not_le.mpr (h d hd)
    rw [if_neg hnot]

theorem flashReached_reached {s : State} {c : Context} {d : ClockValue} (hc : s.engine.active = some c)
    (hd : c.flashInstant = some d) (hover : clockDiff s.clock d ≤ 0) :
    flashReached s = s.setActive (some { c with flashing := true, flashInstant := none }) := by
  simp only [flashReached, hc, hd, (reached_iff _ _).mpr hover, if_true]

theorem flashReached_early {s : State} {c : Context} (hc : s.engine.active = some c)
    (h : ∀ d, c.flashInstant = some d → 0 < clockDiff s.clock d) : flashReached s = s := by
  simp only [flashReached, hc]
  split
  next => rfl
  next d hd =>
    have hnot : ¬reached s.clock d = true := by
      rw [reached_iff]
      exact Int.not_le.mpr (h d hd)
    rw [if_neg hnot]

theorem happens_roundChange {i : Instr} {s : State} {active : Option Context}
    (hi : effectOf i s = signalRoundChange (s.setActive active)) (hquiet : s.noRequest) :
    happens i s [.board, .notices, .desk, .engine] fun t =>
      roundChangesTo active [] s t ∧ t.engine.tiePointer = s.engine.tiePointer := by
  refine happens_publishing hi hquiet signalRoundChange_board (signalActive_unchangedBut active s) (by decide)
    fun t ht => ⟨roundChangesTo_of_publishTaken ht rfl rfl rfl, ?_⟩
  rw [ht.engine, signalRoundChange_eq]
  rfl

theorem SameRound.refl (s : State) : SameRound s s := ⟨rfl, rfl, rfl, rfl, fun _ => rfl⟩

theorem windows_runOut : windowsRunOut := by
  intro s c hquiet hc
  refine ⟨fun d hd hover => ⟨fun hphase hkind => ?_, fun hphase hkind => ?_, fun hphase => ?_⟩, fun h => ?_,
    fun d hd hover => ?_, fun h => ?_⟩
  · have hexpires : roundExpiry s = closeRound ⟨.timeUp, .expired⟩ (windowAtZero c) s := by
      rw [roundExpiry_reached hc hd hover]
      simp only [expireRound, hphase, hkind, Bool.false_eq_true, if_false]
      rfl
    exact happens_publishing (show effectOf .roundDeadlineExpiry s = _ from hexpires) hquiet (closeRound_board _ _ s)
      (closeRound_unchangedBut _ _ s) (by decide) fun t ht => closedRound_of_publishTaken ht (.refl s) rfl
  · have hexpires : roundExpiry s = signalRoundChange (s.setActive (some (closingAs s .expired d c))) := by
      rw [roundExpiry_reached hc hd hover]
      simp only [expireRound, hphase, hkind, if_true]
      rfl
    exact happens_roundChange (i := .roundDeadlineExpiry) hexpires hquiet
  · have hexpires : roundExpiry s = s.setActive (some (windowAtZero c)) := by
      rw [roundExpiry_reached hc hd hover]
      simp only [expireRound, hphase]
      rfl
    exact exec_quiet (i := .roundDeadlineExpiry) hexpires hquiet
  · exact exec_quiet (i := .roundDeadlineExpiry) (roundExpiry_early hc h) hquiet
  · exact exec_quiet (i := .flashInstant) (flashReached_reached hc hd hover) hquiet
  · exact exec_quiet (i := .flashInstant) (flashReached_early hc h) hquiet

theorem idle_hasNoWindows : idleHasNoWindows := by
  intro s hquiet hnone
  refine ⟨exec_quiet (i := .roundDeadlineExpiry) ?_ hquiet, exec_quiet (i := .flashInstant) ?_ hquiet⟩
  · exact show roundExpiry s = s by simp only [roundExpiry, hnone]
  · exact show flashReached s = s by simp only [flashReached, hnone]

/-- Settles O55: the round deadline closes the round or the voting, and the flash instant starts the flash. -/
theorem roundDeadlineAndFlashAct : Obligations.RoundDeadlineAndFlashAct := ⟨windows_runOut, idle_hasNoWindows⟩

end Sys2Proof.Proofs

/-! PROOFS. BOARD_SCAN and the answers to the scan (R163, R165, O51). -/

namespace Sys2Proof.Proofs
open Sys2Proof Sys2Proof.Machine

/-! ### BOARD_SCAN -/

theorem withBoard_unchangedBut (s : State) (b : Board) : unchangedBut [.board] s { s with board := b } := by
  intro k hk
  cases k with
  | board => exact absurd (.head _) hk
  | _ => rfl

theorem boardScan_idle {s : State} (h : s.board.operation = .idle) (a : NoArgs) :
    boardScan a s = (s.setOperation (.scan 0), { result := .queued, data := [] }) := if_pos h

theorem boardScan_busy {s : State} (h : s.board.operation ≠ .idle) (a : NoArgs) :
    boardScan a s = (s, { result := .retry, data := [] }) := if_neg h

/-! ### The answers to a scan -/

theorem scannedPanel_eq (answer : Option Nat) : scannedPanel answer = panelFound answer := by
  cases answer <;> rfl

theorem panelsAfter_last {p : PanelId} (h : p.val = 3) : panelsAfter p = [] := by
  obtain rfl : p = 3 := Fin.ext h
  decide

theorem panelsAfter_next {p q : PanelId} (h : q.val = p.val + 1) : ∃ rest, panelsAfter p = q :: rest := by
  have hhead : ∀ p q : PanelId, q.val = p.val + 1 → (panelsAfter p).head? = some q := by decide
  exact List.head?_eq_some_iff.mp (hhead p q h)

theorem scanNext_next {p q : PanelId} (h : q.val = p.val + 1) (s : State) : scanNext p s = s.setOperation (.scan q) := by
  obtain ⟨rest, hrest⟩ := panelsAfter_next h
  simp only [scanNext, hrest]

theorem scanNext_last {p : PanelId} (h : p.val = 3) (s : State) :
    scanNext p s = autoRequest (completeOperation s.scanResult s) := by
  simp only [scanNext, panelsAfter_last h]

theorem completeOperation_eq (result : BoardResult) (s : State) : completeOperation result s
    = { s with
        board := { operationDone result s.board with request := s.board.again || s.board.request }
        notices := s.notices.withPending [.board] } := by
  simp only [completeOperation, setPending_eq]
  cases h : s.board.again <;> rfl

theorem triggered_eq (b : Board) : b.triggered = { b with request := b.auto || b.request } := by
  obtain ⟨panels, routes, auto, operation, again, lastResult, completed, request⟩ := b
  cases auto <;> rfl

/-- A publish that was asked for is taken, and starts when the line is idle (R166). -/
theorem takeRequest_idle {s : State} {b : Board} (hidle : b.operation = .idle) (hquiet : b.request = false) (ask : Bool) :
    takeRequest { s with board := { b with request := ask } }
      = if ask = true then startPublish { s with board := b } else { s with board := b } := by
  obtain ⟨⟩ := b
  subst hidle hquiet
  cases ask <;> rfl

theorem identifyDone_followed {p : PanelId} {answer : Option Nat} {i : Instr} {s : State} (hquiet : s.noRequest)
    (hi : effectOf i s = identifyDone p answer s) : identifyFollowed p answer i s := by
  refine ⟨fun q hq => ?_, fun hlast => ?_⟩
  · rw [identifyDone, scanNext_next hq, scannedPanel_eq] at hi
    exact exec_quiet hi hquiet
  · rw [identifyDone, scanNext_last hlast, scannedPanel_eq, completeOperation_eq, autoRequest_eq] at hi
    rw [exec_eq_next, hi]
    have hidle := takeRequest_idle (s := { s with notices := s.notices.withPending [.board] })
      (b := operationDone (s.setPanel p (panelFound answer)).scanResult
        { s.board with panels := put s.board.panels p (panelFound answer) }) rfl hquiet
        (s.board.auto || (s.board.again || s.board.request))
    have hask : (s.board.auto || (s.board.again || s.board.request)) = true
        ↔ s.board.auto = true ∨ s.board.again = true := by
      rw [show s.board.request = false from hquiet, Bool.or_false, Bool.or_eq_true]
    simp only [hask] at hidle
    refine congrArg Host.Outcome.next (Eq.trans (congrArg takeRequest ?_) hidle)
    rw [triggered_eq]
    rfl

theorem identifySilent_scan {p : PanelId} {s : State} (h : s.board.operation = .scan p) :
    identifySilent s = identifyDone p none s := by
  simp only [identifySilent, h]

theorem identifyAnswers_scan {p : PanelId} {a : IdentifyReply} {s : State} (h : s.board.operation = .scan p) :
    identifyAnswers a s = if a.checkGood = true ∧ a.panel.toNat = p.val
      then identifyDone p (some a.cells.toNat) s else s := by
  simp only [identifyAnswers, h]

theorem identify_ignored {s : State} (h : ∀ p, s.board.operation ≠ .scan p) :
    identifySilent s = s ∧ ∀ a, identifyAnswers a s = s := by
  cases hoperation : s.board.operation with
  | scan p => exact absurd hoperation (h p)
  | _ => exact ⟨by simp only [identifySilent, hoperation], fun a => by simp only [identifyAnswers, hoperation]⟩

/-- Settles O51: BOARD_SCAN starts the scan on an idle line, and each panel's answer or silence is recorded. -/
theorem scansFindThePanels : Obligations.ScansFindThePanels := by
  intro s
  refine ⟨fun hs hidle => ?_, fun hs hbusy => ?_, fun p hquiet hscan => ⟨?_, fun a => ⟨fun hgood => ?_, fun hbad => ?_⟩⟩,
    fun hquiet hno => ?_⟩
  · obtain ⟨-, -, -, -, hquiet⟩ := id hs
    exact completes_writes rfl rfl hs (boardScan_idle (s := s.told) hidle .none) (withBoard_unchangedBut s.told _)
      (by decide) (by decide) hquiet fun t ht => ht .board (by decide)
  · exact completes_left rfl rfl hs (boardScan_busy (s := s.told) hbusy .none)
  · exact identifyDone_followed (i := .identifyTimeout) hquiet (identifySilent_scan hscan)
  · exact identifyDone_followed (i := .identifyAnswer a) hquiet ((identifyAnswers_scan hscan).trans (if_pos hgood))
  · exact exec_quiet (i := .identifyAnswer a) ((identifyAnswers_scan hscan).trans (if_neg hbad)) hquiet
  · obtain ⟨hsilent, hanswers⟩ := identify_ignored hno
    exact ⟨exec_quiet (i := .identifyTimeout) hsilent hquiet,
      fun a => exec_quiet (i := .identifyAnswer a) (hanswers a) hquiet⟩

end Sys2Proof.Proofs

/-! PROOFS. The updates of a publish: the panels it visits, their answers (R167 to R172), and the runs of cells an
update carries (R173), O52. -/

namespace Sys2Proof.Proofs
open Sys2Proof Sys2Proof.Machine

/-! ### The panels a publish visits -/

theorem visitPanels_absent {image : List (List Cell)} {p : PanelId} {s : State} (h : (s.panel p).presence = .absent)
    (rest : List PanelId) (results : List PanelResult) :
    visitPanels image (p :: rest) results s = visitPanels image rest (results ++ [.skipped]) s := by
  rw [visitPanels, if_pos h]

theorem visitPanels_nothing {image : List (List Cell)} {p : PanelId} {s : State} (h : (s.panel p).presence ≠ .absent)
    (hruns : runsFor (s.panel p) ((image[p.val]?).getD []) = []) (rest : List PanelId) (results : List PanelResult) :
    visitPanels image (p :: rest) results s = visitPanels image rest (results ++ [.nothing]) s := by
  rw [visitPanels, if_neg h]
  simp only [hruns]

theorem visitPanels_sends {image : List (List Cell)} {p : PanelId} {s : State} {runs : List Run}
    (h : (s.panel p).presence ≠ .absent) (hruns : runsFor (s.panel p) ((image[p.val]?).getD []) = runs)
    (hsome : runs ≠ []) (rest : List PanelId) (results : List PanelResult) :
    visitPanels image (p :: rest) results s = s.setOperation (.publish image p runs results) := by
  obtain ⟨r, more, hcons⟩ := List.exists_cons_of_ne_nil hsome
  rw [visitPanels, if_neg h]
  simp only [hruns, hcons]

theorem visitPanels_done (image : List (List Cell)) (results : List PanelResult) (s : State) :
    visitPanels image [] results s
      = completeOperation (.publish results (results.map PanelResult.acknowledged).sum) s := rfl

/-- How the end of an update's turn depends on a publish asked for meanwhile: a publish that completes asks for the
next, one that sends on keeps the mark (R172). -/
theorem visitPanels_again (image : List (List Cell)) (ps : List PanelId) (results : List PanelResult) {s : State}
    (hagain : s.board.again = false) (hquiet : s.noRequest) :
    (visitPanels image ps results s).noRequest
      ∧ ((visitPanels image ps results s).board.operation = .idle →
          visitPanels image ps results { s with board := { s.board with again := true } }
            = requestPublish (visitPanels image ps results s))
      ∧ ((visitPanels image ps results s).board.operation ≠ .idle →
          visitPanels image ps results { s with board := { s.board with again := true } }
            = { visitPanels image ps results s with
                board := { (visitPanels image ps results s).board with again := true } }) := by
  induction ps generalizing results with
  | nil =>
    have hdone : (completeOperation (.publish results (results.map PanelResult.acknowledged).sum) s).board.operation
        = .idle := by
      rw [completeOperation_eq]
      rfl
    refine ⟨?_, fun _ => ?_, fun h => absurd hdone h⟩
    · rw [visitPanels_done, completeOperation_eq, hagain]
      exact hquiet
    · rw [visitPanels_done, visitPanels_done, completeOperation_eq, completeOperation_eq]
      rfl
  | cons p rest ih =>
    have hpanel : ({ s with board := { s.board with again := true } } : State).panel p = s.panel p := rfl
    by_cases habsent : (s.panel p).presence = .absent
    · rw [visitPanels_absent habsent, visitPanels_absent (hpanel ▸ habsent)]
      exact ih _
    · by_cases hnone : runsFor (s.panel p) ((image[p.val]?).getD []) = []
      · rw [visitPanels_nothing habsent hnone, visitPanels_nothing (hpanel ▸ habsent) (hpanel ▸ hnone)]
        exact ih _
      · rw [visitPanels_sends habsent rfl hnone, visitPanels_sends (hpanel ▸ habsent) rfl (hpanel ▸ hnone)]
        exact ⟨hquiet, nofun, fun _ => rfl⟩

theorem withRequest_same {b : Board} {asked : Bool} (h : b.request = asked) : { b with request := asked } = b := by
  subst h
  rfl

theorem withAgain_same {b : Board} {again : Bool} (h : b.again = again) : { b with again := again } = b := by
  subst h
  rfl

theorem publish_visits (image : List (List Cell)) : publishVisits image := by
  intro s results
  refine ⟨fun p rest h => visitPanels_absent h rest results, fun p rest h hruns => visitPanels_nothing h hruns rest results,
    fun p rest runs h hruns hsome => visitPanels_sends h hruns hsome rest results, fun hquiet hagain => ?_⟩
  rw [visitPanels_done, completeOperation_eq]
  have hrequest : (s.board.again || s.board.request) = false := by rw [hagain, show s.board.request = false from hquiet]; rfl
  rw [hrequest, withRequest_same (b := operationDone (.publish results (results.map PanelResult.acknowledged).sum) s.board)
    hquiet]

/-! ### The answers to an update -/

theorem takeRequest_requested {s : State} (hquiet : s.noRequest) (hidle : s.board.operation = .idle) :
    takeRequest (requestPublish s) = startPublish s := by
  have h := takeRequest_idle (s := s) hidle hquiet true
  rwa [if_pos rfl] at h

theorem update_followed {image : List (List Cell)} {p : PanelId} {result : PanelResult} {r : PanelRecord}
    {results : List PanelResult} {i : Instr} {s : State} (hquiet : s.noRequest)
    (hi : effectOf i s = visitPanels image (panelsAfter p) (results ++ [result]) (s.setPanel p r)) :
    updateFollowed image p result r results i s := by
  let u : State := { s.setPanel p r with board := { (s.setPanel p r).board with again := false } }
  obtain ⟨hstays, hidle, hbusy⟩ := visitPanels_again image (panelsAfter p) (results ++ [result]) (s := u) rfl hquiet
  have hasked : s.board.again = true → s.setPanel p r = { u with board := { u.board with again := true } } := fun h =>
    congrArg (fun b => { s with board := b }) (withAgain_same (b := (s.setPanel p r).board) h).symm
  refine ⟨fun hagain => ?_, fun hagain hdone => ?_, fun hagain hgoes => ?_⟩
  · have hsame : s.setPanel p r = u :=
      congrArg (fun b => { s with board := b }) (withAgain_same (b := (s.setPanel p r).board) hagain).symm
    rw [hsame] at hi
    exact exec_quiet hi hstays
  · rw [hasked hagain, hidle hdone] at hi
    rw [exec_eq_next, hi]
    exact congrArg Host.Outcome.next (takeRequest_requested hstays hdone)
  · rw [hasked hagain, hbusy hgoes] at hi
    exact exec_quiet hi hstays

theorem panelSilent_publish {image : List (List Cell)} {p : PanelId} {runs : List Run} {results : List PanelResult}
    {s : State} (h : s.board.operation = .publish image p runs results) :
    panelSilent s = updateUnanswered image p runs results s := by
  simp only [panelSilent, h]

theorem panelAnswers_publish {image : List (List Cell)} {p : PanelId} {runs : List Run} {results : List PanelResult}
    {s : State} {a : PanelAnswer} (h : s.board.operation = .publish image p runs results) :
    panelAnswers a s = if a.checkGood = true ∧ a.panel.toNat = p.val
      then updateAcknowledged image p runs results s else s := by
  simp only [panelAnswers, h]

theorem panel_ignored {s : State} (h : ∀ image p runs results, s.board.operation ≠ .publish image p runs results) :
    panelSilent s = s ∧ ∀ a, panelAnswers a s = s := by
  cases hoperation : s.board.operation with
  | publish image p runs results => exact absurd hoperation (h image p runs results)
  | _ => exact ⟨by simp only [panelSilent, hoperation], fun a => by simp only [panelAnswers, hoperation]⟩

theorem updates_end : updatesEnd := by
  intro s hquiet
  refine ⟨publish_visits, fun image p runs results hpublish => ⟨?_, fun a => ⟨fun hgood => ?_, fun hbad => ?_⟩⟩,
    fun hno => ?_⟩
  · exact update_followed (i := .panelAckTimeout) hquiet (panelSilent_publish hpublish)
  · exact update_followed (i := .panelAck a) hquiet ((panelAnswers_publish hpublish).trans (if_pos hgood))
  · exact exec_quiet (i := .panelAck a) ((panelAnswers_publish hpublish).trans (if_neg hbad)) hquiet
  · obtain ⟨hsilent, hanswers⟩ := panel_ignored hno
    exact ⟨exec_quiet (i := .panelAckTimeout) hsilent hquiet,
      fun a => exec_quiet (i := .panelAck a) (hanswers a) hquiet⟩

/-! ### The runs of an update -/

/-- A run carries cells of the new row at places where the row the panel shows has others. -/
def RunFits (now shown : List Cell) (r : Run) : Prop :=
  r.cells ≠ [] ∧ ∀ k x, r.cells[k]? = some x →
    now[r.first + k]? = some x ∧ ∃ y, shown[r.first + k]? = some y ∧ x ≠ y

/-- The run that is being collected ends where the scan stands. -/
def OpenRunFits (now shown : List Cell) (i : Nat) (o : Option Run) : Prop :=
  ∀ r, o = some r → RunFits now shown r ∧ r.first + r.cells.length = i

theorem OpenRunFits.extend {now shown : List Cell} {i : Nat} {r : Run} {x y : Cell}
    (h : OpenRunFits now shown i (some r)) (hx : now[i]? = some x) (hy : shown[i]? = some y) (hne : x ≠ y) :
    OpenRunFits now shown (i + 1) (some { r with cells := r.cells ++ [x] }) := by
  rintro _ ⟨⟩
  obtain ⟨⟨-, hcells⟩, hend⟩ := h r rfl
  refine ⟨⟨by simp, fun k z hk => ?_⟩, by simp; omega⟩
  rw [List.getElem?_append] at hk
  split at hk
  next => exact hcells k z hk
  next hpast =>
    have hlast : k = r.cells.length := by
      refine Classical.byContradiction fun hne => ?_
      rw [List.getElem?_eq_none (by simp; omega)] at hk
      exact nomatch hk
    subst hlast
    simp only [Nat.sub_self, List.getElem?_cons_zero, Option.some.injEq] at hk
    subst hk
    simp only [hend]
    exact ⟨hx, y, hy, hne⟩

theorem OpenRunFits.start {now shown : List Cell} {i : Nat} {x y : Cell} (hx : now[i]? = some x)
    (hy : shown[i]? = some y) (hne : x ≠ y) : OpenRunFits now shown (i + 1) (some { first := i, cells := [x] }) := by
  rintro _ ⟨⟩
  refine ⟨⟨by simp, fun k z hk => ?_⟩, rfl⟩
  cases k with
  | zero =>
    simp only [List.getElem?_cons_zero, Option.some.injEq] at hk
    subst hk
    exact ⟨hx, y, hy, hne⟩
  | succ k => simp at hk

/-- The runs of a scan from place `i`: each fits, each place that differs is in one, the open run is the start of the
first, and they lie apart. -/
structure RunsFound (now shown : List Cell) (i : Nat) (o : Option Run) (runs : List Run) : Prop where
  fits : ∀ run ∈ runs, RunFits now shown run
  found : ∀ j x y, i ≤ j → now[j]? = some x → shown[j]? = some y → x ≠ y →
    ∃ run ∈ runs, run.first ≤ j ∧ j < run.first + run.cells.length
  opened : ∀ r, o = some r → ∃ run ∈ runs, run.first = r.first ∧ r.cells.length ≤ run.cells.length
  after : ∀ run ∈ runs, (o.elim i Run.first) ≤ run.first
  apart : runs.Pairwise fun a b => a.first + a.cells.length < b.first

theorem drop_eq_cons {l : List Cell} {i : Nat} {x : Cell} {xs : List Cell} (h : l.drop i = x :: xs) :
    l[i]? = some x ∧ l.drop (i + 1) = xs := by
  have hget : (l.drop i)[0]? = some x := by rw [h]; rfl
  have htail : (l.drop i).drop 1 = xs := by rw [h]; rfl
  rw [List.getElem?_drop, Nat.add_zero] at hget
  rw [List.drop_drop] at htail
  exact ⟨hget, htail⟩

theorem runsFound_end {now shown : List Cell} {i : Nat} {o : Option Run} (ho : OpenRunFits now shown i o)
    (hend : now.drop i = [] ∨ shown.drop i = []) : RunsFound now shown i o o.toList where
  fits run hrun := (ho run (by simpa using hrun)).1
  found j x y hj hx hy _ := by
    rcases hend with h | h
    · have hlen := List.drop_eq_nil_iff.mp h
      rw [List.getElem?_eq_none (by omega)] at hx
      exact nomatch hx
    · have hlen := List.drop_eq_nil_iff.mp h
      rw [List.getElem?_eq_none (by omega)] at hy
      exact nomatch hy
  opened r hr := ⟨r, by simp [hr], rfl, Nat.le_refl _⟩
  after run hrun := by
    obtain rfl : o = some run := by simpa using hrun
    exact Nat.le_refl _
  apart := by cases o <;> simp

theorem differingRuns_same {x y : Cell} (h : x = y) (i : Nat) (xs ys : List Cell) (o : Option Run) :
    differingRuns i (x :: xs) (y :: ys) o = o.toList ++ differingRuns (i + 1) xs ys none := by
  simp [differingRuns, h]

theorem differingRuns_starts {x y : Cell} (h : x ≠ y) (i : Nat) (xs ys : List Cell) :
    differingRuns i (x :: xs) (y :: ys) none = differingRuns (i + 1) xs ys (some { first := i, cells := [x] }) := by
  simp [differingRuns, h]

theorem differingRuns_grows {x y : Cell} (h : x ≠ y) (i : Nat) (xs ys : List Cell) (r : Run) :
    differingRuns i (x :: xs) (y :: ys) (some r)
      = differingRuns (i + 1) xs ys (some { r with cells := r.cells ++ [x] }) := by
  simp [differingRuns, h]

theorem OpenRunFits.first_le {now shown : List Cell} {i : Nat} {o : Option Run} (h : OpenRunFits now shown i o) :
    o.elim i Run.first ≤ i := by
  cases o with
  | none => exact Nat.le_refl _
  | some r =>
    obtain ⟨-, hend⟩ := h r rfl
    show r.first ≤ i
    omega

/-- A place where the rows agree closes the open run. -/
theorem RunsFound.same {now shown : List Cell} {i : Nat} {o : Option Run} {rest : List Run} {x : Cell}
    (ho : OpenRunFits now shown i o) (hx : now[i]? = some x) (hy : shown[i]? = some x)
    (h : RunsFound now shown (i + 1) none rest) : RunsFound now shown i o (o.toList ++ rest) where
  fits run hrun := by
    rcases List.mem_append.mp hrun with hrun | hrun
    · exact (ho run (by simpa using hrun)).1
    · exact h.fits run hrun
  found j a b hj ha hb hne := by
    rcases Nat.lt_or_eq_of_le hj with hlt | rfl
    · obtain ⟨run, hrun, hcovers⟩ := h.found j a b hlt ha hb hne
      exact ⟨run, List.mem_append_right _ hrun, hcovers⟩
    · rw [hx] at ha
      rw [hy] at hb
      exact absurd ((Option.some.inj ha).symm.trans (Option.some.inj hb)) hne
  opened r hr := ⟨r, by simp [hr], rfl, Nat.le_refl _⟩
  after run hrun := by
    rcases List.mem_append.mp hrun with hrun | hrun
    · obtain rfl : o = some run := by simpa using hrun
      exact Nat.le_refl _
    · have hafter : i + 1 ≤ run.first := h.after run hrun
      exact Nat.le_trans ho.first_le (by omega)
  apart := by
    refine List.pairwise_append.mpr ⟨by cases o <;> simp, h.apart, fun a ha b hb => ?_⟩
    obtain ⟨-, hend⟩ := ho a (by simpa using ha)
    have hafter : i + 1 ≤ b.first := h.after b hb
    omega

/-- A place where the rows differ is in the run that is open after it. -/
theorem RunsFound.differing {now shown : List Cell} {i : Nat} {o : Option Run} {r : Run} {runs : List Run}
    (hend : r.first + r.cells.length = i + 1) (hfirst : r.first = o.elim i Run.first)
    (hopened : ∀ q, o = some q → q.cells.length ≤ r.cells.length) (ho : OpenRunFits now shown i o)
    (h : RunsFound now shown (i + 1) (some r) runs) : RunsFound now shown i o runs where
  fits := h.fits
  found j a b hj ha hb hne := by
    rcases Nat.lt_or_eq_of_le hj with hlt | rfl
    · exact h.found j a b hlt ha hb hne
    · obtain ⟨run, hrun, hsame, hlong⟩ := h.opened r rfl
      have hle := ho.first_le
      exact ⟨run, hrun, by omega, by omega⟩
  opened q hq := by
    obtain ⟨run, hrun, hsame, hlong⟩ := h.opened r rfl
    refine ⟨run, hrun, ?_, Nat.le_trans (hopened q hq) hlong⟩
    rw [hsame, hfirst, hq]
    rfl
  after run hrun := hfirst ▸ h.after run hrun
  apart := h.apart

theorem differingRuns_found {now shown : List Cell} (xs ys : List Cell) {i : Nat} {o : Option Run}
    (hxs : now.drop i = xs) (hys : shown.drop i = ys) (ho : OpenRunFits now shown i o) :
    RunsFound now shown i o (differingRuns i xs ys o) := by
  induction xs generalizing i ys o with
  | nil =>
    have hstop : differingRuns i [] ys o = o.toList := by cases ys <;> rfl
    rw [hstop]
    exact runsFound_end ho (.inl hxs)
  | cons x xs ih =>
    cases ys with
    | nil => exact runsFound_end ho (.inr hys)
    | cons y ys =>
      obtain ⟨hx, hxs⟩ := drop_eq_cons hxs
      obtain ⟨hy, hys⟩ := drop_eq_cons hys
      by_cases heq : x = y
      · rw [differingRuns_same heq]
        exact .same ho hx (heq ▸ hy) (ih ys hxs hys nofun)
      · cases o with
        | none =>
          rw [differingRuns_starts heq]
          exact .differing rfl rfl nofun ho (ih ys hxs hys (.start hx hy heq))
        | some r =>
          have hend := (ho r rfl).2
          rw [differingRuns_grows heq]
          refine .differing (r := { r with cells := r.cells ++ [x] }) (by simp; omega) rfl ?_ ho (ih ys hxs hys (ho.extend hx hy heq))
          rintro _ ⟨⟩
          simp

theorem updates_carryTheDifferences : updatesCarryTheDifferences := by
  intro r image
  refine ⟨fun h => by simp only [runsFor, h]; rfl, fun shown h => ?_⟩
  have hruns : runsFor r image = differingRuns 0 (image.take r.count) shown none := by simp only [runsFor, h]
  have hfound := differingRuns_found (now := image.take r.count) (shown := shown) (i := 0) (o := none) _ _ rfl rfl nofun
  rw [hruns]
  exact ⟨hfound.fits, fun i x y => hfound.found i x y (Nat.zero_le i), hfound.apart⟩

/-- Settles O52: an update is acknowledged or its panel is at fault, and it carries the cells that differ. -/
theorem updatesAreAcknowledgedOrFault : Obligations.UpdatesAreAcknowledgedOrFault :=
  ⟨updates_end, updates_carryTheDifferences⟩

end Sys2Proof.Proofs

/-! PROOFS. What asks for a publish: BOARD_PUBLISH, BOARD_SET and the second of a countdown (R166, R174, R176), O53. -/

namespace Sys2Proof.Proofs
open Sys2Proof Sys2Proof.Machine

/-! ### A publish that is asked for -/

/-- What a command writes, when its effect is read from the state with the publish taken. -/
theorem completes_taking {i : Instr} {c : Command} {kind : Byte} {s u : State} {a : Answer} {touched : List Block}
    {effect : State → Prop} (hi : i.frameCommand = some c) (hk : c.code = kind) (hs : s.ready)
    (hrun : runCommand c s.told = (u, a)) (hframe : unchangedBut touched s.told u) (hlink : .link ∉ touched)
    (hsilence : .silence ∉ touched) (hrenders : .board ∈ touched ∧ .notices ∈ touched)
    (heffect : ∀ w, unchangedBut [.link] u w → effect (takeRequest w)) : completes i s kind a touched effect := by
  subst hk
  let v := enqueue (.reply { kind := c.code, answer := a }) u
  have hlinked : v.link = s.link.joined (.reply { kind := c.code, answer := a }) :=
    enqueue_link _ _ _ (hframe .link hlink)
  have hreply : unchangedBut [.link] u v := fun b hb => by
    cases b with
    | link => exact absurd (.head _) hb
    | _ => rfl
  refine ⟨takeRequest v, ?_, ⟨?_, ?_⟩, fun b hb => ?_, heffect v hreply⟩
  · rw [exec_command hi, frameArrives_ready c hs, hrun]
  · exact (show (takeRequest v).link = v.link by simp).trans hlinked
  · exact (show (takeRequest v).silence = v.silence by simp).trans (hframe .silence hsilence)
  · have htold : b.same s u := unchangedBut_of_told hframe b hb
    have hlast : b.same v (takeRequest v) := takeRequest_same v b (fun h => hb (by simp [h, hrenders.1]))
      (fun h => hb (by simp [h, hrenders.2]))
    cases b with
    | link => exact absurd (by simp) hb
    | _ => exact hlast.trans htold

/-- A publish that was asked for is rendered from the state that asked (R166). -/
theorem takeRequest_asks {w : State} {b : Board} {n : NoticeUnit} (hb : w.board = { b with request := true })
    (hquiet : b.request = false) (hn : w.notices = n) :
    takeRequest w = publishAsked { takeRequest w with board := b, notices := n } := by
  have hasked := takeRequest_asked (s := w) (by rw [hb])
  have hboard : ({ w.board with request := false } : Board) = b := by rw [hb]; exact board_mark hquiet
  rw [hboard] at hasked
  have hsame : ({ w with board := b } : State) = { w with board := b, notices := n } := by rw [← hn]
  rw [hasked, publishAsked_frame, hsame]

theorem withBoard_unchangedRender (s : State) (b : Board) :
    unchangedBut [.board, .notices] s { s with board := b } := by
  intro k hk
  cases k with
  | board => exact absurd (.head _) hk
  | _ => rfl

/-! ### BOARD_PUBLISH and BOARD_SET -/

theorem boardPublish_asks {s : State} (hs : s.ready) : completes (.boardPublish (.fits .none)) s 0x24#8
    { result := .queued, data := [.flag (decide (s.board.operation = .idle))] } [.board, .notices] fun t =>
      t = publishAsked { t with board := s.board, notices := s.notices } := by
  obtain ⟨-, -, -, -, hquiet⟩ := id hs
  exact completes_taking rfl rfl hs rfl (withBoard_unchangedRender s.told _) (by decide) (by decide) (by decide)
    fun w hw => takeRequest_asks (hw .board (by decide)) hquiet (hw .notices (by decide))

theorem boardSet_starts {s : State} {on : Bool} (hon : on = true) (hauto : s.board.auto = false) :
    boardSet on s = (requestPublish { s with board := { s.board with auto := on } }, ok []) := by
  subst hon
  simp only [boardSet, hauto, Bool.not_false, Bool.and_self, if_true]

theorem boardSet_keeps {s : State} {on : Bool} (h : on = false ∨ s.board.auto = true) :
    boardSet on s = ({ s with board := { s.board with auto := on } }, ok []) := by
  have hnot : ¬(on && !s.board.auto) = true := by
    rcases h with h | h <;> simp [h]
  simp only [boardSet, if_neg hnot]

theorem boardSet_acts {s : State} (on : Bool) (hs : s.ready) :
    completes (.boardSet (.fits on)) s 0x25#8 (ok []) [.board, .notices] fun t =>
      let u := { t with board := { s.board with auto := on }, notices := s.notices }
      (on = true → s.board.auto = false → t = publishAsked u) ∧ (on = false ∨ s.board.auto = true → t = u) := by
  obtain ⟨-, -, -, -, hquiet⟩ := id hs
  by_cases hstarts : on = true ∧ s.board.auto = false
  · refine completes_taking rfl rfl hs (boardSet_starts (s := s.told) hstarts.1 hstarts.2)
      (withBoard_unchangedRender s.told _) (by decide) (by decide) (by decide) fun w hw => ⟨fun _ _ => ?_, fun h => ?_⟩
    · exact takeRequest_asks (b := { s.board with auto := on }) (hw .board (by decide)) hquiet (hw .notices (by decide))
    · obtain ⟨hon, hauto⟩ := hstarts
      rcases h with h | h
      · simp [h] at hon
      · simp [h] at hauto
  · have hkeeps : on = false ∨ s.board.auto = true := by
      cases on <;> cases hauto : s.board.auto <;> simp_all
    refine completes_taking rfl rfl hs (boardSet_keeps (s := s.told) hkeeps)
      (withBoard_unchangedRender s.told _) (by decide) (by decide) (by decide) fun w hw => ⟨fun h1 h2 => ?_, fun _ => ?_⟩
    · exact absurd ⟨h1, h2⟩ hstarts
    · have hboard : w.board = { s.board with auto := on } := hw .board (by decide)
      have hnotices : w.notices = s.notices := hw .notices (by decide)
      rw [takeRequest_quiet (by rw [hboard]; exact hquiet), ← hboard, ← hnotices]

/-! ### The second of a countdown -/

theorem routeHeld_iff (s : State) (x : Source) :
    s.routeHeld x = true ↔ ∃ n r, s.route n = some r ∧ r.source = x := by
  rw [State.routeHeld, List.any_eq_true]
  constructor
  · rintro ⟨⟨n, r⟩, hmem, hx⟩
    exact ⟨n, r, mem_heldRoutes.mp hmem, by simpa using hx⟩
  · rintro ⟨n, r, hr, hx⟩
    exact ⟨(n, r), mem_heldRoutes.mpr hr, by simpa using hx⟩

theorem onSecond_iff (now : ClockValue) (o : Option ClockValue) :
    onSecond now o = true ↔ ∃ d, o = some d ∧ 0 ≤ clockDiff now d ∧ clockDiff now d % 4000 = 0 := by
  cases o with
  | none => simp [onSecond]
  | some d =>
    have hsecond : onSecond now (some d) = true ↔ 0 ≤ clockDiff now d ∧ clockDiff now d % 4000 = 0 := decide_eq_true_iff
    rw [hsecond]
    exact ⟨fun h => ⟨d, rfl, h⟩, fun ⟨_, hd, h⟩ => Option.some.inj hd ▸ h⟩

theorem countdownDue_iff {s : State} {c : Context} (hc : s.engine.active = some c) : s.countdownDue = true ↔
    (∃ n r d, s.route n = some r ∧ r.source = .roundTime ∧ c.roundDeadline = some d
        ∧ 0 ≤ clockDiff s.clock d ∧ clockDiff s.clock d % 4000 = 0)
      ∨ ∃ n r d, s.route n = some r ∧ r.source = .answerTime ∧ c.answerDeadline = some d
        ∧ 0 ≤ clockDiff s.clock d ∧ clockDiff s.clock d % 4000 = 0 := by
  simp only [State.countdownDue, hc, Bool.or_eq_true, Bool.and_eq_true, routeHeld_iff, onSecond_iff]
  grind

theorem countdown_asks {s : State} (hquiet : s.noRequest) (hdue : s.countdownDue = true) (hauto : s.board.auto = true) :
    exec .countdownSecond s = .next (publishAsked s) := by
  have hcounts : effectOf .countdownSecond s = { s with board := { s.board with request := true } } := by
    show countdownSecond s = _
    rw [countdownSecond, if_pos hdue, autoRequest_eq, Board.triggered, if_pos hauto]
  rw [exec_eq_next, hcounts, takeRequest_asked rfl]
  exact congrArg (fun b => Host.Outcome.next (publishAsked { s with board := b })) (board_mark hquiet)

theorem countdown_stays {s : State} (hquiet : s.noRequest) (h : ¬s.countdownDue = true ∨ s.board.auto = false) :
    exec .countdownSecond s = .next s := by
  refine exec_quiet (i := .countdownSecond) (show countdownSecond s = s from ?_) hquiet
  unfold countdownSecond
  split
  next hdue =>
    have hauto := h.resolve_left (fun hnot => hnot hdue)
    rw [autoRequest_eq, Board.triggered, if_neg (by simp [hauto])]
  next => rfl

theorem publishes_areRequested : publishesAreRequested := by
  intro s
  refine ⟨boardPublish_asks, fun on hs => boardSet_acts on hs, fun c hquiet hc => ⟨fun hdue hauto => ?_, fun h => ?_⟩,
    fun hquiet hnone => ?_⟩
  · exact countdown_asks hquiet ((countdownDue_iff hc).mpr hdue) hauto
  · exact countdown_stays hquiet (h.imp_left (mt (countdownDue_iff hc).mp))
  · exact countdown_stays hquiet (.inl (by simp [State.countdownDue, hnone]))

theorem publishes_start : publishesStart := by
  intro s
  refine ⟨rfl, takeRequest_quiet, fun hasked => ⟨fun hidle => ?_, fun hbusy => ?_⟩⟩
  · rw [takeRequest_asked hasked]
    simp only [publishAsked, hidle]
  · rw [takeRequest_asked hasked]
    cases hoperation : s.board.operation with
    | idle => exact absurd hoperation hbusy
    | _ => simp only [publishAsked, hoperation]

/-- Settles O53: a publish is asked for by BOARD_PUBLISH, by BOARD_SET and by a countdown's second, and starts. -/
theorem publishesAreAskedFor : Obligations.PublishesAreAskedFor := ⟨publishes_areRequested, publishes_start⟩

end Sys2Proof.Proofs

/-! PROOFS. ROUTE_SET and ROUTE_CLEAR (R178, R179), and what the sources of the fields give (R180), for O54. -/

namespace Sys2Proof.Proofs
open Sys2Proof Sys2Proof.Machine

/-! ### The route table -/

theorem routeSet_eq {a : RouteSetArgs} {n : RouteId} {r : Route} (hn : routeOf a.route = some n)
    (hr : routeOfArgs a = some r) (s : State) : routeSet a s
      = if 32 < r.first + r.width then (s, refuse .range)
        else if s.overlapsHeld n r = true then (s, refuse .overlap)
        else (s.setRoute n (some r), ok [.flag (s.route n).isSome]) := by
  simp only [routeSet, hn, hr]
  rfl

theorem routeSet_badValue {a : RouteSetArgs} (h : routeOf a.route = none ∨ routeOfArgs a = none) (s : State) :
    routeSet a s = (s, refuse .badValue) := by
  unfold routeSet
  split
  next hn hr => simp [hn, hr] at h
  next => rfl

/-- A route's entry written, the other entries and the rest of the board kept. -/
theorem routeWritten {s t : State} {n : RouteId} {o : Option Route} (h : t.board = (s.setRoute n o).board) :
    t.board = { s.board with routes := t.board.routes } ∧ t.route n = o ∧ ∀ m, m ≠ n → t.route m = s.route m := by
  have hroute : ∀ m, t.route m = if n = m then o else s.route m := fun m => by
    rw [State.route, h]
    exact route_setRoute s n m o
  refine ⟨by rw [h]; rfl, by rw [hroute, if_pos rfl], fun m hm => by rw [hroute, if_neg hm.symm]⟩

theorem heldRoutes_length (b : Board) :
    b.heldRoutes.length = ((List.finRange 32).filter fun n => (look b.routes n).isSome).length := by
  rw [Board.heldRoutes, List.length_filterMap_eq_countP, List.countP_eq_length_filter]
  simp

theorem routeClear_one {b : Byte} {n : RouteId} (h : routeOf b = some n) (s : State) :
    routeClear (.one b) s = (s.setRoute n none, ok [.u8 (if (s.route n).isSome then 1 else 0)]) := by
  simp only [routeClear, h]

theorem routeClear_bad {b : Byte} (h : routeOf b = none) (s : State) :
    routeClear (.one b) s = (s, refuse .badValue) := by
  simp only [routeClear, h]

theorem routeClear_all (s : State) : routeClear .all s
    = (clearRoutes s, ok [.u8 ((List.finRange 32).filter fun n => (s.route n).isSome).length]) := by
  rw [routeClear, heldRoutes_length]
  rfl

theorem completes_route {i : Instr} {c : Command} {kind : Byte} {s : State} {a : Answer} {n : RouteId}
    {o : Option Route} (hi : i.frameCommand = some c) (hk : c.code = kind) (hs : s.ready)
    (hrun : runCommand c s.told = (s.told.setRoute n o, a)) :
    completes i s kind a [.board] fun t =>
      t.board = { s.board with routes := t.board.routes } ∧ t.route n = o ∧ ∀ m, m ≠ n → t.route m = s.route m := by
  obtain ⟨-, -, -, -, hquiet⟩ := id hs
  exact completes_writes hi hk hs hrun (withBoard_unchangedBut s.told _) (by decide) (by decide) hquiet
    fun t ht => routeWritten (s := s) (ht .board (by decide))

theorem routes_arePlacedAndCleared : routesArePlacedAndCleared := by
  intro s a hs
  obtain ⟨-, -, -, -, hquiet⟩ := id hs
  refine ⟨fun n r hn hr hfits hfree => ?_, fun n r hn hr hlong => ?_, fun n r m q hn hr hfits hne hq hclash => ?_,
    fun h => completes_left rfl rfl hs (routeSet_badValue h s.told), fun b n hb => ?_, ?_, fun b hb => ?_⟩
  · have hclear : ¬s.told.overlapsHeld n r = true := by
      rw [Bool.not_eq_true, overlapsHeld_eq_false_iff]
      exact hfree
    refine completes_route rfl rfl hs ((routeSet_eq hn hr s.told).trans ?_)
    rw [if_neg (Nat.not_lt.mpr hfits), if_neg hclear]
    rfl
  · exact completes_left rfl rfl hs ((routeSet_eq hn hr s.told).trans (if_pos hlong))
  · have hover : s.told.overlapsHeld n r = true := by
      refine Classical.byContradiction fun hno => ?_
      have hclear := (overlapsHeld_eq_false_iff _ _ _).mp (Bool.not_eq_true _ ▸ hno)
      rw [hclear m q hne hq] at hclash
      exact nomatch hclash
    refine completes_left rfl rfl hs ((routeSet_eq hn hr s.told).trans ?_)
    rw [if_neg (Nat.not_lt.mpr hfits), if_pos hover]
  · exact completes_route rfl rfl hs (routeClear_one hb s.told)
  · refine completes_writes rfl rfl hs (routeClear_all s.told) (withBoard_unchangedBut s.told _) (by decide) (by decide)
      hquiet fun t ht => ?_
    have hboard : t.board = { s.board with routes := Vector.replicate 32 none } := ht .board (by decide)
    refine ⟨by rw [hboard], fun m => ?_⟩
    rw [State.route, hboard]
    exact Vector.getElem_replicate m.isLt
  · exact completes_left rfl rfl hs (routeClear_bad hb s.told)

/-! ### The sources of the fields -/

theorem team_sourcesGive : teamSourcesGive := by
  intro s
  refine ⟨fun t => rfl, fun t g l h => ?_, fun t h => ?_, fun r t h => ⟨?_, ?_⟩, fun r h => ⟨?_, ?_⟩, fun l => rfl⟩
  · rw [State.sourceValue, h]
    rfl
  · rw [State.sourceValue]
    rcases h with h | h <;> rw [h] <;> rfl
  all_goals rw [State.sourceValue, h]; rfl

theorem secondsUp_eq (n : Nat) : ((secondsUp n : Nat) : Int) = wholeSeconds n := by
  simp [secondsUp, wholeSeconds, Config.ticksPerSecond]

theorem round_sourcesGive : roundSourcesGive := by
  intro s
  refine ⟨fun hnone x hx => ?_, fun c hc => ⟨fun t ht => ⟨?_, fun g l htag => ?_, fun htag => ?_, fun d hd => ?_,
    fun n hd hn => ?_⟩, fun hfree => ⟨?_, ?_, ?_⟩, fun p q hkind hq => ?_, fun p h => ?_, ?_, fun d hd => ?_,
    fun n hd hn => ?_, fun hd hn => ?_, fun o b x n hphase hb hx hn => ?_, fun o h => ?_⟩⟩
  · rcases hx with rfl | rfl | rfl | rfl | rfl | ⟨p, rfl⟩ | ⟨o, rfl⟩ <;>
      simp [State.sourceValue, State.holder, State.queuedTeam, State.shownAnswerTime, State.shownTally, hnone,
        numberOrBlank, tagValue]
  · simp [State.sourceValue, State.holder, hc, ht, numberOrBlank, teamNumber]
  · simp [State.sourceValue, State.holder, hc, ht, htag, tagValue]
  · rcases htag with htag | htag <;> simp [State.sourceValue, State.holder, hc, ht, htag, tagValue]
  · simp [State.sourceValue, State.shownAnswerTime, Context.answerTimeLeft, hc, ht, hd, numberOrBlank, secondsUp_eq,
      ticksLeft]
  · simp [State.sourceValue, State.shownAnswerTime, Context.answerTimeLeft, hc, ht, hd, hn, numberOrBlank, secondsUp_eq]
  · simp [State.sourceValue, State.holder, hc, hfree, numberOrBlank]
  · simp [State.sourceValue, State.holder, hc, hfree, tagValue]
  · simp [State.sourceValue, State.shownAnswerTime, hc, hfree, numberOrBlank]
  · simp [State.sourceValue, State.queuedTeam, hc, hkind, hq, numberOrBlank, teamNumber]
  · rcases h with h | h <;> simp [State.sourceValue, State.queuedTeam, hc, h, numberOrBlank]
  · simp [State.sourceValue, hc, numberOrBlank]
  · simp [State.sourceValue, Context.roundTimeLeft, hc, hd, numberOrBlank, secondsUp_eq, ticksLeft]
  · simp [State.sourceValue, Context.roundTimeLeft, hc, hd, hn, numberOrBlank, secondsUp_eq]
  · simp [State.sourceValue, Context.roundTimeLeft, hc, hd, hn, numberOrBlank]
  · simp [State.sourceValue, State.shownTally, hc, hphase, hb, hx, hn, numberOrBlank]
  · have hnone : s.shownTally o = none := by
      simp only [State.shownTally, hc, Option.bind_some]
      split
      next hphase =>
        have hcounts := h.resolve_left fun ⟨h1, h2⟩ => hphase.elim h1 h2
        cases hb : c.ballot with
        | none => rfl
        | some b =>
          cases hx : b.tallies with
          | none => simp [hx]
          | some x => simpa [hx] using hcounts b x hb hx
      next => rfl
    rw [State.sourceValue, hnone]
    rfl

end Sys2Proof.Proofs

/-! PROOFS. How a field is filled from its source (R181, R182), for O54: the digits of a number, the placing of the glyphs
and the overflow. -/

namespace Sys2Proof.Proofs
open Sys2Proof Sys2Proof.Machine

/-! ### The digits of a number -/

/-- The number that the digits write. -/
def digitsValue (l : List Glyph) : Nat := l.foldl (fun v g => 10 * v + g.val) 0

theorem digitsValue_concat (l : List Glyph) (g : Glyph) : digitsValue (l ++ [g]) = 10 * digitsValue l + g.val := by
  simp [digitsValue]

/-- A list of digits grows at its end, where the next digit is written. -/
theorem concat_induction {P : List Glyph → Prop} (nil : P []) (concat : ∀ l g, P l → P (l ++ [g])) (l : List Glyph) :
    P l := by
  rw [← List.reverse_reverse l]
  induction l.reverse with
  | nil => exact nil
  | cons g gs ih =>
    rw [List.reverse_cons]
    exact concat _ g ih

theorem digitsValue_lt {l : List Glyph} (h : ∀ g ∈ l, g.val < 10) : digitsValue l < 10 ^ l.length := by
  induction l using concat_induction with
  | nil => decide
  | concat l g ih =>
    have hl := ih fun x hx => h x (List.mem_append_left _ hx)
    have hg := h g (by simp)
    rw [digitsValue_concat, List.length_append, List.length_singleton, Nat.pow_succ]
    omega

/-- Digits without a leading zero write at least the power of ten of their length. -/
theorem digitsValue_pos {g : Glyph} {l : List Glyph} (hg : g.val ≠ 0) : 0 < digitsValue (g :: l) := by
  induction l using concat_induction with
  | nil =>
    simp only [digitsValue, List.foldl_cons, List.foldl_nil]
    omega
  | concat l x ih =>
    rw [← List.cons_append, digitsValue_concat]
    omega

theorem spells_concat {l : List Glyph} {g : Glyph} {n : Nat} (h : spells (l ++ [g]) n) :
    g.val = n % 10 ∧ digitsValue l = n / 10 ∧ (l = [] ↔ n < 10) ∧ (l ≠ [] → spells l (n / 10)) := by
  obtain ⟨-, hdigits, hvalue, hlead⟩ := h
  have hg := hdigits g (by simp)
  have hsum : 10 * digitsValue l + g.val = n := (digitsValue_concat l g).symm.trans hvalue
  have hdiv : digitsValue l = n / 10 := by omega
  have hnozero : ∀ x xs, l = x :: xs → x.val ≠ 0 := by
    rintro x xs rfl hx
    obtain ⟨-, hlen⟩ := hlead (by simp [Fin.ext_iff, hx])
    simp at hlen
  refine ⟨by omega, hdiv, ⟨fun hnil => ?_, fun hsmall => ?_⟩, fun hne => ?_⟩
  · rw [hnil] at hsum
    simp only [digitsValue, List.foldl_nil] at hsum
    omega
  · cases l with
    | nil => rfl
    | cons x xs =>
      have hpos := digitsValue_pos (l := xs) (hnozero x xs rfl)
      omega
  · refine ⟨hne, fun x hx => hdigits x (List.mem_append_left _ hx), hdiv, fun hhead => ?_⟩
    obtain ⟨x, xs, rfl⟩ := List.exists_cons_of_ne_nil hne
    have hx : x = 0 := by simpa using hhead
    exact absurd (by rw [hx]; rfl) (hnozero x xs rfl)

theorem digitGlyph_eq {g : Glyph} {n : Nat} (h : g.val = n % 10) : digitGlyph n = g := Fin.ext h.symm

/-- The digits are the number's only decimal writing. -/
theorem digitsOf_spells {fuel n : Nat} {l : List Glyph} (hn : n < 10 ^ (fuel + 1)) (h : spells l n) :
    digitsOf fuel n = l := by
  induction fuel generalizing n l with
  | zero =>
    obtain ⟨hne, -⟩ := id h
    obtain ⟨ds, g, rfl⟩ : ∃ ds g, l = ds ++ [g] := ⟨_, _, (List.dropLast_concat_getLast hne).symm⟩
    obtain ⟨hg, -, hsmall, -⟩ := spells_concat h
    obtain rfl := hsmall.mpr (by simpa using hn)
    rw [digitsOf, digitGlyph_eq hg]
    rfl
  | succ fuel ih =>
    obtain ⟨hne, -⟩ := id h
    obtain ⟨ds, g, rfl⟩ : ∃ ds g, l = ds ++ [g] := ⟨_, _, (List.dropLast_concat_getLast hne).symm⟩
    obtain ⟨hg, -, hsmall, hrest⟩ := spells_concat h
    rw [digitsOf, digitGlyph_eq hg]
    split
    next hlt =>
      obtain rfl := hsmall.mpr hlt
      rfl
    next hge =>
      have hds : ds ≠ [] := mt hsmall.mp hge
      rw [Nat.pow_succ] at hn
      rw [ih (by omega) (hrest hds)]

theorem digitsOf_long {fuel n k : Nat} (hk : k ≤ fuel) (hn : 10 ^ k ≤ n) : k < (digitsOf fuel n).length := by
  induction fuel generalizing n k with
  | zero =>
    obtain rfl : k = 0 := Nat.le_zero.mp hk
    exact Nat.one_pos
  | succ fuel ih =>
    cases k with
    | zero =>
      rw [digitsOf]
      split <;> simp
    | succ k =>
      rw [Nat.pow_succ] at hn
      have hlow : 1 ≤ 10 ^ k := Nat.one_le_pow _ _ (by decide)
      have hbig : ¬n < 10 := by omega
      have hrest := ih (k := k) (n := n / 10) (by omega) (by omega)
      rw [digitsOf, if_neg hbig, List.length_append, List.length_singleton]
      omega

/-- A field is at most eight glyphs wide, and a number that the part's eleven digits do not hold overflows it. -/
theorem digitsOf_spells_or_long {n : Nat} {l : List Glyph} (h : spells l n) :
    digitsOf 10 n = l ∨ 8 < (digitsOf 10 n).length ∧ 8 < l.length := by
  by_cases hn : n < 10 ^ 11
  · exact .inl (digitsOf_spells hn h)
  · obtain ⟨-, hdigits, hvalue, -⟩ := h
    refine .inr ⟨?_, ?_⟩
    · have hlong := digitsOf_long (fuel := 10) (k := 10) (n := n) (Nat.le_refl _) (by omega)
      omega
    · have hlt := digitsValue_lt hdigits
      rw [show digitsValue l = n from hvalue] at hlt
      refine Classical.byContradiction fun hshort => ?_
      have hpow : 10 ^ l.length ≤ 10 ^ 8 := Nat.pow_le_pow_right (by decide) (by omega)
      omega

/-! ### The glyphs of a field -/

theorem placed_eq (r : Route) {l : List Glyph} (h : ¬r.width < l.length) : placeGlyphs r.width r.align l = placed r l := by
  rw [placed, if_neg h]
  rfl

theorem placed_over (r : Route) {l : List Glyph} (h : r.width < l.length) :
    placed r l = List.replicate r.width overGlyph := if_pos h

theorem signGlyphs_eq (z : Int) : signGlyphs z = if z < 0 then [37] else [] := rfl

theorem numberGlyphs_over {r : Route} {z : Int} (h : r.width < (signGlyphs z ++ digitsOf 10 z.natAbs).length) :
    numberGlyphs r.width r.align r.fill z = List.replicate r.width overGlyph := if_pos h

theorem numberGlyphs_blank {r : Route} {z : Int} {digits : List Glyph} (hdigits : digitsOf 10 z.natAbs = digits)
    (h : r.fill = .blank ∨ r.width < (signGlyphs z ++ digits).length) :
    numberGlyphs r.width r.align r.fill z = placed r (signGlyphs z ++ digits) := by
  subst hdigits
  by_cases hover : r.width < (signGlyphs z ++ digitsOf 10 z.natAbs).length
  · rw [numberGlyphs_over hover, placed_over r hover]
  · unfold numberGlyphs
    rw [h.resolve_right hover]
    exact (if_neg hover).trans (placed_eq r hover)

theorem numberGlyphs_zero {r : Route} {z : Int} {digits : List Glyph} (hdigits : digitsOf 10 z.natAbs = digits)
    (hfill : r.fill = .zero) (h : (signGlyphs z ++ digits).length ≤ r.width) :
    numberGlyphs r.width r.align r.fill z
      = signGlyphs z ++ List.replicate (r.width - (signGlyphs z ++ digits).length) 0 ++ digits := by
  subst hdigits
  unfold numberGlyphs
  rw [hfill]
  exact if_neg (Nat.not_lt.mpr h)

theorem fields_areFilled : fieldsAreFilled := by
  intro s r hwidth
  refine ⟨fun hblank => ?_, fun l hglyphs => ?_, fun z digits hnumber hspells => ⟨fun h => ?_, fun hfill h => ?_⟩⟩
  · rw [State.fieldCells, hblank]
    rfl
  · rw [State.fieldCells, hglyphs]
    refine congrArg (List.map _) ?_
    by_cases hover : r.width < l.length
    · exact (if_pos hover).trans (placed_over r hover).symm
    · exact (if_neg hover).trans (placed_eq r hover)
  · rw [State.fieldCells, hnumber]
    refine congrArg (List.map _) ?_
    rcases digitsOf_spells_or_long hspells with hsame | ⟨hlong, hlong'⟩
    · exact numberGlyphs_blank hsame h
    · have hover : r.width < (signGlyphs z ++ digitsOf 10 z.natAbs).length := by
        rw [List.length_append]
        omega
      have hover' : r.width < (signGlyphs z ++ digits).length := by
        rw [List.length_append]
        omega
      exact (numberGlyphs_over hover).trans (placed_over r hover').symm
  · rw [State.fieldCells, hnumber]
    refine congrArg (List.map _) ?_
    rcases digitsOf_spells_or_long hspells with hsame | ⟨-, hlong⟩
    · exact numberGlyphs_zero hsame hfill h
    · rw [List.length_append] at h
      omega

/-- A field fills its width, whatever its source gives. -/
theorem fieldCells_length (s : State) (r : Route) : (s.fieldCells r).length = r.width := by
  have hplace : ∀ l : List Glyph, ¬r.width < l.length → (placeGlyphs r.width r.align l).length = r.width := by
    intro l h
    unfold placeGlyphs
    split <;> simp <;> omega
  rw [State.fieldCells, List.length_map]
  unfold valueGlyphs
  split
  next => exact List.length_replicate
  next z =>
    unfold numberGlyphs
    dsimp only
    split
    next => exact List.length_replicate
    next h =>
      split
      next => exact hplace _ h
      next =>
        simp only [List.length_append, List.length_replicate] at h ⊢
        omega
  next =>
    split
    next => exact List.length_replicate
    next h => exact hplace _ h

end Sys2Proof.Proofs

/-! PROOFS. What a panel cell shows: the lowest overlay that stands, else the lowest BASE route, else a steady space
(R33). With the routes and the fields it settles O54. -/

namespace Sys2Proof.Proofs
open Sys2Proof Sys2Proof.Machine

/-! ### The first route of a kind -/

theorem find?_heldRoutes {b : Board} {wanted : Route → Bool} {n : RouteId} {r : Route}
    (hr : look b.routes n = some r) (hwanted : wanted r = true)
    (hfirst : ∀ m q, m < n → look b.routes m = some q → wanted q = false) :
    (b.heldRoutes.map Prod.snd).find? wanted = some r := by
  have hlowest : (List.finRange 32).find?
      (fun m => ((look b.routes m).map fun q => (m, q)).any (wanted ∘ Prod.snd)) = some n := by
    refine List.find?_eq_some_iff_getElem.mpr ⟨by simpa [hr] using hwanted, n.val, by simp, by simp, fun j hj => ?_⟩
    rw [List.getElem_finRange]
    cases hq : look b.routes (Fin.cast (by simp) (⟨j, by simp; omega⟩ : Fin (List.finRange 32).length)) with
    | none => simp
    | some q => simpa using hfirst _ q (by exact hj) hq
  rw [List.find?_map, Board.heldRoutes, List.find?_filterMap, hlowest]
  simp [hr]

theorem find?_heldRoutes_none {b : Board} {wanted : Route → Bool}
    (h : ∀ m q, look b.routes m = some q → wanted q = false) :
    (b.heldRoutes.map Prod.snd).find? wanted = none := by
  refine List.find?_eq_none.mpr fun r hr => ?_
  obtain ⟨⟨m, q⟩, hmem, rfl⟩ := List.mem_map.mp hr
  simp [h m q (mem_heldRoutes.mp hmem)]

/-! ### The route that a cell shows -/

def overlayOver (s : State) (p : PanelId) (i : Nat) (r : Route) : Bool :=
  r.panel == p && (s.overlays r && r.covers i)

def baseUnder (p : PanelId) (i : Nat) (r : Route) : Bool :=
  r.panel == p && (r.layer == .base && r.covers i)

/-- The route that cell `i` of panel `p` shows: an overlay that stands before a BASE route (R33). -/
def shownAt (s : State) (p : PanelId) (i : Nat) : Option Route :=
  ((s.board.heldRoutes.map Prod.snd).find? (overlayOver s p i)).or
    ((s.board.heldRoutes.map Prod.snd).find? (baseUnder p i))

theorem find?_shownRoutes (s : State) (p : PanelId) (i : Nat) :
    ((s.shownRoutes p).find? fun r => r.route.covers i)
      = (shownAt s p i).map fun r => { route := r, cells := s.fieldCells r } := by
  rw [State.shownRoutes, List.find?_map, List.find?_append, List.find?_filter, List.find?_filter,
    List.find?_filter, List.find?_filter]
  simp only [Bool.decide_and, Bool.decide_eq_true]
  exact rfl

theorem fieldCells_covered {s : State} {r : Route} {i : Nat} (h : r.covers i = true) :
    ∃ cell, (s.fieldCells r)[i - r.first]? = some cell := by
  have hcovers := of_decide_eq_true h
  have hlt : i - r.first < (s.fieldCells r).length := by
    rw [fieldCells_length]
    omega
  exact ⟨_, List.getElem?_eq_getElem hlt⟩

theorem cellFrom_shown {s : State} {p : PanelId} {i : Nat} {r : Route} (hshown : shownAt s p i = some r)
    (hcovers : r.covers i = true) : some (cellFrom (s.shownRoutes p) i) = (s.fieldCells r)[i - r.first]? := by
  obtain ⟨cell, hcell⟩ := fieldCells_covered (s := s) hcovers
  rw [cellFrom, find?_shownRoutes, hshown, hcell]
  simp [hcell]

theorem cellFrom_blank {s : State} {p : PanelId} {i : Nat} (h : shownAt s p i = none) :
    cellFrom (s.shownRoutes p) i = blankCell := by
  rw [cellFrom, find?_shownRoutes, h]
  rfl

theorem boardImage_cell {s : State} {p : PanelId} {i : Nat} (hi : i < 32) :
    ((s.boardImage[p.val]?).bind fun row => row[i]?) = some (cellFrom (s.shownRoutes p) i) := by
  have hrow : s.boardImage[p.val]? = some (s.panelImage p) := by
    simp [State.boardImage]
  have hcell : i < Config.maxCells := hi
  rw [hrow, Option.bind_some, State.panelImage]
  simp [hcell]

/-! ### The routes in the terms of the statement -/

theorem overlayOver_iff {s : State} {p : PanelId} {i : Nat} {r : Route} :
    overlayOver s p i r = true ↔ coversCell r p i ∧ ∃ k, r.layer = .overlay k ∧ s.conditionHolds k = true := by
  have hoverlays : s.overlays r = true ↔ ∃ k, r.layer = .overlay k ∧ s.conditionHolds k = true := by
    unfold State.overlays
    split
    next h => simp [h]
    next k h => simp [h]
  simp only [overlayOver, Bool.and_eq_true, beq_iff_eq, hoverlays, Route.covers, decide_eq_true_eq, coversCell]
  exact ⟨fun ⟨hp, hk, hi⟩ => ⟨⟨hp, hi⟩, hk⟩, fun ⟨⟨hp, hi⟩, hk⟩ => ⟨hp, hk, hi⟩⟩

theorem baseUnder_iff {p : PanelId} {i : Nat} {r : Route} :
    baseUnder p i r = true ↔ coversCell r p i ∧ r.layer = .base := by
  simp only [baseUnder, Bool.and_eq_true, beq_iff_eq, Route.covers, decide_eq_true_eq, coversCell]
  exact ⟨fun ⟨hp, hk, hi⟩ => ⟨⟨hp, hi⟩, hk⟩, fun ⟨⟨hp, hi⟩, hk⟩ => ⟨hp, hk, hi⟩⟩

theorem covers_of_coversCell {r : Route} {p : PanelId} {i : Nat} (h : coversCell r p i) : r.covers i = true :=
  decide_eq_true h.2

theorem activeIn_iff (s : State) (p q : Phase) :
    s.activeIn p q = true ↔ ∃ c, s.engine.active = some c ∧ (c.phase = p ∨ c.phase = q) := by
  unfold State.activeIn
  split
  next c h => simp [h]
  next h => simp [h]

theorem holding_iff (s : State) : s.holding = true ↔ ∃ period last, s.silence = .holding period last := by
  unfold State.holding
  split
  next period last h => simp [h]
  next h => simp [h]
  next h => simp [h]

theorem lockHeld_iff_held (s : State) :
    s.lockHeld = true ↔ ∃ time snapshot, s.scores.lock = .held time snapshot := by
  unfold State.lockHeld
  split <;> simp [*]

theorem image_showsTheRoutes : imageShowsTheRoutes := by
  intro s p i hi
  have hnoOverlay : (∀ m q, ¬(s.route m = some q ∧ coversCell q p i
      ∧ ∃ k, q.layer = .overlay k ∧ s.conditionHolds k = true)) →
      (s.board.heldRoutes.map Prod.snd).find? (overlayOver s p i) = none := fun hnone =>
    find?_heldRoutes_none fun m q hq => Bool.eq_false_iff.mpr fun h => hnone m q ⟨hq, overlayOver_iff.mp h⟩
  dsimp only
  rw [boardImage_cell hi]
  refine ⟨fun n r ⟨hr, hcovers, hstands⟩ hfirst => ?_, fun n r ⟨hr, hcovers, hbase⟩ hnone hfirst => ?_,
    fun hnone => ?_, holding_iff s, ?_, activeIn_iff s .closed .revealed, lockHeld_iff_held s⟩
  · have hfind := find?_heldRoutes (wanted := overlayOver s p i) hr (overlayOver_iff.mpr ⟨hcovers, hstands⟩)
      fun m q hm hq => Bool.eq_false_iff.mpr fun h => hfirst m q hm ⟨hq, overlayOver_iff.mp h⟩
    exact cellFrom_shown (by rw [shownAt, hfind]; rfl) (covers_of_coversCell hcovers)
  · have hfind := find?_heldRoutes (wanted := baseUnder p i) hr (baseUnder_iff.mpr ⟨hcovers, hbase⟩)
      fun m q hm hq => Bool.eq_false_iff.mpr fun h => hfirst m q hm ⟨hq, baseUnder_iff.mp h⟩
    exact cellFrom_shown (by rw [shownAt, hnoOverlay hnone, hfind]; rfl) (covers_of_coversCell hcovers)
  · have hnoBase := find?_heldRoutes_none (b := s.board) (wanted := baseUnder p i)
      fun m q hq => Bool.eq_false_iff.mpr fun h => (hnone m q).2 ⟨hq, baseUnder_iff.mp h⟩
    rw [cellFrom_blank (by rw [shownAt, hnoOverlay fun m q => (hnone m q).1, hnoBase]; rfl)]
    rfl
  · exact (activeIn_iff s .floor .floor).trans (by simp only [or_self])

/-- Settles O54: the route table, what the sources give, the glyphs of a field, and the image. -/
theorem routesAreSetAndCleared : Obligations.RoutesAreSetAndCleared :=
  ⟨routes_arePlacedAndCleared, team_sourcesGive, round_sourcesGive, fields_areFilled, image_showsTheRoutes⟩

end Sys2Proof.Proofs

/-! PROOFS. The cycles of the desk line: how they start (O56), and what a slot without a reply does (O57). -/

namespace Sys2Proof.Proofs
open Sys2Proof Sys2Proof.Machine

/-! ### The start of a cycle -/

theorem roamDue_iff (d : DeskLine) :
    d.roamDue = true ↔ d.speed = .roam ∧ (d.stage = .atStart ∨ (d.stage = .finished ∧ d.cycleKind = .roam)) := by
  unfold DeskLine.roamDue
  split <;> simp_all

theorem startRoamCycle_unchangedBut (s : State) : unchangedBut [.desk] s (startRoamCycle s) := by
  intro b hb
  cases b <;> simp [Block.same] at hb ⊢

theorem startCycle_unchangedBut (k : CycleKind) (s : State) : unchangedBut [.desk] s (startCycle k s) := by
  intro b hb
  cases b <;> simp [Block.same] at hb ⊢

theorem happens_roamCycle {i : Instr} {s : State} (hi : effectOf i s = startRoamCycle s) (hquiet : s.noRequest) :
    happens i s [.desk] fun t => roamCycleBegun s t :=
  happens_writes hi (by simpa [State.noRequest] using hquiet) (startRoamCycle_unchangedBut s) (startRoamCycle_begun s)

/-- Settles O56: a ROAM cycle and a SPRINT cycle start when they are due, and at no other time. -/
theorem cyclesStart : Obligations.CyclesStart := by
  intro s hquiet
  refine ⟨fun hspeed hstage => ?_, fun hspeed hstage => ?_, fun hnot => ?_, fun hnot => ?_⟩
  · exact happens_roamCycle (i := .roamCycleStart) (if_pos ((roamDue_iff _).mpr ⟨hspeed, hstage⟩)) hquiet
  · refine happens_writes (i := .sprintCycleStart) (if_pos ⟨hspeed, hstage⟩) (by simpa [State.noRequest] using hquiet)
      (startCycle_unchangedBut .sprint s) ?_
    obtain ⟨hkind, hpolls⟩ := startCycle_goesOn .sprint s
    exact ⟨hkind, by simpa using hspeed, by simp, by simp, by simp, by simp, hpolls⟩
  · refine exec_quiet (i := .roamCycleStart) (if_neg fun hdue => ?_) hquiet
    obtain ⟨hspeed, hstage⟩ := (roamDue_iff _).mp hdue
    rcases hnot with h | ⟨p, rest, h⟩ | ⟨p, h⟩ | ⟨p, h⟩ | ⟨h, hkind⟩
    · rw [hspeed] at h
      cases h
    all_goals simp_all
  · refine exec_quiet (i := .sprintCycleStart) (if_neg fun ⟨hspeed, hstage⟩ => ?_) hquiet
    rcases hnot with h | h
    · rw [hspeed] at h
      cases h
    · exact h hstage

/-! ### The slot that closes -/

theorem afterPoll_advances {s u : State} {p : Poll} (hopen : s.desk.stage.openPoll = some p)
    (hpointer : u.desk.pointer = s.desk.pointer) : cycleAdvances s (afterPoll s.desk.stage u) := by
  unfold cycleAdvances
  cases hstage : s.desk.stage with
  | polling q rest => exact pollsGoOn_congr hpointer (sendNext_goesOn rest u)
  | probing q => exact ⟨rfl, hpointer⟩
  | atStart => simp [hstage, CycleStage.openPoll] at hopen
  | finished => simp [hstage, CycleStage.openPoll] at hopen
  | draining q => simp [hstage, CycleStage.openPoll] at hopen

theorem openPoll_draining {s : State} {p : Poll} (h : s.desk.stage = .draining p) : s.desk.stage.openPoll = none := by
  rw [h]
  rfl

theorem openPoll_of_pollOnLine {x : CycleStage} (h : x.pollOnLine = none) : x.openPoll = none := by
  cases x <;> simp_all [CycleStage.pollOnLine, CycleStage.openPoll]

theorem pollMissed_open {s : State} {p : Poll} (h : s.desk.stage.openPoll = some p) :
    pollMissed s = afterPoll s.desk.stage (takeMiss p.address s) := by
  simp only [pollMissed, h]

theorem pollMissed_closed {s : State} (h : s.desk.stage.openPoll = none) : pollMissed s = abandonedSlotCloses s := by
  simp only [pollMissed, h]

theorem replyArrives_bad {s : State} {p : Poll} {r : PadReply} (h : s.desk.stage.openPoll = some p)
    (hbad : r.checkGood = false ∨ r.address.toNat ≠ p.address.val) : replyArrives r s = pollMissed s := by
  have hnot : ¬(r.checkGood = true ∧ r.address.toNat = p.address.val) := by
    rintro ⟨hgood, haddress⟩
    exact hbad.elim (fun h => by simp [hgood] at h) fun h => h haddress
  simp only [replyArrives, pollMissed, h]
  exact if_neg hnot

theorem replyArrives_closed {s : State} (r : PadReply) (h : s.desk.stage.openPoll = none) :
    replyArrives r s = pollMissed s := by
  simp only [replyArrives, pollMissed, h]

theorem abandonedSlotCloses_draining {s : State} {p : Poll} (h : s.desk.stage = .draining p) :
    abandonedSlotCloses s = startRoamCycle s := by
  simp only [abandonedSlotCloses, h]

theorem abandonedSlotCloses_left {s : State} (h : s.desk.stage.pollOnLine = none) : abandonedSlotCloses s = s := by
  unfold abandonedSlotCloses
  split
  next p hstage => simp [hstage, CycleStage.pollOnLine] at h
  all_goals rfl

/-! ### A slot without a reply -/

theorem takeMiss_absent {a : PadAddr} {s : State} (h : (s.pad a).presence ≠ .present) : takeMiss a s = s := if_neg h

theorem takeMiss_counted {a : PadAddr} {s : State} (h : (s.pad a).presence = .present) (hfew : (s.pad a).misses < 2) :
    takeMiss a s = s.setPad a { s.pad a with misses := (s.pad a).misses + 1 } := by
  have hstays : ¬Config.missesToLose ≤ (s.pad a).misses + 1 := by
    simp only [Config.missesToLose]
    omega
  simp only [takeMiss, h, if_true, if_neg hstays]

theorem takeMiss_lost {a : PadAddr} {s : State} (h : (s.pad a).presence = .present) (hmany : 2 ≤ (s.pad a).misses) :
    takeMiss a s = losePad a s := by
  have hlost : Config.missesToLose ≤ (s.pad a).misses + 1 := by
    simp only [Config.missesToLose]
    omega
  simp only [takeMiss, h, if_true, if_pos hlost]

theorem pad_joinPadChanged (a b : PadAddr) (s : State) : (joinPadChanged a s).pad b = s.pad b := by
  simp [State.pad]

theorem pad_takeMiss_other {a b : PadAddr} (s : State) (h : b ≠ a) : (takeMiss a s).pad b = s.pad b := by
  have hne : a ≠ b := Ne.symm h
  unfold takeMiss
  dsimp only
  split
  · split
    · rw [losePad, pad_joinPadChanged, pad_setPad, if_neg hne]
    · rw [pad_setPad, if_neg hne]
  · rfl

theorem pad_afterPoll (stage : CycleStage) (s : State) (a : PadAddr) : (afterPoll stage s).pad a = s.pad a := by
  simp [State.pad]

theorem happens_slotMissed {s : State} {p : Poll} {i : Instr}
    (hi : effectOf i s = afterPoll s.desk.stage (takeMiss p.address s))
    (hquiet : s.noRequest) (hopen : s.desk.stage.openPoll = some p) :
    happens i s [.pads, .desk, .notices] fun t =>
      t = afterPoll s.desk.stage (takeMiss p.address s) ∧ cycleAdvances s t :=
  happens_writes hi (by simpa [State.noRequest] using hquiet) (fun b hb => by cases b <;> simp [Block.same] at hb ⊢)
    ⟨rfl, afterPoll_advances hopen (by simp)⟩

theorem losePad_pad (a : PadAddr) (s : State) :
    (losePad a s).pad a = { s.pad a with presence := .lost, misses := 3, candidate := none } := by
  rw [losePad, pad_joinPadChanged, pad_setPad, if_pos rfl]
  rfl

theorem missed_values (s : State) (p : Poll) :
    let t := afterPoll s.desk.stage (takeMiss p.address s)
    (∀ b, b ≠ p.address → t.pad b = s.pad b)
      ∧ ((s.pad p.address).presence ≠ .present → t.pad p.address = s.pad p.address
          ∧ t.desk.changed = s.desk.changed ∧ t.notices = s.notices)
      ∧ ((s.pad p.address).presence = .present → (s.pad p.address).misses < 2 →
          t.pad p.address = { s.pad p.address with misses := (s.pad p.address).misses + 1 }
          ∧ t.desk.changed = s.desk.changed ∧ t.notices = s.notices)
      ∧ ((s.pad p.address).presence = .present → 2 ≤ (s.pad p.address).misses →
          t.pad p.address = { s.pad p.address with presence := .lost, misses := 3, candidate := none }
          ∧ t.desk.changed = insertAsc p.address s.desk.changed
          ∧ t.notices = s.notices.withPending [.pad]) := by
  refine ⟨fun b hb => ?_, fun habsent => ?_, fun hpresent hfew => ?_, fun hpresent hmany => ?_⟩
  · rw [pad_afterPoll, pad_takeMiss_other s hb]
  · rw [pad_afterPoll, takeMiss_absent habsent]
    simp
  · rw [pad_afterPoll, takeMiss_counted hpresent hfew]
    simp
  · rw [pad_afterPoll, takeMiss_lost hpresent hmany]
    refine ⟨losePad_pad _ _, ?_, ?_⟩
    · simp [losePad, joinPadChanged, setPending]
    · simp [losePad, joinPadChanged, setPending, NoticeUnit.withPending]

/-- Settles O57: a missed reply is counted, and the third in a row loses the pad. -/
theorem missesAreCounted : Obligations.MissesAreCounted := by
  intro s hquiet
  refine ⟨fun p hopen => ?_, fun p r hopen hbad => ?_, fun p hdraining => ⟨?_, fun r => ?_⟩, fun hnone => ⟨?_, fun r => ?_⟩⟩
  · obtain ⟨t, hexec, hframe, ht, hadvances⟩ :=
      happens_slotMissed (i := .pollMiss) (pollMissed_open hopen) hquiet hopen
    obtain ⟨hothers, habsent, hcounted, hlost⟩ := missed_values s p
    subst ht
    exact ⟨_, hexec, hframe, hothers, habsent, hcounted, hlost, hadvances, by simp, by simp, by simp, by simp, by simp⟩
  · exact congrArg finish (replyArrives_bad hopen hbad)
  · exact happens_roamCycle (i := .pollMiss)
      ((pollMissed_closed (openPoll_draining hdraining)).trans (abandonedSlotCloses_draining hdraining)) hquiet
  · exact congrArg finish (replyArrives_closed r (openPoll_draining hdraining))
  · exact exec_quiet (i := .pollMiss)
      ((pollMissed_closed (openPoll_of_pollOnLine hnone)).trans (abandonedSlotCloses_left hnone)) hquiet
  · refine exec_quiet (i := .pollReplyTaken r) ((replyArrives_closed r (openPoll_of_pollOnLine hnone)).trans
      ((pollMissed_closed (openPoll_of_pollOnLine hnone)).trans (abandonedSlotCloses_left hnone))) hquiet

end Sys2Proof.Proofs

/-! PROOFS. How a cycle of the desk line ends: the need for SPRINT is read after a SPRINT cycle, and a switch cycle
goes on until all pads have echoed (R44 to R53, O60). -/

namespace Sys2Proof.Proofs
open Sys2Proof Sys2Proof.Machine

/-! ### Events that may ask for a publish -/

/-- What an event leaves, whether or not it asks for a publish. -/
theorem happens_taken {i : Instr} {s u : State} {touched : List Block} {effect : State → Prop}
    (hi : effectOf i s = u) (hframe : unchangedBut touched s u) (hrenders : .board ∈ touched ∧ .notices ∈ touched)
    (heffect : effect (takeRequest u)) : happens i s touched effect := by
  refine ⟨takeRequest u, by rw [exec_eq_next, hi], fun b hb => ?_, heffect⟩
  have hframed : b.same s u := hframe b hb
  have hlast : b.same u (takeRequest u) := takeRequest_same u b (fun h => hb (h ▸ hrenders.1))
    (fun h => hb (h ▸ hrenders.2))
  cases b <;> exact hlast.trans hframed

/-- A publish that is taken writes the board and the notices alone. -/
theorem takeRequest_eq (u : State) :
    takeRequest u = { u with board := (takeRequest u).board, notices := (takeRequest u).notices } := by
  have hframe := takeRequest_frame u
  generalize takeRequest u = t at hframe ⊢
  cases t
  simp_all

theorem desk_takeRequest (u : State) : (takeRequest u).desk = u.desk := by simp

theorem pad_takeRequest (u : State) (a : PadAddr) : (takeRequest u).pad a = u.pad a := by simp [State.pad]

theorem pollsGoOn_takeRequest {rest : List PadAddr} {s u : State} (h : pollsGoOn rest s u) :
    pollsGoOn rest s (takeRequest u) := by
  rw [takeRequest_eq]
  exact h

/-! ### Marking pads -/

theorem mem_insertAsc {n : Nat} (x y : Fin n) (l : List (Fin n)) : y ∈ insertAsc x l ↔ y = x ∨ y ∈ l := by
  induction l with
  | nil => simp [insertAsc]
  | cons z zs ih =>
    unfold insertAsc
    split
    · simp
    · split
      next h => simp [h]
      next =>
        rw [List.mem_cons, ih, List.mem_cons]
        exact or_left_comm

theorem changed_joinPadChanged (a : PadAddr) (s : State) :
    (joinPadChanged a s).desk.changed = insertAsc a s.desk.changed := rfl

theorem waiting_joinPadChanged (a : PadAddr) (s : State) :
    (joinPadChanged a s).notices.waiting.get .pad = true := rfl

/-- What marking or clearing a set of pads leaves: their `lagging` is `flag a`, and the pads of `joined` joined the
changed pads. -/
structure LaggingWritten (joined : PadAddr → Prop) (flag : PadAddr → Bool) (s t : State) : Prop where
  pad : ∀ a, t.pad a = { s.pad a with lagging := flag a }
  changed : ∀ a, a ∈ t.desk.changed ↔ joined a ∨ a ∈ s.desk.changed
  waiting : (∃ a, joined a) → t.notices.waiting.get .pad = true

theorem markLagging_written (a : PadAddr) (s : State) :
    LaggingWritten (· = a) (fun b => decide (b = a) || (s.pad b).lagging) s (markLagging a s) where
  pad b := by
    rw [markLagging, pad_joinPadChanged, pad_setPad]
    by_cases h : b = a
    · rw [if_pos h.symm, h]
      simp
    · rw [if_neg (Ne.symm h)]
      simp [h]
  changed b := by
    rw [markLagging, changed_joinPadChanged, mem_insertAsc]
    simp
  waiting _ := waiting_joinPadChanged _ _

theorem markAllLagging_written (l : List PadAddr) (s : State) :
    LaggingWritten (· ∈ l) (fun a => decide (a ∈ l) || (s.pad a).lagging) s (markAllLagging l s)
      ∧ (s.notices.waiting.get .pad = true → (markAllLagging l s).notices.waiting.get .pad = true) := by
  induction l generalizing s with
  | nil => exact ⟨⟨by simp [markAllLagging], by simp [markAllLagging], by simp⟩, fun h => h⟩
  | cons a l ih =>
    obtain ⟨⟨hpad, hchanged, -⟩, hmono⟩ := ih (markLagging a s)
    obtain ⟨hpad₁, hchanged₁, hwaiting₁⟩ := markLagging_written a s
    have hwaits : (markAllLagging (a :: l) s).notices.waiting.get .pad = true := hmono (hwaiting₁ ⟨a, rfl⟩)
    refine ⟨⟨fun b => (hpad b).trans ?_, fun b => (hchanged b).trans ?_, fun _ => hwaits⟩, fun _ => hwaits⟩
    · rw [hpad₁]
      by_cases h : b = a <;> simp [h]
    · rw [hchanged₁, List.mem_cons, or_assoc]
      exact or_left_comm

theorem clearLagging_written (a : PadAddr) (s : State) :
    LaggingWritten (fun b => b = a ∧ (s.pad b).lagging = true) (fun b => !decide (b = a) && (s.pad b).lagging) s
      (clearLagging a s) := by
  unfold clearLagging
  split
  next hlags =>
    refine ⟨fun b => ?_, fun b => ?_, fun _ => waiting_joinPadChanged _ _⟩
    · rw [pad_joinPadChanged, pad_setPad]
      by_cases h : b = a
      · rw [if_pos h.symm, h]
        simp
      · rw [if_neg (Ne.symm h)]
        simp [h]
    · rw [changed_joinPadChanged, mem_insertAsc]
      refine or_congr ⟨fun h => ⟨h, h ▸ hlags⟩, And.left⟩ Iff.rfl
  next hkeeps =>
    have hnone : ∀ b, ¬(b = a ∧ (s.pad b).lagging = true) := fun b ⟨hb, h⟩ => hkeeps (hb ▸ h)
    refine ⟨fun b => ?_, fun b => by simp only [hnone b, false_or], fun ⟨b, hb⟩ => absurd hb (hnone b)⟩
    have hflag : (!decide (b = a) && (s.pad b).lagging) = (s.pad b).lagging := by
      by_cases h : b = a
      · simp [h, hkeeps]
      · simp [h]
    rw [hflag]

theorem clearLagging_waiting (a : PadAddr) {s : State} (h : s.notices.waiting.get .pad = true) :
    (clearLagging a s).notices.waiting.get .pad = true := by
  unfold clearLagging
  split
  · exact waiting_joinPadChanged _ _
  · exact h

theorem clearAllLagging_written (l : List PadAddr) (s : State) :
    LaggingWritten (fun a => a ∈ l ∧ (s.pad a).lagging = true) (fun a => !decide (a ∈ l) && (s.pad a).lagging) s
        (clearAllLagging l s)
      ∧ (s.notices.waiting.get .pad = true → (clearAllLagging l s).notices.waiting.get .pad = true) := by
  induction l generalizing s with
  | nil => exact ⟨⟨by simp [clearAllLagging], by simp [clearAllLagging], by simp⟩, fun h => h⟩
  | cons a l ih =>
    obtain ⟨⟨hpad, hchanged, hwaiting⟩, hmono⟩ := ih (clearLagging a s)
    obtain ⟨hpad₁, hchanged₁, hwaiting₁⟩ := clearLagging_written a s
    refine ⟨⟨fun b => (hpad b).trans ?_, fun b => (hchanged b).trans ?_, fun ⟨b, hmem, hlags⟩ => ?_⟩,
      fun h => hmono (clearLagging_waiting a h)⟩
    · rw [hpad₁]
      by_cases h : b = a <;> simp [h]
    · rw [hchanged₁, hpad₁, List.mem_cons]
      by_cases h : b = a <;> simp [h]
    · by_cases h : b = a
      · exact hmono (hwaiting₁ ⟨b, h, hlags⟩)
      · exact hwaiting ⟨b, (List.mem_cons.mp hmem).resolve_left h, by rw [hpad₁]; simp [h, hlags]⟩

/-! ### The need for SPRINT, read after a SPRINT cycle -/

theorem roamCycle_withoutNeed {s : State} (h : s.sprintNeeded = false) :
    (startRoamCycle s).desk.cycleKind = .roam ∧ (startRoamCycle s).desk.switch = none
      ∧ pollsGoOn (s.padsWith .present) s (startRoamCycle s) := by
  obtain ⟨hkind, -, -, -, -, hpolls⟩ := startRoamCycle_begun s
  rw [if_neg (by simp [h])] at hkind
  exact ⟨hkind.1, hkind.2, hpolls⟩

/-- What `returnToRoam` leaves: no pad lags, and a ROAM cycle has begun. -/
theorem returnToRoam_begun {s : State} (h : s.sprintNeeded = false) :
    (returnToRoam s).desk.speed = .roam ∧ (returnToRoam s).desk.cycleKind = .roam ∧ (returnToRoam s).desk.switch = none
      ∧ LaggingWritten (fun a => (s.pad a).lagging = true) (fun _ => false) s (returnToRoam s)
      ∧ pollsGoOn (s.padsWith .present) s (returnToRoam s) := by
  obtain ⟨⟨hpad, hchanged, hwaiting⟩, -⟩ :=
    clearAllLagging_written (List.finRange 64) { s with desk := { s.desk with speed := .roam } }
  obtain ⟨u, hu⟩ : ∃ u, u = clearAllLagging (List.finRange 64) { s with desk := { s.desk with speed := .roam } } :=
    ⟨_, rfl⟩
  rw [← hu] at hpad hchanged hwaiting
  have hneed : u.sprintNeeded = false := by
    rw [sprintNeeded_eq] at h ⊢
    simpa [hu] using h
  obtain ⟨hkind, hswitch, hpolls⟩ := roamCycle_withoutNeed hneed
  have hpads : u.padsWith .present = s.padsWith .present := padsWith_of_presence (fun a => by
    rw [hpad]
    rfl) _
  have hpointer : u.desk.pointer = s.desk.pointer := by simp [hu]
  have hreturn : returnToRoam s = startRoamCycle u := by rw [returnToRoam, hu]
  rw [hreturn]
  refine ⟨by simp [hu], hkind, hswitch, ⟨fun a => ?_, fun a => ?_, fun ⟨a, ha⟩ => ?_⟩, ?_⟩
  · have hsame : (startRoamCycle u).pad a = u.pad a := by simp [State.pad]
    rw [hsame, hpad]
    simp [State.pad]
  · have hsame : (startRoamCycle u).desk.changed = u.desk.changed := by simp
    rw [hsame, hchanged]
    simp [State.pad]
  · have hsame : (startRoamCycle u).notices = u.notices := by simp
    rw [hsame]
    exact hwaiting ⟨a, List.mem_finRange a, ha⟩
  · rw [← hpads]
    exact pollsGoOn_congr hpointer hpolls

theorem needIsRead_readNeed {s w : State} (hneeds : w.desk.setting = s.desk.setting) (hspeed : w.desk.speed = .sprint)
    (hchanged : w.desk.changed = s.desk.changed) (hpointer : w.desk.pointer = s.desk.pointer)
    (hroster : w.roster = s.roster) : needIsRead s (takeRequest (readNeed w)) := by
  have hengine : (takeRequest (readNeed w)).engine = w.engine := by simp
  unfold needIsRead
  rw [hengine, ← hneeds, ← sprintNeeded_eq]
  by_cases hneed : w.sprintNeeded = true
  · rw [if_pos hneed, takeRequest_eq, readNeed, if_pos hneed]
    exact ⟨rfl, hspeed, hroster, hchanged⟩
  · rw [if_neg hneed, readNeed, if_neg hneed]
    have hpads : w.padsWith .present = s.padsWith .present := padsWith_congr _ _ _ hroster
    obtain ⟨hspeed', hkind, hswitch, ⟨hpad, hjoined, hwaiting⟩, hpolls⟩ :=
      returnToRoam_begun (Bool.eq_false_iff.mpr hneed)
    have hsame : ∀ a, w.pad a = s.pad a := fun a => by rw [State.pad, hroster, ← State.pad]
    simp only [hsame, hchanged, hpads] at hpad hjoined hwaiting hpolls
    rw [desk_takeRequest]
    exact ⟨hspeed', hkind, hswitch, fun a => (pad_takeRequest _ a).trans (hpad a),
      fun a ha => ⟨(hjoined a).mpr (.inl ha), takeRequest_get _ _ (hwaiting ⟨a, ha⟩)⟩,
      pollsGoOn_takeRequest (pollsGoOn_congr hpointer hpolls)⟩

end Sys2Proof.Proofs

/-! PROOFS. The settle test and the closing test at the end of a SPRINT cycle, and the end of a switch cycle (O60). -/

namespace Sys2Proof.Proofs
open Sys2Proof Sys2Proof.Machine

/-! ### The tests of a completed SPRINT cycle -/

theorem settleTest_otherPhase {s : State} (h : ∀ c, s.engine.active = some c → c.phase ≠ .settling) :
    settleTest s = s := by
  unfold settleTest
  split
  next => rfl
  next c hc =>
    split
    next hphase _ => exact absurd hphase (h c hc)
    next => rfl

theorem settleTest_held {s : State} {c : Context} (hc : s.engine.active = some c) (hheld : c.held = true) :
    settleTest s = s := by
  simp only [settleTest, hc, hheld, Bool.not_true, Bool.and_false, Bool.false_eq_true, if_false]
  split <;> rfl

theorem closingTest_otherPhase {s : State} (h : ∀ c, s.engine.active = some c → c.phase ≠ .closing) :
    closingTest s = s := by
  unfold closingTest
  split
  next => rfl
  next c hc =>
    split
    next hphase _ => exact absurd hphase (h c hc)
    next => rfl

theorem closingTest_closing {s : State} {c : Context} {b : Ballot} {n : ClockValue} {cause : EndCause}
    (hc : s.engine.active = some c) (hphase : c.phase = .closing) (hballot : c.ballot = some b)
    (hcount : b.startCount = some n) (hcause : b.closeCause = some cause) :
    closingTest s = if s.span ≤ s.cyclesSince n then closeRound { outcome := .timeUp, cause := cause } c s else s := by
  simp only [closingTest, hc, hphase, hballot, hcount, hcause]

theorem cycleCompleted_left {s : State} (h : ∀ c, s.engine.active = some c → c.phase ≠ .settling ∧ c.phase ≠ .closing) :
    cycleCompleted s = s := by
  rw [cycleCompleted, settleTest_otherPhase fun c hc => (h c hc).1, closingTest_otherPhase fun c hc => (h c hc).2]

/-- The claim at the head takes the floor at the end of the cycle in which it settles. -/
theorem cycleCompleted_grants {s : State} {c : Context} {head : Claim} {rest : List Claim}
    (hc : s.engine.active = some c) (hphase : c.phase = .settling) (hqueue : c.queue = head :: rest)
    (hheld : c.held = false) (hsettled : hasSettled s head) :
    (cycleCompleted s).engine = { active := some (c.granted s.clock head rest)
                                  tiePointer := tieAfterGrant s.engine.tiePointer head rest }
      ∧ (cycleCompleted s).notices = s.notices.withPending [.floor, .round] := by
  have hround : SameRound s s := .refl s
  have hgrant : settleTest s = signalRoundChange (grantFloor head rest c s) :=
    settleTest_grants hc hphase hqueue hheld ((settled_iff hround head).mpr hsettled)
  rw [grantFloor_eq hround, signalRoundChange_eq] at hgrant
  have hcycle : cycleCompleted s = settleTest s := closingTest_otherPhase fun d hd => by
    rw [hgrant] at hd
    obtain rfl := Option.some.inj hd
    simp
  rw [hcycle, hgrant]
  exact ⟨rfl, withPending_append _ _ _⟩

theorem cycleCompleted_waits {s : State} {c : Context} {head : Claim} {rest : List Claim}
    (hc : s.engine.active = some c) (hphase : c.phase = .settling) (hqueue : c.queue = head :: rest)
    (h : ¬hasSettled s head ∨ c.held = true) : cycleCompleted s = s := by
  have hsettle : settleTest s = s := by
    rcases h with hsettled | hheld
    · exact settleTest_waits hc hphase hqueue (Bool.eq_false_iff.mpr (mt (settled_iff (.refl s) head).mp hsettled))
    · exact settleTest_held hc hheld
  rw [cycleCompleted, hsettle]
  refine closingTest_otherPhase fun d hd => ?_
  obtain rfl := Option.some.inj (hc.symm.trans hd)
  simp [hphase]

theorem cycleCompleted_closing {s : State} {c : Context} {b : Ballot} {n : ClockValue} {cause : EndCause}
    (hc : s.engine.active = some c) (hphase : c.phase = .closing) (hballot : c.ballot = some b)
    (hcount : b.startCount = some n) (hcause : b.closeCause = some cause) :
    (s.debounce + 1 ≤ (s.desk.sprintCount - n).toNat →
        (∃ d, closedAs s ⟨.timeUp, cause⟩ c d
          ∧ (cycleCompleted s).engine = { active := some d, tiePointer := s.engine.tiePointer })
        ∧ (cycleCompleted s).notices = s.notices.withPending [.round])
      ∧ ((s.desk.sprintCount - n).toNat < s.debounce + 1 → cycleCompleted s = s) := by
  have hsettle : settleTest s = s := settleTest_otherPhase fun d hd => by
    obtain rfl := Option.some.inj (hc.symm.trans hd)
    simp [hphase]
  have hcycle := closingTest_closing hc hphase hballot hcount hcause
  rw [cycleCompleted, hsettle, hcycle]
  refine ⟨fun hspan => ?_, fun hspan => if_neg (Nat.not_le.mpr hspan)⟩
  have hover : s.span ≤ s.cyclesSince n := hspan
  rw [if_pos hover]
  refine ⟨⟨_, closedAs_closed s _ c, ?_⟩, closeRound_notices _ c s⟩
  rw [closeRound, signalRoundChange_eq]
  rfl

/-! ### The end of a SPRINT cycle -/

theorem engine_readNeed (s : State) : (readNeed s).engine = s.engine := by simp

theorem board_readNeed (s : State) : (readNeed s).board = s.board := by simp

theorem waiting_clearAllLagging (l : List PadAddr) (k : NoticeKind) {s : State} (h : s.notices.waiting.get k = true) :
    (clearAllLagging l s).notices.waiting.get k = true := by
  induction l generalizing s with
  | nil => exact h
  | cons a l ih =>
    refine ih ?_
    unfold clearLagging
    split
    · rw [joinPadChanged, setPending_eq]
      exact (withPending_get _ _ _).trans (by simp [State.setPad, h])
    · exact h

/-- What was pending stays pending when the need is read. -/
theorem waiting_readNeed {s : State} {k : NoticeKind} (h : s.notices.waiting.get k = true) :
    (readNeed s).notices.waiting.get k = true := by
  unfold readNeed
  split
  · exact h
  · have hroam : (returnToRoam s).notices
        = (clearAllLagging (List.finRange 64) { s with desk := { s.desk with speed := .roam } }).notices := by
      rw [returnToRoam]
      simp
    rw [hroam]
    exact waiting_clearAllLagging _ _ h

theorem waiting_of_cycle {s u : State} {k : NoticeKind} {ks : List NoticeKind}
    (h : (cycleCompleted u).notices = s.notices.withPending ks) (hk : k ∈ ks) :
    (takeRequest (readNeed (cycleCompleted u))).notices.waiting.get k = true := by
  refine takeRequest_get _ _ (waiting_readNeed ?_)
  rw [h, withPending_get, decide_eq_true hk, Bool.true_or]

theorem engine_of_cycle (u : State) : (takeRequest (readNeed (cycleCompleted u))).engine = (cycleCompleted u).engine := by
  simp

theorem board_of_cycle {s u : State} (hquiet : s.noRequest) (hboard : u.board = s.board) (h : cycleCompleted u = u) :
    (takeRequest (readNeed (cycleCompleted u))).board = s.board := by
  have hleft : (readNeed (cycleCompleted u)).board = s.board := by rw [h, board_readNeed, hboard]
  rw [takeRequest_quiet (by rw [hleft]; exact hquiet), hleft]

theorem sprintCycle_ends : sprintCycleEnds := by
  intro s hquiet
  refine ⟨fun hspeed hkind hstage => ?_, fun hnot => ?_⟩
  · have heffect : effectOf .sprintCycleEnd s = readNeed (cycleCompleted (raiseSprintCount s)) :=
      if_pos ⟨hspeed, hkind, hstage⟩
    refine happens_taken heffect (fun b hb => by cases b <;> simp [Block.same, raiseSprintCount] at hb ⊢) (by decide)
      ⟨by simp [raiseSprintCount], by simp [raiseSprintCount],
        needIsRead_readNeed (by simp [raiseSprintCount]) (by simpa [raiseSprintCount] using hspeed)
          (by simp [raiseSprintCount]) (by simp [raiseSprintCount]) (by simp [raiseSprintCount]),
        fun hphases => ?_, fun c head rest hc hphase hqueue => ⟨fun hsettled hheld => ?_, fun hwaits => ?_⟩,
        fun c b n cause hc hphase hballot hcount hcause => ⟨fun hspan => ?_, fun hspan => ?_⟩⟩
    · have hleft : cycleCompleted (raiseSprintCount s) = raiseSprintCount s := cycleCompleted_left hphases
      exact ⟨(engine_of_cycle _).trans (by rw [hleft]; rfl), board_of_cycle hquiet rfl hleft⟩
    · obtain ⟨hengine, hnotices⟩ := cycleCompleted_grants (s := raiseSprintCount s) hc hphase hqueue hheld hsettled
      rw [engine_of_cycle, hengine]
      exact ⟨⟨_, grantedAs_granted s.clock head rest c, rfl⟩, rfl, waiting_of_cycle hnotices (by decide),
        waiting_of_cycle hnotices (by decide)⟩
    · have hleft : cycleCompleted (raiseSprintCount s) = raiseSprintCount s :=
        cycleCompleted_waits (s := raiseSprintCount s) hc hphase hqueue hwaits
      exact ⟨(engine_of_cycle _).trans (by rw [hleft]; rfl), board_of_cycle hquiet rfl hleft⟩
    · obtain ⟨⟨d, hclosed, hengine⟩, hnotices⟩ :=
        (cycleCompleted_closing (s := raiseSprintCount s) hc hphase hballot hcount hcause).1 hspan
      exact ⟨⟨d, hclosed, (engine_of_cycle _).trans hengine⟩, waiting_of_cycle hnotices (by decide)⟩
    · have hleft := (cycleCompleted_closing (s := raiseSprintCount s) hc hphase hballot hcount hcause).2 hspan
      exact ⟨(engine_of_cycle _).trans (by rw [hleft]; rfl), board_of_cycle hquiet rfl hleft⟩
  · refine exec_quiet (i := .sprintCycleEnd) (if_neg fun ⟨hspeed, hkind, hstage⟩ => ?_) hquiet
    exact hnot.elim (fun h => h hspeed) fun h => h.elim (fun h => h hkind) fun h => h hstage

/-! ### The end of a switch cycle -/

def openedInUse (now : ClockValue) (c : Context) : Context :=
  if c.held = true then { c with phase := .opened, openInstant := some now } else openedAt now c

theorem opened_inUse (now : ClockValue) (c : Context) : c.opened now = openedInUse now c := by
  unfold openedInUse
  split
  next hheld =>
    have hheld' : ({ c with phase := .opened, openInstant := some now } : Context).held = true := hheld
    rw [Context.opened, Context.startUnlessHeld, if_pos hheld']
  next hfree => exact opened_eq now (Bool.eq_false_iff.mpr hfree)

theorem judged_sprint {d : DeskLine} (needed : Bool) (h : d.speed = .sprint) : d.judged needed = d := by
  refine if_neg fun ⟨_, hroam, _⟩ => ?_
  rw [h] at hroam
  cases hroam

theorem sprintInUse_left {s : State} (h : ∀ c, s.engine.active = some c → c.phase ≠ .opening) : sprintInUse s = s := by
  unfold sprintInUse
  split
  next => rfl
  next c hc => exact if_neg (h c hc)

/-- A context that waits for SPRINT opens as soon as SPRINT is in use (R78). -/
theorem sprintInUse_opens {s : State} {c : Context} (hc : s.engine.active = some c) (hphase : c.phase = .opening)
    (hspeed : s.desk.speed = .sprint) : sprintInUse s = { s with
      engine := { s.engine with active := some (openedInUse s.clock c) }
      notices := s.notices.withPending [.round]
      board := s.board.triggered } := by
  have hdesk := judged_sprint (d := (s.setActive (some (openedInUse s.clock c))).desk)
    (needFor s.desk.setting (some (openedInUse s.clock c))) hspeed
  simp only [sprintInUse, hc, hphase, if_true, enterOpen, opened_inUse, signalRoundChange_eq]
  exact congrArg (fun d => { s with
    engine := { s.engine with active := some (openedInUse s.clock c) }
    notices := s.notices.withPending [.round], board := s.board.triggered, desk := d }) hdesk

theorem sprintInUse_cases {s : State} (hspeed : s.desk.speed = .sprint) :
    ((∀ c, s.engine.active = some c → c.phase ≠ .opening) ∧ sprintInUse s = s)
      ∨ ∃ c, s.engine.active = some c ∧ c.phase = .opening ∧ sprintInUse s = { s with
          engine := { s.engine with active := some (openedInUse s.clock c) }
          notices := s.notices.withPending [.round]
          board := s.board.triggered } := by
  by_cases h : ∃ c, s.engine.active = some c ∧ c.phase = .opening
  · obtain ⟨c, hc, hphase⟩ := h
    exact .inr ⟨c, hc, hphase, sprintInUse_opens hc hphase hspeed⟩
  · have hnone : ∀ c, s.engine.active = some c → c.phase ≠ .opening := fun c hc hphase => h ⟨c, hc, hphase⟩
    exact .inl ⟨hnone, sprintInUse_left hnone⟩

/-- SPRINT in use changes neither the desk line nor the roster, and clears nothing pending. -/
theorem sprintInUse_keeps {s : State} (hspeed : s.desk.speed = .sprint) :
    (sprintInUse s).desk = s.desk ∧ (sprintInUse s).roster = s.roster
      ∧ ∀ k, s.notices.waiting.get k = true → (sprintInUse s).notices.waiting.get k = true := by
  rcases sprintInUse_cases hspeed with ⟨-, h⟩ | ⟨c, -, -, h⟩ <;> rw [h]
  · exact ⟨rfl, rfl, fun _ hk => hk⟩
  · exact ⟨rfl, rfl, fun k hk => (withPending_get _ _ _).trans (by simp [hk])⟩

theorem switchCycleEnded_last {s : State} {w : SwitchRecord} (hswitch : s.desk.switch = some w)
    (hkind : s.desk.cycleKind = .switching) (hstage : s.desk.stage = .finished)
    (h : s.outstanding w = [] ∨ 16 ≤ w.completed + 1) :
    switchCycleEnded s = completeSwitch (s.outstanding w) s := by
  have hlast : (s.outstanding { w with completed := w.completed + 1 }).isEmpty = true
      ∨ Config.maxSwitchCycles ≤ w.completed + 1 := h.imp List.isEmpty_iff.mpr id
  simp only [switchCycleEnded, hswitch, hkind, hstage]
  exact if_pos hlast

theorem switchCycleEnded_again {s : State} {w : SwitchRecord} (hswitch : s.desk.switch = some w)
    (hkind : s.desk.cycleKind = .switching) (hstage : s.desk.stage = .finished)
    (hsome : s.outstanding w ≠ []) (hfew : w.completed + 1 < 16) :
    switchCycleEnded s = { s with desk := { s.desk with
      switch := some { w with completed := w.completed + 1 }, stage := .atStart } } := by
  have hmore : ¬((s.outstanding { w with completed := w.completed + 1 }).isEmpty = true
      ∨ Config.maxSwitchCycles ≤ w.completed + 1) := by
    rintro (hempty | hlast)
    · exact hsome (List.isEmpty_iff.mp hempty)
    · exact absurd hlast (Nat.not_le.mpr hfew)
  simp only [switchCycleEnded, hswitch, hkind, hstage]
  exact if_neg hmore

theorem switchCycleEnded_left {s : State}
    (h : s.desk.switch = none ∨ s.desk.cycleKind ≠ .switching ∨ s.desk.stage ≠ .finished) : switchCycleEnded s = s := by
  unfold switchCycleEnded
  split
  next hswitch hkind hstage => simp [hswitch, hkind, hstage] at h
  next => rfl

/-- The state in which SPRINT comes into use: the pads that are still unheard lag, and the switch is over. -/
def switched (unheard : List PadAddr) (s : State) : State :=
  { markAllLagging unheard s with
      desk := { (markAllLagging unheard s).desk with switch := none, speed := .sprint } }

theorem completeSwitch_eq (unheard : List PadAddr) (s : State) :
    completeSwitch unheard s = startCycle .sprint (sprintInUse (switched unheard s)) := rfl

theorem switched_written (unheard : List PadAddr) (s : State) :
    LaggingWritten (· ∈ unheard) (fun a => decide (a ∈ unheard) || (s.pad a).lagging) s (switched unheard s) := by
  obtain ⟨⟨hpad, hchanged, hwaiting⟩, -⟩ := markAllLagging_written unheard s
  exact ⟨hpad, hchanged, hwaiting⟩

theorem completeSwitch_unchangedBut (unheard : List PadAddr) (s : State) :
    unchangedBut [.pads, .desk, .engine, .board, .notices] s (completeSwitch unheard s) := by
  intro b hb
  cases b <;> simp [Block.same] at hb ⊢

theorem startCycle_keeps (k : CycleKind) (s : State) : (startCycle k s).engine = s.engine
    ∧ (startCycle k s).roster = s.roster ∧ (startCycle k s).board = s.board ∧ (startCycle k s).notices = s.notices := by
  simp

theorem LaggingWritten.then {joined : PadAddr → Prop} {flag : PadAddr → Bool} {s t u : State}
    (h : LaggingWritten joined flag s t) (hroster : u.roster = t.roster) (hchanged : u.desk.changed = t.desk.changed)
    (hwaiting : ∀ k, t.notices.waiting.get k = true → u.notices.waiting.get k = true) :
    LaggingWritten joined flag s u where
  pad a := by rw [State.pad, hroster, ← State.pad, h.pad]
  changed a := by rw [hchanged, h.changed]
  waiting hjoined := hwaiting _ (h.waiting hjoined)

/-- What a completed switch leaves of the desk line and the pads. -/
theorem completeSwitch_values (unheard : List PadAddr) (s : State) :
    let t := completeSwitch unheard s
    t.desk.speed = .sprint ∧ t.desk.switch = none ∧ t.desk.cycleKind = .sprint
      ∧ t.desk.sprintCount = s.desk.sprintCount ∧ t.desk.setting = s.desk.setting
      ∧ LaggingWritten (· ∈ unheard) (fun a => decide (a ∈ unheard) || (s.pad a).lagging) s t
      ∧ pollsGoOn (s.padsWith .present) s t := by
  obtain ⟨hdesk, hroster, hwaits⟩ := sprintInUse_keeps (s := switched unheard s) rfl
  have hwritten := switched_written unheard s
  rw [completeSwitch_eq]
  generalize sprintInUse (switched unheard s) = u at hdesk hroster hwaits
  obtain ⟨-, hroster', -, hnotices'⟩ := startCycle_keeps .sprint u
  obtain ⟨hkind, hpolls⟩ := startCycle_goesOn .sprint u
  have hpads : u.padsWith .present = s.padsWith .present := padsWith_of_presence (fun a => by
    rw [State.pad, hroster, ← State.pad, hwritten.pad]) _
  refine ⟨by simp [hdesk, switched], by simp [hdesk, switched], hkind, by simp [hdesk, switched],
    by simp [hdesk, switched], hwritten.then (hroster'.trans hroster) (by simp [hdesk]) fun k hk => ?_, ?_⟩
  · rw [hnotices']
    exact hwaits k hk
  · rw [← hpads]
    exact pollsGoOn_congr (by simp [hdesk, switched]) hpolls

theorem completeSwitch_round (unheard : List PadAddr) (s : State) :
    ((∀ c, s.engine.active = some c → c.phase ≠ .opening) →
        (completeSwitch unheard s).engine = s.engine ∧ (completeSwitch unheard s).board = s.board)
      ∧ ∀ c, s.engine.active = some c → c.phase = .opening →
        (completeSwitch unheard s).engine = { s.engine with active := some (openedInUse s.clock c) }
          ∧ (completeSwitch unheard s).notices.waiting.get .round = true := by
  have hengine : (switched unheard s).engine = s.engine := by simp [switched]
  have hclock : (switched unheard s).clock = s.clock := by simp [switched]
  have hboard : (switched unheard s).board = s.board := by simp [switched]
  rw [completeSwitch_eq]
  obtain ⟨hengine', -, hboard', hnotices'⟩ := startCycle_keeps .sprint (sprintInUse (switched unheard s))
  rw [hengine', hboard', hnotices']
  refine ⟨fun h => ?_, fun c hc hphase => ?_⟩
  · rw [← hengine] at h
    rw [sprintInUse_left h]
    exact ⟨hengine, hboard⟩
  · rw [← hengine] at hc
    rw [sprintInUse_opens hc hphase rfl, hengine, hclock]
    exact ⟨rfl, (withPending_get _ _ _).trans (by simp)⟩

theorem switchCycle_ends : switchCycleEnds := by
  intro s hquiet
  refine ⟨fun w hswitch hkind hstage => ⟨fun hsome hfew => ?_, fun hlast => ?_⟩, fun hnot => ?_⟩
  · exact exec_quiet (i := .switchCycleEnd) (switchCycleEnded_again hswitch hkind hstage hsome hfew) hquiet
  · have heffect : effectOf .switchCycleEnd s = completeSwitch (s.outstanding w) s :=
      switchCycleEnded_last hswitch hkind hstage hlast
    refine happens_taken heffect (completeSwitch_unchangedBut _ s) (by decide) ?_
    obtain ⟨hspeed, hnone, hsprint, hcount, hsetting, ⟨hpad, hchanged, hwaiting⟩, hpolls⟩ :=
      completeSwitch_values (s.outstanding w) s
    obtain ⟨hleft, hopens⟩ := completeSwitch_round (s.outstanding w) s
    rw [desk_takeRequest]
    refine ⟨hspeed, hnone, hsprint, hcount, hsetting, fun a => (pad_takeRequest _ a).trans (hpad a), hchanged,
      fun hsome => takeRequest_get _ _ (hwaiting (List.exists_mem_of_ne_nil _ hsome)), pollsGoOn_takeRequest hpolls,
      fun hphases => ?_, fun c hc hphase => ?_⟩
    · obtain ⟨hengine, hboard⟩ := hleft hphases
      rw [takeRequest_quiet (by rw [hboard]; exact hquiet)]
      exact ⟨hengine, hboard⟩
    · obtain ⟨hengine, hround⟩ := hopens c hc hphase
      exact ⟨(show (takeRequest _).engine = _ by simp).trans hengine, takeRequest_get _ _ hround⟩
  · exact exec_quiet (i := .switchCycleEnd) (switchCycleEnded_left hnot) hquiet

/-- Settles O60: what the end of a SPRINT cycle and of a switch cycle does. -/
theorem cyclesEnd : Obligations.CyclesEnd := ⟨sprintCycle_ends, switchCycle_ends⟩

end Sys2Proof.Proofs

/-! PROOFS. The capture of keys: what a reply does to the pad's accepted keys and its candidate, and the presses that
come of it (R55 to R62). -/

namespace Sys2Proof.Proofs
open Sys2Proof Sys2Proof.Machine

/-! ### What a press reads -/

/-- The states `s` and `u` are one to a press: the round, who is present and the SPRINT count. -/
structure SamePress (s u : State) : Prop where
  engine : u.engine = s.engine
  present : ∀ t, u.teamPresent t = s.teamPresent t
  count : u.desk.sprintCount = s.desk.sprintCount

theorem SamePress.of_kept {s u : State} (hengine : u.engine = s.engine) (hteams : u.roster.teams = s.roster.teams)
    (hcount : u.desk.sprintCount = s.desk.sprintCount) : SamePress s u :=
  ⟨hengine, fun t => by rw [State.teamPresent, State.team, hteams]; rfl, hcount⟩

theorem engine_floorPending {b : Bool} {s u : State} (h : u.engine = s.engine) :
    (if b = true then setPending .floor u else u).engine = (if b = true then setPending .floor s else s).engine := by
  cases b
  · exact h
  · simpa using h

theorem engine_admitClaim (q : Claim) (c : Context) {s u : State} (h : u.engine = s.engine) :
    (admitClaim q c u).engine = (admitClaim q c s).engine := by
  have hset : ∀ d, (u.setActive d).engine = (s.setActive d).engine := fun d => by rw [State.setActive, h]; rfl
  have hqueue : ∀ d, (signalQueueChange (u.setActive d)).engine = (signalQueueChange (s.setActive d)).engine :=
    fun d => by simp [hset]
  unfold admitClaim
  rw [h]
  cases hphase : c.phase with
  | opened => simp [hset]
  | floor =>
    exact engine_floorPending (hqueue _)
  | _ => exact hqueue _

theorem engine_newClaim (q : Claim) (c : Context) {s u : State} (h : u.engine = s.engine) :
    (newClaim q c u).engine = (newClaim q c s).engine := by
  unfold newClaim meetFullQueue
  split
  · exact engine_admitClaim q c h
  · split
    · split
      · exact engine_admitClaim q _ h
      · simp [State.setActive, h]
    · exact h

theorem engine_takeClaim (p : Press) (c : Context) {s u : State} (h : SamePress s u) :
    (takeClaim p c u).engine = (takeClaim p c s).engine := by
  have hclaim : claimOf p u = claimOf p s := by rw [claimOf, h.count, ← claimOf]
  simp only [takeClaim, hclaim]
  split
  · exact h.engine
  · split
    · exact h.engine
    · split
      · split
        · simp [improveClaim, State.setActive, h.engine, h.count]
        · exact h.engine
      · exact engine_newClaim _ c h.engine

theorem engine_takeVote (p : Press) (c : Context) {s u : State} (h : u.engine = s.engine) :
    (takeVote p c u).engine = (takeVote p c s).engine := by
  unfold takeVote
  split
  · split
    · exact h
    · split
      · exact h
      · simp [State.setActive, h]
  · exact h

theorem engine_takePress (p : Press) {s u : State} (h : SamePress s u) :
    (takePress p u).engine = (takePress p s).engine := by
  simp only [takePress, h.engine, h.present]
  split
  · exact h.engine
  · (repeat' split)
    case _ | _ | _ | _ => exact h.engine
    · exact engine_takeVote p _ h.engine
    · exact engine_takeClaim p _ h

theorem SamePress.takePress (p : Press) {s u : State} (h : SamePress s u) :
    SamePress (Machine.takePress p s) (Machine.takePress p u) := by
  refine ⟨engine_takePress p h, fun t => ?_, by simpa using h.count⟩
  have hkept : ∀ v : State, (Machine.takePress p v).teamPresent t = v.teamPresent t := fun v => by
    rw [State.teamPresent, State.team, takePress_frame p v |>.2.1]
    rfl
  rw [hkept, hkept, h.present]

theorem SamePress.presses (l : List Press) {s u : State} (h : SamePress s u) :
    SamePress (l.foldl (fun v p => Machine.takePress p v) s) (takePresses l u) := by
  induction l generalizing s u with
  | nil => exact h
  | cons p ps ih => exact ih (h.takePress p)

/-! ### The presses of a bitmap -/

theorem filter_cons_append {α : Type} (q : α → Bool) (x : α) (l : List α) :
    (x :: l).filter q = (if q x = true then [x] else []) ++ l.filter q := by
  rw [List.filter_cons]
  split <;> rfl

theorem newlyPressed_eq (before after : Keys) : newlyPressed before after
    = [.buzz, .option .a, .option .b, .option .c, .option .d].filter fun k =>
        !keyDown before k && keyDown after k := by
  simp only [filter_cons_append, List.filter_nil, List.append_nil, newlyPressed, List.append_assoc, keyDown]

theorem newlyPressed_same (keys : Keys) : newlyPressed keys keys = [] := by
  simp [newlyPressed]

theorem pressesOf_eq (s : State) (a : PadAddr) (before after : Keys) (capture : ClockValue) :
    pressesOf s a capture (newlyPressed before after) = pressesMade s a before after capture := by
  rw [newlyPressed_eq, pressesOf, pressesMade, State.teamOfPad]
  cases s.placeOf a <;> rfl

theorem pressesMade_same (s : State) (a : PadAddr) (keys : Keys) (capture : ClockValue) :
    pressesMade s a keys keys capture = [] := by
  rw [← pressesOf_eq, newlyPressed_same, pressesOf]
  split <;> rfl

theorem pressesMade_samePlaces {s u : State} (h : SamePlaces s u) (a : PadAddr) (before after : Keys)
    (capture : ClockValue) : pressesMade u a before after capture = pressesMade s a before after capture := by
  have hplace : u.placeOf a = s.placeOf a := by rw [State.placeOf, h.1, h.2, ← State.placeOf]
  rw [pressesMade, hplace, ← pressesMade]

/-! ### The capture of a reply -/

theorem keysDiffer_cancel (x y : Keys) : keysDiffer x (keysDiffer x y) = y := by
  simp [keysDiffer]

theorem setPad_self (s : State) (a : PadAddr) : s.setPad a (s.pad a) = s := by
  have hput : put s.roster.pads a (look s.roster.pads a) = s.roster.pads := by
    simp [put, look, Vector.get]
  rw [State.setPad, State.pad, hput]

/-- The pad's accepted keys and its candidate are written, and then the presses are taken. -/
def captureWrites (a : PadAddr) (after : Keys × Option Candidate) (capture : ClockValue) (s : State) : State :=
  takePresses (pressesMade s a (s.pad a).keys after.1 capture)
    (s.setPad a { s.pad a with keys := after.1, candidate := after.2 })

theorem captureWrites_noPress {a : PadAddr} {after : Keys × Option Candidate} {s : State} (capture : ClockValue)
    (h : after.1 = (s.pad a).keys) :
    captureWrites a after capture s = s.setPad a { s.pad a with candidate := after.2 } := by
  rw [captureWrites, h, pressesMade_same, takePresses]

theorem confirm_eq {a : PadAddr} {c : Candidate} {s : State} {keys : Keys} (h : keys = c.bitmap (s.pad a).keys) :
    confirm a c s = captureWrites a (keys, none) c.captureTime s := by
  subst h
  rw [captureWrites, ← pressesOf_eq, confirm]

theorem countCandidate_eq {a : PadAddr} {c : Candidate} {s : State} {keys : Keys}
    (h : keys = c.bitmap (s.pad a).keys) : countCandidate a c s
      = captureWrites a (if s.debounce ≤ c.agreeing then (keys, none) else ((s.pad a).keys, some c)) c.captureTime s := by
  unfold countCandidate
  split
  · exact confirm_eq h
  · exact (captureWrites_noPress (after := ((s.pad a).keys, some c)) _ rfl).symm

theorem makeCandidate_eq (a : PadAddr) (keys : Keys) (age : Byte) (s : State) : makeCandidate a keys age s
    = captureWrites a (if s.debounce ≤ 1 then (keys, none) else ((s.pad a).keys,
        some { changed := keysDiffer (s.pad a).keys keys, firstSight := s.clock, age := age, agreeing := 1 }))
      (s.clock - age.setWidth 32) s :=
  countCandidate_eq (keysDiffer_cancel _ _).symm

/-- What a reply's keys do to the pad and to the round. -/
theorem captureReply_eq (a : PadAddr) (keys : Keys) (age : Byte) (s : State) : captureReply a keys age s
    = captureWrites a (keysAfter s.clock s.debounce (s.pad a) keys age) (captureTimeOf s.clock (s.pad a) keys age) s := by
  cases hcandidate : (s.pad a).candidate with
  | none =>
    simp only [captureReply, keysAfter, captureTimeOf, hcandidate]
    by_cases hsame : keys = (s.pad a).keys
    · rw [if_pos hsame, if_pos hsame, captureWrites_noPress _ rfl, ← hcandidate]
      exact (setPad_self s a).symm
    · rw [if_neg hsame, if_neg hsame]
      exact makeCandidate_eq a keys age s
  | some c =>
    simp only [captureReply, keysAfter, captureTimeOf, hcandidate]
    by_cases hagrees : keys = keysDiffer (s.pad a).keys c.changed
    · rw [if_pos hagrees, if_pos hagrees]
      exact (if_pos hagrees).trans (countCandidate_eq (c := { c with agreeing := c.agreeing + 1 }) hagrees)
    · rw [if_neg hagrees, if_neg hagrees]
      refine (if_neg hagrees).trans ?_
      by_cases hsame : keys = (s.pad a).keys
      · rw [if_pos hsame, if_pos hsame, captureWrites_noPress _ rfl]
        rfl
      · rw [if_neg hsame, if_neg hsame]
        exact makeCandidate_eq a keys age s

end Sys2Proof.Proofs

/-! PROOFS. A good reply: what it tells about the pad, the echo, and the keys (R42, R54, O58). -/

namespace Sys2Proof.Proofs
open Sys2Proof Sys2Proof.Machine

/-! ### News of a pad -/

theorem insertAsc_twice {n : Nat} (x : Fin n) (l : List (Fin n)) : insertAsc x (insertAsc x l) = insertAsc x l := by
  induction l with
  | nil => simp [insertAsc]
  | cons y ys ih =>
    by_cases hlt : x < y
    · simp [insertAsc, hlt]
    · by_cases heq : x = y
      · simp [insertAsc, heq]
      · simp [insertAsc, hlt, heq, ih]

/-- The pad `a` joined the changed pads where there was news of it. -/
structure PadNews (a : PadAddr) (news : Prop) (s u : State) : Prop where
  joined : news → u.desk.changed = insertAsc a s.desk.changed ∧ u.notices.waiting.get .pad = true
  kept : ¬news → u.desk.changed = s.desk.changed ∧ u.notices = s.notices

theorem PadNews.of_join {a : PadAddr} {news : Prop} {s u : State} (hnews : news)
    (hchanged : u.desk.changed = insertAsc a s.desk.changed) (hwaiting : u.notices.waiting.get .pad = true) :
    PadNews a news s u := ⟨fun _ => ⟨hchanged, hwaiting⟩, fun h => absurd hnews h⟩

theorem PadNews.of_kept {a : PadAddr} {news : Prop} {s u : State} (hnone : ¬news)
    (hchanged : u.desk.changed = s.desk.changed) (hnotices : u.notices = s.notices) :
    PadNews a news s u := ⟨fun h => absurd h hnone, fun _ => ⟨hchanged, hnotices⟩⟩

theorem PadNews.trans {a : PadAddr} {news news' : Prop} {s u v : State} (h : PadNews a news s u)
    (h' : PadNews a news' u v) : PadNews a (news ∨ news') s v := by
  refine ⟨fun hnews => ?_, fun hnone => ?_⟩
  · by_cases hlater : news'
    · obtain ⟨hchanged', hwaiting'⟩ := h'.joined hlater
      refine ⟨hchanged'.trans ?_, hwaiting'⟩
      by_cases hfirst : news
      · rw [(h.joined hfirst).1, insertAsc_twice]
      · rw [(h.kept hfirst).1]
    · obtain ⟨hchanged, hwaiting⟩ := h.joined (hnews.resolve_right hlater)
      obtain ⟨hchanged', hnotices'⟩ := h'.kept hlater
      exact ⟨hchanged'.trans hchanged, hnotices' ▸ hwaiting⟩
  · obtain ⟨hchanged, hnotices⟩ := h.kept fun hn => hnone (.inl hn)
    obtain ⟨hchanged', hnotices'⟩ := h'.kept fun hn => hnone (.inr hn)
    exact ⟨hchanged'.trans hchanged, hnotices'.trans hnotices⟩

/-- A step that writes the record of one pad, and tells the news of it. -/
structure PadWritten (a : PadAddr) (r : PadRecord) (news : Prop) (s u : State) : Prop where
  pad : u.pad a = r
  others : ∀ b, b ≠ a → u.pad b = s.pad b
  news : PadNews a news s u

theorem PadWritten.trans {a : PadAddr} {r r' : PadRecord} {news news' : Prop} {s u v : State}
    (h : PadWritten a r news s u) (h' : PadWritten a r' news' u v) : PadWritten a r' (news ∨ news') s v :=
  ⟨h'.pad, fun b hb => (h'.others b hb).trans (h.others b hb), h.news.trans h'.news⟩

theorem padWritten_left {a : PadAddr} {news : Prop} {s : State} (hnone : ¬news) :
    PadWritten a (s.pad a) news s s := ⟨rfl, fun _ _ => rfl, .of_kept hnone rfl rfl⟩

theorem padWritten_set {a : PadAddr} {r : PadRecord} {news : Prop} {s : State} (hnone : ¬news) :
    PadWritten a r news s (s.setPad a r) :=
  ⟨by rw [pad_setPad, if_pos rfl], fun b hb => by rw [pad_setPad, if_neg (Ne.symm hb)], .of_kept hnone rfl rfl⟩

theorem padWritten_join {a : PadAddr} {r : PadRecord} {news : Prop} {s : State} (hnews : news) :
    PadWritten a r news s (joinPadChanged a (s.setPad a r)) :=
  ⟨by rw [pad_joinPadChanged, pad_setPad, if_pos rfl],
    fun b hb => by rw [pad_joinPadChanged, pad_setPad, if_neg (Ne.symm hb)],
    .of_join hnews (changed_joinPadChanged _ _) (waiting_joinPadChanged _ _)⟩

/-! ### The parts of a reply before its keys -/

theorem discoverPad_written (a : PadAddr) (s : State) :
    ∃ misses, PadWritten a { s.pad a with presence := .present, misses := misses } ((s.pad a).presence ≠ .present) s
      (discoverPad a s) := by
  unfold discoverPad
  split
  next hpresent =>
    have hsame : ({ s.pad a with presence := .present, misses := (s.pad a).misses } : PadRecord) = s.pad a := by
      rw [← hpresent]
    refine ⟨(s.pad a).misses, ?_⟩
    rw [hsame]
    exact padWritten_left fun h => h hpresent
  next habsent => exact ⟨0, padWritten_join habsent⟩

theorem copyStatus_written (a : PadAddr) (low : Bool) (s : State) :
    PadWritten a { s.pad a with misses := 0, batteryLow := low } ((s.pad a).batteryLow ≠ low) s (copyStatus a low s) := by
  unfold copyStatus
  dsimp only
  split
  next hsame => exact padWritten_set fun h => h hsame
  next hdiffers => exact padWritten_join hdiffers

/-- The pad echoed ROAM in the SPRINT speed. -/
def echoedSlow (s : State) (echo : LineSpeed) : Bool := decide (s.desk.speed = .sprint ∧ echo = .roam)

theorem recordEcho_written (a : PadAddr) (echo : LineSpeed) (s : State) :
    PadWritten a { s.pad a with lagging := (s.pad a).lagging || echoedSlow s echo }
      (echoedSlow s echo = true ∧ (s.pad a).lagging = false) s (recordEcho a echo s) := by
  by_cases hslow : s.desk.speed = .sprint ∧ echo = .roam
  · obtain ⟨hspeed, hecho⟩ := hslow
    have hrecord : recordEcho a echo s = if (s.pad a).lagging then s else markLagging a s := by
      simp only [recordEcho, hspeed, hecho]
    rw [hrecord, show echoedSlow s echo = true from decide_eq_true ⟨hspeed, hecho⟩, Bool.or_true]
    split
    next hlags =>
      have hsame : ({ s.pad a with lagging := true } : PadRecord) = s.pad a := by rw [← hlags]
      rw [hsame]
      exact padWritten_left fun h => by simp [hlags] at h
    next hkeeps => exact padWritten_join ⟨rfl, Bool.eq_false_iff.mpr hkeeps⟩
  · rw [show echoedSlow s echo = false from decide_eq_false hslow, Bool.or_false]
    unfold recordEcho
    split
    · split
      · exact ⟨rfl, fun _ _ => rfl, .of_kept (by simp) rfl rfl⟩
      · exact padWritten_left (by simp)
    next hspeed => exact absurd ⟨hspeed, rfl⟩ hslow
    · exact padWritten_left (by simp)
    · exact padWritten_left (by simp)

/-- The echo is recorded in a switch that is under way. -/
theorem switch_recordEcho (a : PadAddr) (echo : LineSpeed) (s : State) :
    (recordEcho a echo s).desk.switch = s.desk.switch.map fun w =>
      if s.desk.speed = .roam ∧ echo = .sprint then { w with echoed := insertAsc a w.echoed } else w := by
  unfold recordEcho
  split
  next hspeed =>
    split
    next w hw => simp [hw, hspeed]
    next hnone => simp [hnone]
  next hspeed =>
    have hkept : ∀ u : State, u.desk.switch = s.desk.switch → u.desk.switch = s.desk.switch.map fun w =>
        if s.desk.speed = .roam ∧ LineSpeed.roam = .sprint then { w with echoed := insertAsc a w.echoed } else w :=
      fun u hu => by simp [hu]
    split
    · exact hkept s rfl
    · exact hkept _ (by simp [markLagging])
  next => simp
  next hspeed => simp [hspeed]

/-- The parts of a reply that come before its keys. -/
def replyRead (a : PadAddr) (r : PadReply) (s : State) : State :=
  recordEcho a r.echo (copyStatus a r.batteryLow (discoverPad a s))

theorem takeReply_eq (a : PadAddr) (r : PadReply) (s : State) : takeReply a r s
    = captureReply a r.keys
        (effectiveAge (replyRead a r s).desk.speed ((replyRead a r s).pad a).lagging r.age) (replyRead a r s) := rfl

theorem replyRead_written (a : PadAddr) (r : PadReply) (s : State) :
    PadWritten a { s.pad a with
        presence := .present, misses := 0, batteryLow := r.batteryLow
        lagging := (s.pad a).lagging || echoedSlow s r.echo }
      ((s.pad a).presence ≠ .present ∨ (s.pad a).batteryLow ≠ r.batteryLow
        ∨ (echoedSlow s r.echo = true ∧ (s.pad a).lagging = false)) s (replyRead a r s) := by
  obtain ⟨misses, hfound⟩ := discoverPad_written a s
  have hcopied := copyStatus_written a r.batteryLow (discoverPad a s)
  rw [hfound.pad] at hcopied
  have hechoed := recordEcho_written a r.echo (copyStatus a r.batteryLow (discoverPad a s))
  have hslow : echoedSlow (copyStatus a r.batteryLow (discoverPad a s)) r.echo = echoedSlow s r.echo := by
    simp [echoedSlow]
  rw [hcopied.pad, hslow] at hechoed
  rw [replyRead]
  simpa only [or_assoc] using (hfound.trans hcopied).trans hechoed

theorem switch_replyRead (a : PadAddr) (r : PadReply) (s : State) :
    (replyRead a r s).desk.switch = s.desk.switch.map fun w =>
      if s.desk.speed = .roam ∧ r.echo = .sprint then { w with echoed := insertAsc a w.echoed } else w := by
  rw [replyRead, switch_recordEcho]
  simp

theorem replyRead_kept (a : PadAddr) (r : PadReply) (s : State) : (replyRead a r s).clock = s.clock
    ∧ (replyRead a r s).debounce = s.debounce ∧ (replyRead a r s).engine = s.engine
    ∧ (replyRead a r s).board = s.board ∧ (replyRead a r s).roster.teams = s.roster.teams
    ∧ (replyRead a r s).desk.speed = s.desk.speed ∧ (replyRead a r s).desk.pointer = s.desk.pointer
    ∧ (replyRead a r s).desk.sprintCount = s.desk.sprintCount := by
  simp [replyRead]

theorem samePlaces_replyRead (a : PadAddr) (r : PadReply) (s : State) : SamePlaces s (replyRead a r s) :=
  ((samePlaces_discoverPad a s).trans (samePlaces_copyStatus a r.batteryLow _)).trans (samePlaces_recordEcho a r.echo _)

/-! ### What presses leave of the notices and the switch -/

/-- What was pending stays pending, and a switch that is under way goes on. -/
structure Signalled (s u : State) : Prop where
  waiting : ∀ k, s.notices.waiting.get k = true → u.notices.waiting.get k = true
  switch : ∀ w, s.desk.switch = some w → u.desk.switch = some w

theorem Signalled.refl (s : State) : Signalled s s := ⟨fun _ h => h, fun _ h => h⟩

theorem Signalled.trans {s u v : State} (h : Signalled s u) (h' : Signalled u v) : Signalled s v :=
  ⟨fun k hk => h'.waiting k (h.waiting k hk), fun w hw => h'.switch w (h.switch w hw)⟩

theorem signalled_pending {s u : State} {ks : List NoticeKind} (hnotices : u.notices = s.notices.withPending ks)
    (hswitch : ∀ w, s.desk.switch = some w → u.desk.switch = some w) : Signalled s u :=
  ⟨fun k hk => by rw [hnotices, withPending_get, hk, Bool.or_true], hswitch⟩

theorem signalled_setPending (k : NoticeKind) (s : State) : Signalled s (setPending k s) := by
  rw [setPending_eq]
  exact signalled_pending rfl fun _ h => h

theorem signalled_floorPending (b : Bool) (s : State) : Signalled s (if b = true then setPending .floor s else s) := by
  cases b
  · exact .refl s
  · exact signalled_setPending .floor s

theorem signalled_queueChange (s : State) (c : Option Context) : Signalled s (signalQueueChange (s.setActive c)) := by
  rw [signalQueueChange_eq]
  exact signalled_pending rfl fun _ h => h

theorem judged_switch {d : DeskLine} {w : SwitchRecord} (needed : Bool) (h : d.switch = some w) :
    d.judged needed = d := by
  refine if_neg fun ⟨_, _, hnone⟩ => ?_
  rw [h] at hnone
  cases hnone

theorem signalled_roundChange (s : State) : Signalled s (signalRoundChange s) := by
  rw [signalRoundChange_eq]
  refine signalled_pending rfl fun w hw => ?_
  rw [judged_switch _ hw]
  exact hw

theorem signalled_admitClaim (q : Claim) (c : Context) (s : State) : Signalled s (admitClaim q c s) := by
  unfold admitClaim
  cases c.phase with
  | opened => exact (signalled_queueChange s _).trans (signalled_roundChange _)
  | floor =>
    exact (signalled_queueChange s _).trans (signalled_floorPending _ _)
  | _ => exact signalled_queueChange s _

theorem signalled_newClaim (q : Claim) (c : Context) (s : State) : Signalled s (newClaim q c s) := by
  unfold newClaim meetFullQueue
  split
  · exact signalled_admitClaim q c s
  · split
    · split
      · exact signalled_admitClaim q _ s
      · exact ⟨fun _ h => h, fun _ h => h⟩
    · exact .refl s

theorem signalled_takeClaim (p : Press) (c : Context) (s : State) : Signalled s (takeClaim p c s) := by
  unfold takeClaim
  split
  · exact .refl s
  · split
    · exact .refl s
    · split
      · split
        · exact signalled_queueChange s _
        · exact .refl s
      · exact signalled_newClaim _ c s

theorem signalled_takeVote (p : Press) (c : Context) (s : State) : Signalled s (takeVote p c s) := by
  unfold takeVote
  split
  · split
    · exact .refl s
    · split
      · exact .refl s
      · exact ⟨fun _ h => h, fun _ h => h⟩
  · exact .refl s

theorem signalled_takePress (p : Press) (s : State) : Signalled s (takePress p s) := by
  unfold takePress
  split
  · exact .refl s
  · (repeat' split)
    case _ | _ | _ | _ => exact .refl s
    · exact signalled_takeVote p _ s
    · exact signalled_takeClaim p _ s

theorem signalled_takePresses (l : List Press) (s : State) : Signalled s (takePresses l s) := by
  induction l generalizing s with
  | nil => exact .refl s
  | cons p ps ih => exact (signalled_takePress p s).trans (ih _)

/-! ### The reply -/

theorem effectiveAge_eq (speed : LineSpeed) (lagging : Bool) (age : Option Byte) : effectiveAge speed lagging age
    = match age with
      | some g => if speed = .sprint ∧ lagging = false then g else 0#8
      | none => 0#8 := by
  cases speed <;> cases lagging <;> cases age <;> rfl

/-- The keys, the candidate and the presses of a reply, in terms of the state before it. -/
structure KeysCaptured (a : PadAddr) (after : Keys × Option Candidate) (capture : ClockValue) (s u v : State) : Prop where
  pad : v.pad a = { u.pad a with keys := after.1, candidate := after.2 }
  others : ∀ b, b ≠ a → v.pad b = u.pad b
  changed : v.desk.changed = u.desk.changed
  signalled : Signalled u v
  engine : v.engine
    = ((pressesMade s a (s.pad a).keys after.1 capture).foldl (fun w press => takePress press w) s).engine
  quiet : after.1 = (s.pad a).keys → v.engine = s.engine ∧ v.board = s.board
    ∧ v.desk.switch.isSome = s.desk.switch.isSome

theorem pad_takePresses (l : List Press) (s : State) (a : PadAddr) : (takePresses l s).pad a = s.pad a := by
  simp [State.pad]

theorem captureWrites_captured {a : PadAddr} {after : Keys × Option Candidate} {capture : ClockValue} {s u : State}
    (hpress : SamePress s u) (hplaces : SamePlaces s u) (hkeys : (u.pad a).keys = (s.pad a).keys)
    (hboard : u.board = s.board) (hswitch : u.desk.switch.isSome = s.desk.switch.isSome) :
    KeysCaptured a after capture s u (captureWrites a after capture u) := by
  have hset : SamePress s (u.setPad a { u.pad a with keys := after.1, candidate := after.2 }) :=
    ⟨hpress.engine, hpress.present, hpress.count⟩
  have hsignalled : Signalled u (u.setPad a { u.pad a with keys := after.1, candidate := after.2 }) :=
    ⟨fun _ h => h, fun _ h => h⟩
  unfold captureWrites
  rw [pressesMade_samePlaces hplaces, hkeys]
  refine ⟨?_, fun b hb => ?_, by simp, hsignalled.trans (signalled_takePresses _ _), (hset.presses _).engine, fun hsame => ?_⟩
  · rw [pad_takePresses, pad_setPad, if_pos rfl]
  · rw [pad_takePresses, pad_setPad, if_neg (Ne.symm hb)]
  · rw [hsame, pressesMade_same]
    exact ⟨hpress.engine, hboard, hswitch⟩

theorem takeReply_captured (a : PadAddr) (r : PadReply) (s : State) {age : Byte}
    (hage : effectiveAge s.desk.speed ((s.pad a).lagging || echoedSlow s r.echo) r.age = age) :
    KeysCaptured a (keysAfter s.clock s.debounce (s.pad a) r.keys age) (captureTimeOf s.clock (s.pad a) r.keys age) s
      (replyRead a r s) (takeReply a r s) := by
  obtain ⟨hclock, hdebounce, hengine, hboard, hteams, hspeed, -, hcount⟩ := replyRead_kept a r s
  have hpad := (replyRead_written a r s).pad
  have hkeys : ((replyRead a r s).pad a).keys = (s.pad a).keys := by rw [hpad]
  have hswitch : (replyRead a r s).desk.switch.isSome = s.desk.switch.isSome := by
    rw [switch_replyRead, Option.isSome_map]
  rw [takeReply_eq, captureReply_eq, hclock, hdebounce, hspeed, hpad, hage]
  exact captureWrites_captured (.of_kept hengine hteams hcount) (samePlaces_replyRead a r s) hkeys hboard hswitch

theorem takeReply_unchangedBut (a : PadAddr) (r : PadReply) (stage : CycleStage) (s : State) :
    unchangedBut [.pads, .desk, .engine, .board, .notices] s (afterPoll stage (takeReply a r s)) := by
  intro b hb
  cases b <;> simp [Block.same] at hb ⊢

theorem replyArrives_good {s : State} {p : Poll} {r : PadReply} (h : s.desk.stage.openPoll = some p)
    (hgood : r.checkGood = true) (haddress : r.address.toNat = p.address.val) :
    replyArrives r s = afterPoll s.desk.stage (takeReply p.address r s) := by
  simp only [replyArrives, h]
  exact if_pos ⟨hgood, haddress⟩

theorem cycleAdvances_takeRequest {s u : State} (h : cycleAdvances s u) : cycleAdvances s (takeRequest u) := by
  unfold cycleAdvances at h ⊢
  split at h
  · exact pollsGoOn_takeRequest h
  · rw [desk_takeRequest]
    exact h
  all_goals exact h.elim

theorem afterPoll_keeps (stage : CycleStage) (s : State) : (afterPoll stage s).engine = s.engine
    ∧ (afterPoll stage s).board = s.board ∧ (afterPoll stage s).notices = s.notices
    ∧ (afterPoll stage s).desk.switch = s.desk.switch ∧ (afterPoll stage s).desk.changed = s.desk.changed := by
  simp

/-- Settles O58: what a good reply does to its pad, to the switch and to the round. -/
theorem repliesUpdateThePad : Obligations.RepliesUpdateThePad := by
  intro s p r hquiet hopen hgood haddress
  refine happens_taken (i := .pollReplyTaken r) (replyArrives_good hopen hgood haddress)
    (takeReply_unchangedBut p.address r s.desk.stage s) (by decide) ?_
  obtain ⟨hpad, hothers, hnews⟩ := replyRead_written p.address r s
  have hcaptured := takeReply_captured p.address r s (effectiveAge_eq _ _ _)
  have hread := switch_replyRead p.address r s
  have hadvances := cycleAdvances_takeRequest (afterPoll_advances (s := s) (u := takeReply p.address r s) hopen (by simp))
  obtain ⟨hengine, hboard, hnotices, hswitch, hchanged⟩ := afterPoll_keeps s.desk.stage (takeReply p.address r s)
  dsimp only
  rw [desk_takeRequest]
  refine ⟨?_, fun b hb => ?_, fun h => ⟨?_, ?_⟩, fun h => ?_, ?_, by simp, by simp, by simp, by simp, hadvances, ?_,
    fun h => ?_⟩
  · rw [pad_takeRequest, pad_afterPoll]
    have hwritten := hcaptured.pad
    rw [hpad] at hwritten
    exact hwritten
  · rw [pad_takeRequest, pad_afterPoll, hcaptured.others b hb, hothers b hb]
  · rw [hchanged, hcaptured.changed]
    exact (hnews.joined h).1
  · refine takeRequest_get _ _ ?_
    rw [hnotices]
    exact hcaptured.signalled.waiting _ (hnews.joined h).2
  · rw [hchanged, hcaptured.changed]
    exact (hnews.kept h).1
  · rw [hswitch]
    split
    next w hw =>
      rw [hw] at hread
      exact hcaptured.signalled.switch _ hread
    next => rfl
  · exact ((show (takeRequest _).engine = _ by simp).trans hengine).trans hcaptured.engine
  · obtain ⟨hengine', hboard', hswitch'⟩ := hcaptured.quiet h
    have hleft : (afterPoll s.desk.stage (takeReply p.address r s)).board = s.board := hboard.trans hboard'
    rw [takeRequest_quiet (by rw [hleft]; exact hquiet), hswitch]
    exact ⟨hengine.trans hengine', hleft, hswitch'⟩

end Sys2Proof.Proofs

/-! PROOFS. Presses: their examination, the claims of a round and the votes of a poll (R80 to R87, R100 to R106, O59). -/

namespace Sys2Proof.Proofs
open Sys2Proof Sys2Proof.Machine

theorem earlier_iff (a b : ClockValue) : earlier a b = true ↔ 0 < clockDiff a b := decide_eq_true_iff

theorem earlier_eq_false_iff (a b : ClockValue) : earlier a b = false ↔ clockDiff a b ≤ 0 := by
  rw [← Bool.not_eq_true, earlier_iff, Int.not_lt]

/-! ### The examination of a press -/

theorem falseStart_eq_false_iff (c : Context) (capture : ClockValue) :
    c.falseStart capture = false ↔ ∀ t, c.openInstant = some t → clockDiff capture t ≤ 0 := by
  unfold Context.falseStart
  split
  next t h => simp [h, earlier_eq_false_iff]
  next h => simp [h]

theorem takePress_examined {p : Press} {c : Context} {s : State} (hc : s.engine.active = some c)
    (h : passesExamination p c s) : takePress p s = if c.isPoll then takeVote p c s else takeClaim p c s := by
  obtain ⟨hphase, heligible, hpresent, hopen⟩ := h
  have hteam : s.teamPresent p.team = true := decide_eq_true hpresent
  have hstart : c.falseStart p.capture = false := (falseStart_eq_false_iff c _).mpr hopen
  simp only [takePress, hc, hphase, heligible, hteam, hstart, Bool.not_true, not_true_eq_false, Bool.false_eq_true,
    if_false]

theorem takePress_unexamined {p : Press} {c : Context} {s : State} (hc : s.engine.active = some c)
    (h : ¬passesExamination p c s) : takePress p s = s := by
  simp only [takePress, hc]
  by_cases hphase : c.phase.takesPresses = true
  case neg => simp [hphase]
  by_cases heligible : p.team ∈ c.eligible
  case neg => simp [heligible]
  by_cases hpresent : s.teamPresent p.team = true
  case neg => simp [hpresent]
  by_cases hstart : c.falseStart p.capture = true
  case pos => simp [hstart]
  have hopen := (falseStart_eq_false_iff c p.capture).mp (Bool.eq_false_iff.mpr hstart)
  exact absurd ⟨hphase, heligible, of_decide_eq_true hpresent, hopen⟩ h

theorem presses_areExamined : pressesAreExamined := by
  intro s p
  exact ⟨fun hnone => by simp only [takePress, hnone], fun c hc h => takePress_unexamined hc h⟩

/-! ### Claims -/

/-- The context `c` with a claim admitted: the team is in the queue, and no longer among the overflow. -/
def admitted (team : TeamId) (queue : List Claim) (phase : Phase) (c : Context) : Context :=
  { c with queue := queue, phase := phase, overflow := c.overflow.filter fun t => t != team }

theorem admitClaim_opened {q : Claim} {c : Context} (s : State) (hphase : c.phase = .opened) :
    admitClaim q c s = { s.setActive (some (admitted q.team
        (insertClaim s.engine.tiePointer { q with contested := false } c.queue) .settling c)) with
      notices := s.notices.withPending [.queue, .round]
      desk := s.desk.judged true
      board := s.board.triggered } := by
  have hneed : ∀ queue, needFor s.desk.setting (some (admitted q.team queue .settling c)) = true := by
    simp [needFor, admitted, Phase.needsSprint]
  have hadmit : admitClaim q c s = signalRoundChange (signalQueueChange (s.setActive (some (admitted q.team
      (insertClaim s.engine.tiePointer { q with contested := false } c.queue) .settling c)))) := by
    simp only [admitClaim, hphase, placeClaim]
    rfl
  rw [hadmit, signalRoundChange_eq, signalQueueChange_eq]
  simp only [State.setActive, hneed, triggered_twice, withPending_append]
  rfl

theorem admitClaim_settling {q : Claim} {c : Context} (s : State) (hphase : c.phase = .settling) :
    admitClaim q c s = { s.setActive (some (admitted q.team
        (insertClaim s.engine.tiePointer { q with contested := false } c.queue) .settling c)) with
      notices := s.notices.withPending [.queue]
      board := s.board.triggered } := by
  have hadmit : admitClaim q c s = signalQueueChange (s.setActive (some (admitted q.team
      (insertClaim s.engine.tiePointer { q with contested := false } c.queue) .settling c))) := by
    simp only [admitClaim, hphase, placeClaim, admitted]
    rfl
  rw [hadmit, signalQueueChange_eq]
  rfl

theorem admitClaim_floor {q head : Claim} {rest : List Claim} {c : Context} (s : State) (hphase : c.phase = .floor)
    (hqueue : c.queue = head :: rest) :
    admitClaim q c s = { s.setActive (some (admitted q.team (head :: insertClaim s.engine.tiePointer
        { q with contested := earlier q.capture head.capture } rest) .floor c)) with
      notices := s.notices.withPending (if earlier q.capture head.capture = true then [.queue, .floor] else [.queue])
      board := s.board.triggered } := by
  have hadmit : admitClaim q c s = (if earlier q.capture head.capture = true then setPending .floor else id)
      (signalQueueChange (s.setActive (some (admitted q.team (head :: insertClaim s.engine.tiePointer
        { q with contested := earlier q.capture head.capture } rest) .floor c)))) := by
    simp only [admitClaim, hphase, hqueue, placeClaim, admitted]
    split <;> rfl
  rw [hadmit, signalQueueChange_eq]
  split
  · rw [setPending_eq]
    simp only [State.setActive, withPending_append]
    rfl
  · rfl

theorem find?_of_hasClaim_false {c : Context} {t : TeamId} (h : c.hasClaim t = false) :
    (c.queue.find? fun q => q.team == t) = none := by
  rw [Context.hasClaim, List.any_eq_false] at h
  exact List.find?_eq_none.mpr h

theorem takeClaim_refused {p : Press} {c : Context} {s : State} (h : p.key ≠ .buzz ∨ p.team ∈ c.lockout) :
    takeClaim p c s = s := by
  unfold takeClaim
  split
  next => rfl
  next hkey => exact if_pos (h.resolve_left hkey)

theorem takeClaim_again {p : Press} {c : Context} {s : State} {old : Claim} (hkey : p.key = .buzz)
    (hlock : p.team ∉ c.lockout) (hold : (c.queue.find? fun q => q.team == p.team) = some old) : takeClaim p c s
      = if c.phase = .settling ∧ earlier p.capture old.capture = true then improveClaim p old c s else s := by
  simp only [takeClaim, hkey, hold, ne_eq, not_true_eq_false, if_false, hlock]

theorem takeClaim_new {p : Press} {c : Context} {s : State} (hkey : p.key = .buzz) (hlock : p.team ∉ c.lockout)
    (hnone : c.hasClaim p.team = false) : takeClaim p c s = newClaim (claimOf p s) c s := by
  simp only [takeClaim, hkey, find?_of_hasClaim_false hnone, ne_eq, not_true_eq_false, if_false, hlock]

theorem newClaim_room {q : Claim} {c : Context} {s : State} (h : c.queue.length < 8) :
    newClaim q c s = admitClaim q c s := if_pos h

theorem newClaim_full {q last : Claim} {c : Context} {s : State} (h : c.queue.length = 8)
    (hlast : c.queue.getLast? = some last) : newClaim q c s = meetFullQueue q last c s := by
  have hfull : ¬c.queue.length < Config.maxClaims := by simp [h, Config.maxClaims]
  simp only [newClaim, if_neg hfull, hlast]

theorem improveClaim_settling {p : Press} {old : Claim} {c : Context} {s : State} (hphase : c.phase = .settling) :
    improveClaim p old c s = { s.setActive (some { c with
          queue := insertClaim s.engine.tiePointer
            { old with pad := p.pad, capture := p.capture, joinCycle := s.desk.sprintCount }
            (c.queue.filter fun q => q.team != p.team) }) with
      notices := s.notices.withPending [.queue]
      board := s.board.triggered } := by
  simp only [improveClaim, hphase, placeClaim, signalQueueChange_eq]
  rfl

/-- The claim that a later one displaces makes room, and the press is taken once more. -/
theorem displaced_again {p : Press} {c : Context} {s : State} {last : Claim} (hkind : c.isPoll = false)
    (hexam : passesExamination p c s) (hkey : p.key = .buzz) (hlock : p.team ∉ c.lockout)
    (hnone : c.hasClaim p.team = false) (hfull : c.queue.length = 8) :
    takePress p (s.setActive (some { c with queue := c.queue.dropLast, overflow := insertAsc last.team c.overflow }))
      = admitClaim (claimOf p s) { c with queue := c.queue.dropLast, overflow := insertAsc last.team c.overflow } s := by
  let d : Context := { c with queue := c.queue.dropLast, overflow := insertAsc last.team c.overflow }
  have hexam' : passesExamination p d (s.setActive (some d)) := hexam
  have hkind' : d.isPoll = false := hkind
  have hlock' : p.team ∉ d.lockout := hlock
  have hnone' : d.hasClaim p.team = false := by
    rw [Context.hasClaim, List.any_eq_false] at hnone ⊢
    exact fun q hq => hnone q (List.dropLast_subset _ hq)
  have hroom : d.queue.length < 8 := by simp [d, hfull]
  rw [takePress_examined (c := d) rfl hexam', hkind', if_neg Bool.false_ne_true, takeClaim_new hkey hlock' hnone', newClaim_room hroom]
  rfl

theorem presses_makeClaims : pressesMakeClaims := by
  intro s p c hc hkind hexam
  have htake : takePress p s = takeClaim p c s := by
    rw [takePress_examined hc hexam, hkind, if_neg Bool.false_ne_true]
  dsimp only
  rw [htake]
  refine ⟨takeClaim_refused, fun hkey hlock => ⟨fun old hold => ⟨fun hphase hearlier => ?_, fun hnot => ?_⟩,
    fun hnone hroom => ⟨fun hphase => ?_, fun hphase => ?_, fun head rest hphase hqueue => ⟨fun hearlier => ?_,
      fun hlater => ?_⟩⟩, fun last hnone hfull hlast => ⟨fun hearlier => ?_, fun hlater => ?_⟩⟩⟩
  · rw [takeClaim_again hkey hlock hold, if_pos ⟨hphase, (earlier_iff _ _).mpr hearlier⟩, improveClaim_settling hphase]
    rfl
  · rw [takeClaim_again hkey hlock hold]
    refine if_neg fun ⟨hphase, hearlier⟩ => ?_
    rcases hnot with h | h
    · exact h hphase
    · exact absurd ((earlier_iff _ _).mp hearlier) (Int.not_lt.mpr h)
  · rw [claimAdmitted, htake, takeClaim_new hkey hlock hnone, newClaim_room hroom, admitClaim_opened s hphase,
      if_pos hphase]
    rfl
  · rw [claimAdmitted, htake, takeClaim_new hkey hlock hnone, newClaim_room hroom, admitClaim_settling s hphase,
      if_neg (show ¬c.phase = .opened by simp [hphase]), ← hphase]
    rfl
  · rw [claimAdmitted, htake, takeClaim_new hkey hlock hnone, newClaim_room hroom, admitClaim_floor s hphase hqueue,
      if_neg (show ¬c.phase = .opened by simp [hphase]), ← hphase]
    have hcontested : earlier (claimOf p s).capture head.capture = true := (earlier_iff _ _).mpr hearlier
    rw [hcontested, if_pos rfl]
    rfl
  · rw [claimAdmitted, htake, takeClaim_new hkey hlock hnone, newClaim_room hroom, admitClaim_floor s hphase hqueue,
      if_neg (show ¬c.phase = .opened by simp [hphase]), ← hphase]
    have hlate : earlier (claimOf p s).capture head.capture = false := (earlier_eq_false_iff _ _).mpr hlater
    rw [hlate, if_neg Bool.false_ne_true]
    rfl
  · rw [takeClaim_new hkey hlock hnone, newClaim_full hfull hlast]
    exact (if_pos ((earlier_iff _ _).mpr hearlier)).trans (displaced_again hkind hexam hkey hlock hnone hfull).symm
  · rw [takeClaim_new hkey hlock hnone, newClaim_full hfull hlast]
    exact if_neg (Bool.eq_false_iff.mp ((earlier_eq_false_iff _ _).mpr hlater))

/-! ### Votes -/

theorem isPoll_of_pollFields {c : Context} {f : PollFields} (h : c.pollFields = some f) : c.isPoll = true := by
  unfold Context.pollFields at h
  unfold Context.isPoll
  split at h <;> simp_all

theorem tooLate_iff (c : Context) (capture : ClockValue) : c.tooLate capture = true ↔
    ∃ d, (c.phase = .opened ∧ c.roundDeadline = some d ∨ c.phase = .closing ∧ c.closeInstant = some d)
      ∧ clockDiff capture d ≤ 0 := by
  unfold Context.tooLate
  split
  next d _ hphase hdeadline => simp [hphase, hdeadline, earlier_eq_false_iff]
  next d hphase hinstant => simp [hphase, hinstant, earlier_eq_false_iff]
  next hopened hclosing =>
    refine ⟨fun h => absurd h Bool.false_ne_true, ?_⟩
    rintro ⟨d, ⟨hphase, hdeadline⟩ | ⟨hphase, hinstant⟩, -⟩
    · exact (hopened d hphase hdeadline).elim
    · exact (hclosing d hphase hinstant).elim

theorem take_choiceTaken (policy : ChangePolicy) (o : Letter) (capture : ClockValue) (e : BallotEntry) :
    choiceTaken policy o capture e (e.take policy o capture) := by
  refine ⟨fun hnone => ?_, fun v hv => ⟨fun hpolicy => ⟨fun hbefore => ?_, fun hafter => ?_⟩,
    fun hpolicy => ⟨fun hafter hother => ?_, fun hkept => ?_⟩⟩⟩
  · simp only [BallotEntry.take, hnone]
    rfl
  · simp only [BallotEntry.take, hv, hpolicy]
    exact if_pos ((earlier_iff _ _).mpr hbefore)
  · simp only [BallotEntry.take, hv, hpolicy]
    exact if_neg (Bool.eq_false_iff.mp ((earlier_eq_false_iff _ _).mpr hafter))
  · simp only [BallotEntry.take, hv, hpolicy]
    exact if_pos ⟨(earlier_iff _ _).mpr hafter, hother⟩
  · simp only [BallotEntry.take, hv, hpolicy]
    refine if_neg fun ⟨hafter, hother⟩ => ?_
    rcases hkept with h | h
    · exact absurd ((earlier_iff _ _).mp hafter) (Int.not_lt.mpr h)
    · exact hother h

theorem takeVote_refused {p : Press} {c : Context} {s : State} {f : PollFields} {b : Ballot}
    (hfields : c.pollFields = some f) (hballot : c.ballot = some b)
    (h : p.key = .buzz ∨ (∃ o, p.key = .option o ∧ f.options ≤ o.code) ∨ c.tooLate p.capture = true) :
    takeVote p c s = s := by
  cases hkey : p.key with
  | buzz => simp only [takeVote, hkey]
  | option o =>
    simp only [takeVote, hkey, hfields, hballot]
    split
    next => rfl
    next hoption =>
      refine if_pos ?_
      rcases h with h | ⟨o', ho', hcode⟩ | h
      · rw [hkey] at h
        cases h
      · rw [hkey] at ho'
        cases ho'
        exact absurd hcode hoption
      · exact h

theorem takeVote_taken {p : Press} {c : Context} {s : State} {f : PollFields} {b : Ballot} {o : Letter}
    (hfields : c.pollFields = some f) (hballot : c.ballot = some b) (hkey : p.key = .option o)
    (hoption : o.code < f.options) (hlate : ¬c.tooLate p.capture = true) :
    takeVote p c s = s.setActive (some { c with ballot := some (b.take f.policy p.team o p.capture) }) := by
  simp only [takeVote, hkey, hfields, hballot, if_neg (Nat.not_le.mpr hoption), if_neg hlate]

theorem presses_makeVotes : pressesMakeVotes := by
  intro s p c f b hc hfields hballot _ hexam
  have htake : takePress p s = takeVote p c s := by
    rw [takePress_examined hc hexam, if_pos (isPoll_of_pollFields hfields)]
  dsimp only
  rw [htake, ← tooLate_iff]
  refine ⟨takeVote_refused hfields hballot, fun o hkey hoption hlate =>
    ⟨BallotEntry.take f.policy o p.capture, take_choiceTaken f.policy o p.capture, ?_⟩⟩
  rw [takeVote_taken hfields hballot hkey hoption hlate]
  rfl

/-- Settles O59: how a press is examined, the claim it makes in a round, and the vote it makes in a poll. -/
theorem pressesMakeClaimsAndVotes : Obligations.PressesMakeClaimsAndVotes :=
  ⟨presses_areExamined, presses_makeClaims, presses_makeVotes⟩

end Sys2Proof.Proofs

/-! PROOFS. What a command does, and what it answers, does not depend on how far the assembler has come (R192): the
parts that commands are made of. -/

namespace Sys2Proof.Proofs
open Sys2Proof Sys2Proof.Machine

/-! ### Choices -/

/-- A function goes into the branches of a choice. -/
theorem ite_of_branches {α β : Type} (g : α → β) {p q : Prop} [Decidable p] [Decidable q] {x y : β} {x' y' : α}
    (hpq : p ↔ q) (hx : x = g x') (hy : y = g y') : (if p then x else y) = g (if q then x' else y') := by
  by_cases h : p
  · rw [if_pos h, if_pos (hpq.mp h), hx]
  · rw [if_neg h, if_neg (mt hpq.mpr h), hy]

/-- The result of a command, with the assembler looking for a frame. -/
def hunted (r : State × Answer) : State × Answer := (hunt r.1, r.2)

/-- The function `f` does not depend on the assembler. -/
def HuntFree (f : State → State) : Prop := ∀ s, f (hunt s) = hunt (f s)

/-- The command `act` does not depend on the assembler. -/
def HuntFreeAct (act : State → State × Answer) : Prop := ∀ s, act (hunt s) = hunted (act s)

theorem HuntFree.comp {f g : State → State} (hf : HuntFree f) (hg : HuntFree g) : HuntFree fun s => f (g s) :=
  fun s => (congrArg f (hg s)).trans (hf (g s))

/-! ### The round -/

theorem signalQueueChange_hunt : HuntFree signalQueueChange := fun s => by
  rw [signalQueueChange_eq, signalQueueChange_eq]
  rfl

theorem signalRoundChange_hunt : HuntFree signalRoundChange := fun s => by
  rw [signalRoundChange_eq, signalRoundChange_eq]
  rfl

theorem autoRequest_hunt : HuntFree autoRequest := fun s => by
  rw [autoRequest_eq, autoRequest_eq]
  rfl

theorem judgeNeed_hunt : HuntFree judgeNeed := fun s => by
  rw [judgeNeed_eq, judgeNeed_eq]
  rfl

/-- A new active context, signalled as a round change. -/
theorem signalActive_hunt (c : Option Context) : HuntFree fun s => signalRoundChange (s.setActive c) :=
  fun s => signalRoundChange_hunt (s.setActive c)

theorem closeRound_hunt (e : Ending) (c : Context) : HuntFree (closeRound e c) :=
  fun s => signalRoundChange_hunt (s.setActive (some ((c.talliedAtClose s).closed s.clock e)))

theorem closeVoting_hunt (cause : EndCause) (instant : ClockValue) (c : Context) :
    HuntFree (closeVoting cause instant c) := fun s => signalRoundChange_hunt (s.setActive _)

theorem enterOpen_hunt (c : Context) : HuntFree (enterOpen c) :=
  fun s => signalRoundChange_hunt (s.setActive (some (c.opened s.clock)))

theorem floorPass_hunt (cause : EndCause) (c : Context) : HuntFree (floorPass cause c) := by
  intro s
  unfold floorPass
  dsimp only
  split
  · exact ite_of_branches hunt Iff.rfl rfl (signalActive_hunt _ s)
  · exact ite_of_branches hunt Iff.rfl (closeRound_hunt _ _ s)
      (ite_of_branches hunt Iff.rfl (signalActive_hunt _ s) (closeRound_hunt _ _ s))

/-- A function that leaves the silence monitor and the link port alone, and does not read them. -/
theorem huntFree_of_told {f : State → State} (hlink : ∀ s, (f s).link = s.link)
    (hsilence : ∀ s, (f s).silence = s.silence)
    (h : ∀ s l m, f { s with link := l, silence := m } = { f s with link := l, silence := m }) : HuntFree f := by
  intro s
  refine (h s (hunt s).link s.silence).trans ?_
  rw [← hsilence s, hunt, hunt, hlink]

theorem applyAward_hunt (a : Award) : HuntFree (applyAward a) :=
  huntFree_of_told (by simp) (by simp) (applyAward_told a)

theorem handOver_hunt (a : Award) : HuntFree (handOver a) :=
  huntFree_of_told (by simp) (by simp) (handOver_told a)

theorem handOverAll_hunt (l : List Award) : HuntFree (handOverAll l) :=
  huntFree_of_told (by simp) (by simp) (handOverAll_told l)

theorem endLock_hunt : HuntFree endLock :=
  huntFree_of_told (by simp) (by simp) endLock_told

theorem voidVerdict_hunt (cause : EndCause) (t : TeamId) (c : Context) : HuntFree (voidVerdict cause t c) :=
  (floorPass_hunt cause _).comp signalQueueChange_hunt

theorem wrongVerdict_hunt (cause : EndCause) (t : TeamId) (c : Context) : HuntFree (wrongVerdict cause t c) :=
  (floorPass_hunt cause _).comp (signalQueueChange_hunt.comp (handOver_hunt _))

theorem correctVerdict_hunt (t : TeamId) (c : Context) : HuntFree (correctVerdict t c) :=
  (closeRound_hunt _ c).comp (handOver_hunt _)

theorem applyVerdict_hunt (v : Verdict) (t : TeamId) (c : Context) : HuntFree (applyVerdict v t c) := by
  cases v with
  | correct => exact correctVerdict_hunt t c
  | wrong => exact wrongVerdict_hunt .judged t c
  | void => exact voidVerdict_hunt .judged t c

theorem endAnswer_hunt (cause : EndCause) (c : Context) : HuntFree (endAnswer cause c) := by
  intro s
  unfold endAnswer
  split
  · dsimp only
    split
    · exact wrongVerdict_hunt cause _ _ s
    · exact voidVerdict_hunt cause _ _ s
  · rfl

theorem reopenEmptied_hunt (c : Context) : HuntFree (reopenEmptied c) := fun s =>
  ite_of_branches hunt Iff.rfl (closeRound_hunt _ _ s) (signalActive_hunt _ s)

theorem removeClaim_hunt (t : TeamId) (c : Context) : HuntFree (removeClaim t c) := by
  intro s
  have hsignal := signalQueueChange_hunt (s.setActive (some { c with queue := withoutTeam t c.queue }))
  unfold removeClaim
  dsimp only
  split
  · refine ite_of_branches hunt Iff.rfl ?_ hsignal
    split
    · exact (congrArg _ hsignal).trans (reopenEmptied_hunt _ _)
    · exact (congrArg _ hsignal).trans (settleTest_hunt _)
  · exact hsignal

theorem dropBenchedClaim_hunt (t : TeamId) : HuntFree (dropBenchedClaim t) := by
  intro s
  unfold dropBenchedClaim
  simp only [hunt_frame]
  split
  · rfl
  · exact ite_of_branches hunt Iff.rfl (removeClaim_hunt t _ s) rfl

theorem changeTeam_hunt (t : TeamId) (state : Option TeamState) (tag : Option (Option (List Glyph))) :
    HuntFree (changeTeam t state tag) := fun s =>
  ite_of_branches hunt Iff.rfl (dropBenchedClaim_hunt t (s.setTeam t ((s.team t).withStateTag state tag))) rfl

/-! ### Arming -/

theorem playCue_hunt (x : SlotId) (cue : Cue) : HuntFree (playCue x cue) := fun s => by
  refine ite_of_branches hunt Iff.rfl ?_ rfl
  rw [notePageWrap, notePageWrap, setPending_eq, setPending_eq]
  rfl

theorem armContext_hunt (x : SlotId) (cue : Cue) : HuntFree (armContext x cue) := fun s => by
  rw [armContext, playCue_hunt]
  exact signalActive_hunt _ _

/-! ### The notice flags -/

theorem discardPending_hunt (k : NoticeKind) : HuntFree (discardPending k) := by
  intro s
  cases k <;> rfl

theorem discardAll_hunt (ks : List NoticeKind) : HuntFree (discardAll ks) := by
  induction ks with
  | nil => exact fun _ => rfl
  | cons k ks ih => exact ih.comp (discardPending_hunt k)

theorem enableAll_hunt (on : Bool) (ks : List NoticeKind) : HuntFree (enableAll on ks) := by
  induction ks with
  | nil => exact fun _ => rfl
  | cons k ks ih => exact ih.comp (fun _ => rfl)

/-! ### The hold that a frame ends (R136) -/

theorem validFrame_hunt : HuntFree validFrame := by
  intro s
  unfold validFrame
  simp only [hunt_frame]
  split
  · rfl
  · rfl
  · exact endHold_hunt _ s

end Sys2Proof.Proofs

/-! PROOFS. No command depends on how far the assembler has come: one lemma for each command, in the order of the
command table (R192). -/

namespace Sys2Proof.Proofs
open Sys2Proof Sys2Proof.Machine

/-! ### Teams, pads and the desk -/

theorem teamSet_hunt (args : TeamSetArgs) : HuntFreeAct (teamSet args) := by
  intro s
  unfold teamSet
  split
  · refine ite_of_branches hunted Iff.rfl rfl ?_
    dsimp only
    rw [changeTeam_hunt]
    rfl
  · rfl

theorem assignToPlace_hunt (a : PadAddr) (p : Place) : HuntFreeAct (assignToPlace a p) := fun _ =>
  ite_of_branches hunted Iff.rfl rfl (ite_of_branches hunted Iff.rfl rfl rfl)

theorem padAssign_hunt (args : PadAssignArgs) : HuntFreeAct (padAssign args) := by
  intro s
  unfold padAssign
  split
  · rfl
  · rfl
  · split
    · exact assignToPlace_hunt _ _ s
    · rfl

theorem layoutSet_hunt (mode : Byte) : HuntFreeAct (layoutSet mode) := by
  intro s
  unfold layoutSet
  split
  · rfl
  · exact ite_of_branches hunted Iff.rfl rfl rfl

theorem padForget_hunt (pad : Byte) : HuntFreeAct (padForget pad) := by
  intro s
  unfold padForget
  split
  · rfl
  · exact ite_of_branches hunted Iff.rfl rfl rfl

theorem queryTeam_hunt (team : Byte) : HuntFreeAct (queryTeam team) := by
  intro s
  unfold queryTeam
  split <;> rfl

theorem queryPad_hunt (pad : Byte) : HuntFreeAct (queryPad pad) := by
  intro s
  unfold queryPad
  split <;> rfl

theorem deskSpeed_hunt (setting : Byte) : HuntFreeAct (deskSpeed setting) := by
  intro s
  unfold deskSpeed
  split
  · rfl
  next v _ =>
    have hjudge := judgeNeed_hunt { s with desk := { s.desk with setting := v } }
    exact congrArg (fun t : State =>
      (t, ok [.name t.desk.setting.code, .name (speedCode t.desk.speed), .flag t.desk.switch.isSome])) hjudge

theorem lampSet_hunt (args : LampSetArgs) : HuntFreeAct (lampSet args) := by
  intro s
  unfold lampSet
  split
  · rfl
  · rfl
  · split <;> rfl

theorem captureSet_hunt (count : Byte) : HuntFreeAct (captureSet count) := by
  intro s
  unfold captureSet
  split
  · rfl
  · exact ite_of_branches hunted Iff.rfl rfl rfl

/-! ### Cues -/

theorem cueLoad_hunt (p : Payload CueLoadArgs) : HuntFreeAct (cueLoad p) := by
  intro s
  unfold cueLoad
  split
  · rfl
  · split <;> rfl

theorem cueErase_hunt (target : EraseTarget) : HuntFreeAct (cueErase target) := by
  intro s
  unfold cueErase
  split <;> rfl

theorem cuePoint_hunt (slot : Byte) : HuntFreeAct (cuePoint slot) := by
  intro s
  unfold cuePoint
  split <;> rfl

theorem queryCue_hunt (q : CueQuery) : HuntFreeAct (queryCue q) := by
  intro s
  unfold queryCue
  split
  · split <;> rfl
  · split <;> rfl

/-! ### Rounds -/

theorem armOrdinary_hunt (x : SlotId) (cue : Cue) : HuntFreeAct (armOrdinary x cue) := by
  intro s
  have hrefusal : teamsRefusal (hunt s) cue = teamsRefusal s cue := rfl
  unfold armOrdinary
  rw [hrefusal, armContext_hunt]
  split <;> rfl

theorem armInterjection_hunt (x : SlotId) (cue : Cue) (c : Context) : HuntFreeAct (armInterjection x cue c) := by
  intro s
  have hrefusal : teamsRefusal (hunt s) cue = teamsRefusal s cue := rfl
  refine ite_of_branches hunted Iff.rfl rfl ?_
  rw [hrefusal]
  split
  · rfl
  · have harm := armContext_hunt x cue (pushContext .tiebreak c s)
    exact congrArg (fun t : State => (t, ok (armReply s x cue ++ [.u8 t.stack.length]))) harm

theorem armCue_hunt (x : SlotId) (cue : Cue) : HuntFreeAct (armCue x cue) := by
  intro s
  unfold armCue
  simp only [hunt_frame]
  split
  · exact armOrdinary_hunt x cue s
  · split
    · exact armOrdinary_hunt x cue s
    · exact armOrdinary_hunt x cue s
    · exact armInterjection_hunt x cue _ s
    · exact armInterjection_hunt x cue _ s
    · rfl

theorem roundArm_hunt (slot : Option Byte) : HuntFreeAct (roundArm slot) := by
  intro s
  have hslot : (hunt s).slotToArm slot = s.slotToArm slot := rfl
  have hcue : ∀ x, (hunt s).cueSlot x = s.cueSlot x := fun _ => rfl
  unfold roundArm
  rw [hslot]
  simp only [hcue]
  split
  · rfl
  · split
    · rfl
    · exact armCue_hunt _ _ s

theorem roundOpen_hunt (a : NoArgs) : HuntFreeAct (roundOpen a) := by
  intro s
  unfold roundOpen
  simp only [hunt_frame]
  split
  · rfl
  · refine ite_of_branches hunted Iff.rfl (ite_of_branches hunted Iff.rfl ?_ ?_) rfl
    · rw [enterOpen_hunt]
      rfl
    · exact congrArg (fun t : State => (t, ok [.name Phase.opening.code])) (signalActive_hunt _ s)

theorem callTime_hunt (a : NoArgs) : HuntFreeAct (callTime a) := by
  intro s
  unfold callTime
  simp only [hunt_frame]
  split
  · rfl
  · split
    next c _ _ _ =>
      have hcalled : (if c.isPoll then closeVoting .called s.clock c (hunt s)
          else closeRound { outcome := .timeUp, cause := .called } c.stopWindowAtZero (hunt s))
          = hunt (if c.isPoll then closeVoting .called s.clock c s
            else closeRound { outcome := .timeUp, cause := .called } c.stopWindowAtZero s) :=
        ite_of_branches hunt Iff.rfl (closeVoting_hunt _ _ c s) (closeRound_hunt _ _ s)
      exact congrArg (fun t => (t, callTimeReply t)) hcalled
    · exact congrArg (fun t => (t, callTimeReply t)) (endAnswer_hunt .called _ s)
    all_goals rfl

theorem roundAbort_hunt (a : NoArgs) : HuntFreeAct (roundAbort a) := by
  intro s
  unfold roundAbort
  simp only [hunt_frame]
  split
  · rfl
  · split
    case h_1 | h_2 => rfl
    all_goals exact congrArg (fun t : State => (t, ok _)) (closeRound_hunt _ _ s)

theorem roundClear_hunt (a : NoArgs) : HuntFreeAct (roundClear a) := by
  intro s
  unfold roundClear
  simp only [hunt_frame]
  split
  · rfl
  · split
    case h_1 | h_2 => exact congrArg (fun t : State => (t, ok [])) (signalActive_hunt none s)
    all_goals rfl

theorem queryRound_hunt (a : NoArgs) : HuntFreeAct (queryRound a) := by
  intro s
  unfold queryRound
  simp only [hunt_frame]
  split <;> rfl

theorem judgeTeam_hunt (t : TeamId) (v : Verdict) : HuntFreeAct (judgeTeam t v) := by
  intro s
  unfold judgeTeam
  simp only [hunt_frame]
  split
  · rfl
  · refine ite_of_branches hunted Iff.rfl ?_ rfl
    rw [applyVerdict_hunt]
    rfl

theorem judge_hunt (p : Payload JudgeArgs) : HuntFreeAct (judge p) := by
  intro s
  unfold judge
  split
  · rfl
  · split
    · exact judgeTeam_hunt _ _ s
    · rfl

theorem claimDrop_hunt (team : Byte) : HuntFreeAct (claimDrop team) := by
  intro s
  unfold claimDrop
  simp only [hunt_frame]
  split
  · rfl
  · rfl
  · refine ite_of_branches hunted Iff.rfl rfl (ite_of_branches hunted Iff.rfl rfl
      (ite_of_branches hunted Iff.rfl ?_ rfl))
    rw [removeClaim_hunt]
    rfl

theorem claimReports_hunt (s : State) (n : Nat) (l : List Claim) : claimReports (hunt s) n l = claimReports s n l := by
  induction l generalizing n with
  | nil => rfl
  | cons q qs ih =>
    rw [claimReports, claimReports, ih]
    rfl

theorem queryQueue_hunt (a : NoArgs) : HuntFreeAct (queryQueue a) := by
  intro s
  unfold queryQueue
  simp only [hunt_frame]
  split
  · rfl
  next c _ =>
    refine ite_of_branches hunted Iff.rfl rfl ?_
    have hreport : queueReport (hunt s) c = queueReport s c := by
      rw [queueReport, queueReport, claimReports_hunt]
      rfl
    rw [hreport]
    rfl

/-! ### Polls -/

theorem acceptReveal_hunt (right : Letter) (fromCommand : Bool) (e : Ending) (c : Context) (f : PollFields)
    (b : Ballot) : HuntFreeAct (acceptReveal right fromCommand e c f b) := by
  intro s
  have hawards : revealAwards (hunt s) c f b right = revealAwards s c f b right := rfl
  have hballot : b.revealedBy (hunt s) f right = b.revealedBy s f right := rfl
  simp only [acceptReveal, hawards, hballot, handOverAll_hunt _ s]
  exact congrArg (fun t : State => (t, ok _)) (signalActive_hunt _ _)

theorem revealWith_hunt (given : Option Letter) (e : Ending) (c : Context) (f : PollFields) (b : Ballot) :
    HuntFreeAct (revealWith given e c f b) := by
  intro s
  unfold revealWith
  dsimp only
  split
  · exact ite_of_branches hunted Iff.rfl rfl (acceptReveal_hunt _ _ _ _ _ _ s)
  · exact acceptReveal_hunt _ _ _ _ _ _ s
  · rfl

theorem reveal_hunt (option : Option Byte) : HuntFreeAct (reveal option) := by
  intro s
  unfold reveal
  simp only [hunt_frame]
  split
  · rfl
  · rfl
  · split
    · exact ite_of_branches hunted Iff.rfl (revealWith_hunt _ _ _ _ _ s) rfl
    · rfl

theorem queryBallot_hunt (a : NoArgs) : HuntFreeAct (queryBallot a) := by
  intro s
  unfold queryBallot
  simp only [hunt_frame]
  split
  · rfl
  · split <;> rfl

/-! ### Scores -/

theorem scoreAdjust_hunt (args : ScoreAdjustArgs) : HuntFreeAct (scoreAdjust args) := by
  intro s
  have hscore : ∀ t, (hunt s).liveScore t = s.liveScore t := fun _ => rfl
  unfold scoreAdjust
  simp only [hscore]
  split
  · rfl
  · split
    · rfl
    · rw [applyAward_hunt]
      rfl

theorem scoreLock_hunt (seconds : Byte) : HuntFreeAct (scoreLock seconds) := by
  intro s
  unfold scoreLock
  split
  · rfl
  next n _ =>
    refine ite_of_branches hunted Iff.rfl rfl ?_
    have hlock := autoRequest_hunt { s with scores := { s.scores with
      lock := .held (ticksAfter s.clock (secondsToTicks n)) s.snapshot } }
    exact congrArg (fun t : State => (t, ok [.clock (ticksAfter s.clock (secondsToTicks n))])) hlock

theorem scoreUnlock_hunt (a : NoArgs) : HuntFreeAct (scoreUnlock a) := by
  intro s
  refine ite_of_branches hunted Iff.rfl ?_ rfl
  rw [endLock_hunt]
  rfl

/-! ### The stack and the silence monitor -/

theorem suspendContext_hunt (c : Context) : HuntFreeAct (suspendContext c) := by
  intro s
  have hsuspend := signalActive_hunt none (pushContext .suspend c s)
  exact congrArg (fun t : State => (t, ok ([.slot c.source, .name c.phase.code]
    ++ optItems ticksItem (c.pauseWindow s.clock).roundRemaining ++ [.u8 t.stack.length]))) hsuspend

theorem roundSuspend_hunt (a : NoArgs) : HuntFreeAct (roundSuspend a) := by
  intro s
  unfold roundSuspend
  simp only [hunt_frame]
  split
  · rfl
  · split
    case h_2 | h_3 => exact ite_of_branches hunted Iff.rfl rfl (suspendContext_hunt _ s)
    all_goals rfl

theorem resumeContext_hunt (x : SavedContext) (rest : List SavedContext) : HuntFreeAct (resumeContext x rest) :=
  fun s => congrArg (fun t : State => (t, ok _)) (signalActive_hunt _ { s with stack := rest })

theorem roundResume_hunt (a : NoArgs) : HuntFreeAct (roundResume a) := by
  intro s
  refine ite_of_branches hunted Iff.rfl ?_ rfl
  simp only [hunt_frame]
  split
  · rfl
  · exact resumeContext_hunt _ _ s

theorem silenceArm_hunt (seconds : Byte) : HuntFreeAct (silenceArm seconds) := by
  intro s
  unfold silenceArm
  simp only [hunt_frame]
  split
  · rfl
  · split <;> rfl

/-! ### The board -/

theorem boardSet_hunt (on : Bool) : HuntFreeAct (boardSet on) := fun s =>
  congrArg (fun t : State => (t, ok [])) (ite_of_branches hunt (p := (on && !s.board.auto) = true) Iff.rfl rfl rfl)

theorem boardScan_hunt (a : NoArgs) : HuntFreeAct (boardScan a) := fun _ => ite_of_branches hunted Iff.rfl rfl rfl

theorem routeSet_hunt (args : RouteSetArgs) : HuntFreeAct (routeSet args) := by
  intro s
  unfold routeSet
  split
  · exact ite_of_branches hunted Iff.rfl rfl (ite_of_branches hunted Iff.rfl rfl rfl)
  · rfl

theorem routeClear_hunt (target : RouteTarget) : HuntFreeAct (routeClear target) := by
  intro s
  unfold routeClear
  split
  · rfl
  · split <;> rfl

theorem queryBoard_hunt (panel : Option Byte) : HuntFreeAct (queryBoard panel) := by
  intro s
  unfold queryBoard
  split
  · rfl
  · split <;> rfl

/-! ### The notices -/

theorem noticeEnable_hunt (args : NoticeEnableArgs) : HuntFreeAct (noticeEnable args) := by
  intro s
  unfold noticeEnable
  split
  · rfl
  next ks _ =>
    have hwritten : (if args.on then enableAll true ks (hunt s) else discardAll ks (enableAll false ks (hunt s)))
        = hunt (if args.on then enableAll true ks s else discardAll ks (enableAll false ks s)) :=
      ite_of_branches hunt Iff.rfl (enableAll_hunt true ks s) ((discardAll_hunt ks).comp (enableAll_hunt false ks) s)
    exact congrArg (fun t => (t, ok (flagItems t))) hwritten

theorem noticeClear_hunt (target : NoticeTarget) : HuntFreeAct (noticeClear target) := by
  intro s
  unfold noticeClear
  split
  · rfl
  · rw [discardAll_hunt]
    rfl

/-! ### Every command -/

theorem withArgs_hunt {α : Type} {act : α → State → State × Answer} (h : ∀ a, HuntFreeAct (act a)) (p : Payload α) :
    HuntFreeAct (withArgs p act) := by
  intro s
  cases p with
  | fits a => exact h a s
  | misfit => rfl

theorem runCommand_hunt (c : Command) : HuntFreeAct (runCommand c) := by
  cases c with
  | teamSet p => exact withArgs_hunt teamSet_hunt p
  | padAssign p => exact withArgs_hunt padAssign_hunt p
  | layoutSet p => exact withArgs_hunt layoutSet_hunt p
  | padForget p => exact withArgs_hunt padForget_hunt p
  | queryTeam p => exact withArgs_hunt queryTeam_hunt p
  | queryPad p => exact withArgs_hunt queryPad_hunt p
  | deskSpeed p => exact withArgs_hunt deskSpeed_hunt p
  | lampSet p => exact withArgs_hunt lampSet_hunt p
  | captureSet p => exact withArgs_hunt captureSet_hunt p
  | cueLoad p => exact cueLoad_hunt p
  | cueErase p => exact withArgs_hunt cueErase_hunt p
  | cuePoint p => exact withArgs_hunt cuePoint_hunt p
  | queryCue p => exact withArgs_hunt queryCue_hunt p
  | roundArm p => exact withArgs_hunt roundArm_hunt p
  | roundOpen p => exact withArgs_hunt roundOpen_hunt p
  | callTime p => exact withArgs_hunt callTime_hunt p
  | roundAbort p => exact withArgs_hunt roundAbort_hunt p
  | roundClear p => exact withArgs_hunt roundClear_hunt p
  | queryRound p => exact withArgs_hunt queryRound_hunt p
  | judge p => exact judge_hunt p
  | claimDrop p => exact withArgs_hunt claimDrop_hunt p
  | queryQueue p => exact withArgs_hunt queryQueue_hunt p
  | reveal p => exact withArgs_hunt reveal_hunt p
  | queryBallot p => exact withArgs_hunt queryBallot_hunt p
  | scoreAdjust p => exact withArgs_hunt scoreAdjust_hunt p
  | scoreLock p => exact withArgs_hunt scoreLock_hunt p
  | scoreUnlock p => exact withArgs_hunt scoreUnlock_hunt p
  | roundSuspend p => exact withArgs_hunt roundSuspend_hunt p
  | roundResume p => exact withArgs_hunt roundResume_hunt p
  | silenceArm p => exact withArgs_hunt silenceArm_hunt p
  | boardScan p => exact withArgs_hunt boardScan_hunt p
  | boardSet p => exact withArgs_hunt boardSet_hunt p
  | routeSet p => exact withArgs_hunt routeSet_hunt p
  | routeClear p => exact withArgs_hunt routeClear_hunt p
  | queryBoard p => exact withArgs_hunt queryBoard_hunt p
  | noticeEnable p => exact withArgs_hunt noticeEnable_hunt p
  | noticeClear p => exact withArgs_hunt noticeClear_hunt p
  | queryDesk p | queryClock p | queryAwards p | queryStack p | boardPublish p | identify p | keepalive p
  | restart p => exact withArgs_hunt (fun _ _ => rfl) p

end Sys2Proof.Proofs

/-! PROOFS. An entry that was sent leaves the reply queue, and what was held behind the full queue takes its place
(R192, O11). -/

namespace Sys2Proof.Proofs
open Sys2Proof Sys2Proof.Machine

theorem executeCommand_hunt (c : Command) : HuntFree (executeCommand c) := by
  intro s
  simp only [executeCommand, validFrame_hunt s, runCommand_hunt c (validFrame s)]
  rfl

theorem takeRequest_hunt : HuntFree takeRequest := fun s => by
  have hlink : (takeRequest s).link = s.link := by simp
  refine (takeRequest_withLink s (hunt s).link).trans ?_
  rw [hunt, hunt, hlink]

theorem nextEntry_sending {s : State} (hsending : s.link.transmitter = .entry) (hqueue : s.link.queue ≠ []) :
    nextEntry s = s := by
  rw [nextEntry_eq, if_neg hqueue, ← hsending]
  rfl

theorem itemArrives_taken {s : State} (x : HeldItem) (hrestarting : s.link.restarting = false)
    (hheld : s.link.held = none) (hroom : s.link.queue.length < 4) : itemArrives x s = takeItem x s := by
  have hroom' : s.link.queue.length < Config.maxReplies := hroom
  simp [itemArrives, hrestarting, hheld, hroom']

theorem enqueue_sending (e : QueueEntry) {s : State} (hsending : s.link.transmitter = .entry) :
    enqueue e s = { s with link := { s.link with queue := s.link.queue ++ [e] } } := by
  have hbusy : ¬s.link.transmitter = .idle := by simp [hsending]
  rw [enqueue, if_neg hbusy]

/-- The item taken after a sent entry joins a queue that is being sent. -/
theorem nextEntry_taken (x : HeldItem) {s : State} (hsending : s.link.transmitter = .entry) :
    nextEntry (takeItem x s) = takeItem x s := by
  obtain ⟨e, b, hlink⟩ := takeItem_link x s
  exact nextEntry_sending (by simp [hlink, hsending]) (by simp [hlink])

/-- The state between the entry sent and the held item taken. -/
def afterSent (rest : List QueueEntry) (s : State) : State :=
  { s with link := { s.link with queue := rest, held := none } }

theorem entrySent_takes {s : State} {e : QueueEntry} {rest : List QueueEntry} {x : HeldItem}
    (hsending : s.link.transmitter = .entry) (hqueue : s.link.queue = e :: rest) (hfull : 4 ≤ s.link.queue.length)
    (hheld : s.link.held = some x) : entrySent s = takeItem x (afterSent rest s) :=
  (entrySent_held hsending hqueue hfull hheld).trans (nextEntry_taken x (s := afterSent rest s) hsending)

/-- Settles O11: the entry sent leaves the queue, and the held item is taken as if it arrived then. -/
theorem sentEntryLeavesTheQueue : Obligations.SentEntryLeavesTheQueue := by
  intro s hquiet
  refine ⟨fun e rest hsending hqueue hroom => ?_, fun e rest r hsending hqueue hfull hheld => ?_,
    fun e rest kind hsending hqueue hfull hheld => ?_,
    fun e rest i c hsending hqueue hfour hi hheld hrestarting => ?_, fun hidle => ?_⟩
  · exact exec_quiet (i := .replySent) (entrySent_noneHeld hsending hqueue hroom) hquiet
  · exact exec_quiet (i := .replySent) ((entrySent_takes hsending hqueue hfull hheld).trans
      (enqueue_sending (s := afterSent rest s) _ hsending)) hquiet
  · exact exec_quiet (i := .replySent) ((entrySent_takes hsending hqueue hfull hheld).trans
      (enqueue_sending (s := afterSent rest s) _ hsending)) hquiet
  · have hroom : rest.length < 4 := by
      rw [hqueue, List.length_cons] at hfour
      omega
    have harrives : effectOf i (afterSent rest s) = hunt (executeCommand c (afterSent rest s)) := by
      rw [effectOf_command hi, frameCompletes,
        itemArrives_taken (s := hunt (afterSent rest s)) _ hrestarting rfl hroom]
      exact executeCommand_hunt c _
    have hsent : effectOf .replySent s = executeCommand c (afterSent rest s) :=
      entrySent_takes hsending hqueue (Nat.le_of_eq hfour.symm) hheld
    have hassembler : (takeRequest (executeCommand c (afterSent rest s))).link.assembler = s.link.assembler := by
      obtain ⟨x, b, hlink⟩ := executeFrame_link (.command c) (afterSent rest s)
      have hkept : (executeFrame (.command c) (afterSent rest s)).link.assembler = s.link.assembler := by
        rw [hlink]
        rfl
      have hsame : (takeRequest (executeCommand c (afterSent rest s))).link = (executeCommand c (afterSent rest s)).link := by
        simp
      rw [hsame]
      exact hkept
    refine ⟨hunt (takeRequest (executeCommand c (afterSent rest s))), ?_, ?_⟩
    · rw [← takeRequest_hunt, ← harrives]
      exact exec_eq_next i _
    · rw [exec_eq_next, hsent, ← hassembler]
      rfl
  · exact exec_quiet (i := .replySent) (entrySent_notSending hidle) hquiet

end Sys2Proof.Proofs
